-- ==== Sys2Proof/Word.lean ====
section
/-! DEFINITION. The words the manual treats as bits: bytes of a frame or of the port window, two-byte quantities,
and the 48-bit factory identity. -/

namespace Sys2Proof

/-- One byte of a frame's payload, of the port window or of the transfer buffer. -/
abbrev Byte := BitVec 8

/-- A two-byte quantity as it stands in a frame or in the window (R175, section 12.2). -/
abbrev Half := BitVec 16

/-- A module's 48-bit factory identity (00_scope.md, "Addresses and identities"). -/
abbrev Identity := BitVec 48

end Sys2Proof
end

