-- ==== Sys2Proof/Syntax.lean ====
section
/-! DEFINITION. The commands of the block: one constructor of Instr for each row of spec/opcode_table.json, with the
operands the row's step has. A host command has no operand: it reads its parameters from P0 to P7 (R159), which
REGISTER_WRITE sets. -/

namespace Sys2Proof

/-- A frame on the line, section 12.1, from its priority to its payload. The identity field is present on the line only
when the source is 0; otherwise its value here has no meaning. The length field is the payload's length and the check
is worked out by R173. -/
structure Frame where
  priority : BitVec 2
  source : Byte
  identity : Identity
  destination : Byte
  kind : BitVec 6
  payload : List Byte
  deriving DecidableEq, Repr

/-- How a reception goes wrong, R147: a stuff error after eight equal bits of the level given (true: recessive), a length
field of 25 to 31, or a frame whose received check is the one given. -/
inductive InvalidReception where
  | stuffError (level : Bool)
  | badLength (length : BitVec 5)
  | badCheck (frame : Frame) (check : Half)
  deriving DecidableEq, Repr

/-- The owners that take an epoch expiry, each in its own rule, R41. -/
inductive EpochOwner where
  | leaseDirectory
  | addressPool
  | prober
  | censusUnit
  deriving DecidableEq, Repr

/-- The commands: every step of spec/opcode_table.json. -/
inductive Instr where
  /-- PART_RESET, with the levels of the two bit-rate straps, of AUTOSTART and of SEGMENT_END (true: high). -/
  | partReset (rateFirst rateSecond autostart segmentEnd : Bool)
  /-- FRAME_HEARD: any valid frame received to the end of its check. -/
  | frameHeard (frame : Frame)
  /-- FRAME_INVALID. -/
  | frameInvalid (cause : InvalidReception)
  /-- FOREIGN_DIRECTORY_FRAME: a valid frame from FEh that the DL416 did not send. -/
  | foreignDirectoryFrame (priority : BitVec 2) (destination : Byte) (kind : BitVec 6) (payload : List Byte)
  /-- JOIN: identity in the arbitration field, hint and requested term in the payload. -/
  | join (priority : BitVec 2) (identity : Identity) (hint : Byte) (term : Half)
  /-- ACCEPT. -/
  | accept (priority : BitVec 2) (source : Byte) (identity : Identity)
  /-- RENEW. -/
  | renew (priority : BitVec 2) (source : Byte) (identity : Identity) (term : Half)
  /-- LEAVE. -/
  | leave (priority : BitVec 2) (source : Byte) (identity : Identity)
  /-- CLASH_REPORT. -/
  | clashReport (priority : BitVec 2) (source : Byte) (identity : Identity)
  /-- PROBE_REPLY. -/
  | probeReply (priority : BitVec 2) (source : Byte) (identity : Identity)
  /-- RESOLVE_IDENTITY: the identity asked for. -/
  | resolveIdentity (priority : BitVec 2) (source : Byte) (identity : Identity)
  /-- RESOLVE_ADDRESS: the address asked for. -/
  | resolveAddress (priority : BitVec 2) (source : Byte) (address : Byte)
  /-- CLAIM: identity, requested term and the group numbers listed. -/
  | claim (priority : BitVec 2) (source : Byte) (identity : Identity) (term : Half) (groups : List Byte)
  /-- GROUP_JOIN. -/
  | groupJoin (priority : BitVec 2) (source : Byte) (group : Byte)
  /-- GROUP_LEAVE. -/
  | groupLeave (priority : BitVec 2) (source : Byte) (group : Byte)
  /-- GROUP_EXPAND. -/
  | groupExpand (priority : BitVec 2) (source : Byte) (group : Byte)
  /-- TRANSMIT_BEGIN. -/
  | transmitBegin
  /-- ARBITRATION_LOST. -/
  | arbitrationLost
  /-- ECHO_DIFFERENCE. -/
  | echoDifference
  /-- ACKNOWLEDGE_SLOT, with whether the slot was read dominant. -/
  | acknowledgeSlot (dominant : Bool)
  /-- WAITING_CLAIM_GRANTED. -/
  | waitingClaimGranted
  /-- LINE_ONLINE. -/
  | lineOnline
  /-- LINE_FAULT. -/
  | lineFault
  /-- FAULT_RECOVERY. -/
  | faultRecovery
  /-- EPOCH_EXPIRY, with the order in which the owners take it (owners left out come after, in the order of R41). -/
  | epochExpiry (order : List EpochOwner)
  /-- LAPSE of the record at the address. -/
  | lapse (address : Byte)
  /-- DISPUTE_HOLD_EXPIRY of the record at the address. -/
  | disputeHoldExpiry (address : Byte)
  /-- QUARANTINE_HOLD_EXPIRY. -/
  | quarantineHoldExpiry
  /-- CENSUS_WINDOW_END. -/
  | censusWindowEnd
  /-- OFFER_WAIT_EXPIRY of the offer at the address. -/
  | offerWaitExpiry (address : Byte)
  /-- PROBE_WAIT_EXPIRY. -/
  | probeWaitExpiry
  /-- PROBE_CHOOSE. -/
  | probeChoose
  /-- SET_PARAMETER, code 01h. -/
  | setParameter
  /-- READ_PARAMETERS, code 02h. -/
  | readParameters
  /-- READ_SUMMARY, code 03h. -/
  | readSummary
  /-- ACKNOWLEDGE_ATTENTION, code 04h. -/
  | acknowledgeAttention
  /-- RESERVE, code 10h. -/
  | reserve
  /-- LOAD_RESERVATIONS, code 11h. -/
  | loadReservations
  /-- RELEASE_RESERVATION, code 12h. -/
  | releaseReservation
  /-- CLEAR_DIRECTORY, code 20h. -/
  | clearDirectory
  /-- EVICT, code 21h. -/
  | evict
  /-- PIN, code 22h. -/
  | pin
  /-- UNPIN, code 23h. -/
  | unpin
  /-- AWARD, code 24h. -/
  | award
  /-- START_CENSUS, code 30h. -/
  | startCensus
  /-- END_CENSUS, code 31h. -/
  | endCensus
  /-- START_SWEEP, code 32h. -/
  | startSweep
  /-- STOP_SWEEP, code 33h. -/
  | stopSweep
  /-- GROUP_ASSIGN, code 40h. -/
  | groupAssign
  /-- GROUP_REMOVE, code 41h. -/
  | groupRemove
  /-- READ_GROUP, code 42h. -/
  | readGroup
  /-- SET_GROUP_MODE, code 43h. -/
  | setGroupMode
  /-- CLEAR_GROUP, code 44h. -/
  | clearGroup
  /-- LINE_ENABLE, code 50h. -/
  | lineEnable
  /-- LINE_DISABLE, code 51h. -/
  | lineDisable
  /-- SET_BIT_RATE, code 52h. -/
  | setBitRate
  /-- READ_RECORD, code 60h. -/
  | readRecord
  /-- READ_DIRECTORY, code 61h. -/
  | readDirectory
  /-- COLLECT_CHANGES, code 62h. -/
  | collectChanges
  /-- READ_FREE_LIST, code 63h. -/
  | readFreeList
  /-- READ_QUARANTINE, code 64h. -/
  | readQuarantine
  /-- PORT_RESTART, code FFh. -/
  | portRestart
  /-- BAD_COMMAND: the code written. -/
  | badCommand (code : Byte)
  /-- BUFFER_DATA_READ: one data byte read at the buffer data offset. -/
  | bufferDataRead
  /-- BUFFER_DATA_WRITE: one data byte written at the buffer data offset. -/
  | bufferDataWrite (data : Byte)
  /-- ATTENTION_ENABLES_WRITE. -/
  | attentionEnablesWrite (data : Byte)
  /-- REGISTER_WRITE: a transaction at the port, its header byte (R174) and its completed data bytes. -/
  | registerWrite (header : Byte) (data : List Byte)
  /-- LINE_IDLE. -/
  | lineIdle
  /-- START_MARK_RECEIVED. -/
  | startMarkReceived
  /-- DESTINATION_FIELD_READ: the destination read. -/
  | destinationFieldRead (destination : Byte)
  /-- COMMAND_WRITE_WHILE_BUSY: the code written. -/
  | commandWriteWhileBusy (code : Byte)
  deriving DecidableEq, Repr

end Sys2Proof
end

