-- ==== Sys2Proof/Decode.lean ====
section
/-! DEFINITION. The decoder of the table's words. No row of spec/opcode_table.json gives bits ("fields": [] in every row),
so no word spells a command. The frames and the window's transactions, which do have layouts, are read in
Machine/Frames.lean, Machine/Operands.lean and Machine/ControlPort.lean. -/

namespace Sys2Proof

/-- The command that a word spells by the table's bits: none, since no row gives bits. -/
def decodeTableWord (_nbits _w : Nat) : Option Instr := none

end Sys2Proof
end

