-- ==== Sys2Proof/Config.lean ====
section
/-! DEFINITION. What the part fixes (the table "Fixed capacities" of 00_scope.md and the limits the rules name), and the
free values: constants with no body for what the manual leaves open. -/

namespace Sys2Proof.Config

/-- Lease Directory records, R5. -/
def maxRecords : Nat := 192
/-- Records in state OFFERED at once, R5 and R54. -/
def maxOffered : Nat := 4
/-- The last leasable address, R34. -/
def lastLeasable : Nat := 239
/-- The directory address FEh, held by the DL416 (00_scope.md). -/
def directoryAddress : Nat := 254
/-- The broadcast destination FFh (00_scope.md). -/
def broadcastAddress : Nat := 255
/-- Multicast groups, numbered 1 to 32, R132. -/
def groupCount : Nat := 32
/-- Members of one group, R132. -/
def groupMembers : Nat := 16
/-- Member entries of all groups together, R133. -/
def memberEntries : Nat := 256
/-- Transmit Queue entries, R150. -/
def queueEntries : Nat := 8
/-- REPLY-class entries among them, R150. -/
def replyEntries : Nat := 6
/-- Payload bytes of a frame, section 12.1. -/
def maxPayload : Nat := 24
/-- The settle time in bit times, R144. -/
def settleBits : Nat := 24
/-- The stuck-line limit in bit times, R144. -/
def stuckBits : Nat := 48
/-- Recessive bits outside a frame that make the line idle, R144. -/
def idleBits : Nat := 3
/-- Bits of the end mark, section 12.1. -/
def endMarkBits : Nat := 3
/-- Equal bits after which a stuff bit is inserted, R147. -/
def stuffAfter : Nat := 7
/-- Addresses of one Collect Changes snapshot, R20 and R167. -/
def snapshotSize : Nat := 32
/-- Entries of one Read Quarantine, R36. -/
def quarantineRead : Nat := 32
/-- Bytes of the transfer buffer, R158. -/
def bufferSize : Nat := 256
/-- The most recessive bits with which a frame ends: those of a check that take no stuff bit more, an acknowledge slot and
the end mark, R147 and section 12.1. -/
def frameTail : Nat := stuffAfter + 1 + endMarkBits
/-- Microseconds of a bit time at a rate value of 0 to 3, R146. -/
def bitMicros (rate : Nat) : Nat := 16 / 2 ^ rate
/-- Microseconds of the controller's unit of 5 ms, R54. -/
def tickMicros : Nat := 5000
/-- Units of 5 ms in one unit of 0.1 s: the epoch period's unit in the unit of the controller's timers. -/
def ticksPerTenth : Nat := 20

/-- FREE VALUE. The level the line shows where the steps of the table do not say it (true: recessive). Applied to the
model's own counter State.chance. notes/assumptions/9.md and 28.md. -/
opaque freeLevel : Nat → Bool

/-- FREE VALUE. The length of a run of equal bits on the line, or the bit of an own frame at which something happens, where
the steps of the table do not say it. notes/assumptions/9.md and 28.md. -/
opaque freeRun : Nat → Nat

/-- FREE VALUE. The sweep cursor byte that Read Summary reports while no sweep context is held: R101 gives the cursor
only to a context that is not NONE. notes/assumptions/10.md. -/
opaque freeSweepCursor : Nat → Byte

/-- FREE VALUE. The pass counter that Read Summary reports while no sweep context is held. notes/assumptions/10.md. -/
opaque freePassCounter : Nat → Half

end Sys2Proof.Config
end

