-- ==== Sys2Proof/Machine/State.lean ====
section
/-! DEFINITION. The state of the DL416 as plain data, block by block, the state right after part reset, and the ways a
step can stop. Every line of INVENTORY.md's State section is a field here or is computed from fields (log 19). -/

namespace Sys2Proof.Machine

/-- The five states of a record, section 1.3. -/
inductive RecordState where
  | reserved
  | offered
  | bound
  | lapsed
  | disputed
  deriving DecidableEq, Repr

/-- What an offered record was before its offer, R1. -/
inductive Origin where
  | new
  | reserved
  | rebind
  deriving DecidableEq, Repr

/-- The offer under way for a record: the content of the Join Unit's slot, R1 and R54. -/
structure OfferContext where
  origin : Origin
  /-- Offered term in epochs. -/
  term : Nat
  /-- Offer wait remaining in units of 5 ms. -/
  wait : Nat
  deriving DecidableEq, Repr

/-- One entry of the Lease Directory, R1. -/
structure Record where
  address : Nat
  identity : Identity
  state : RecordState
  pinned : Bool
  /-- Term remaining in epochs. -/
  term : Nat
  granted : Option Nat
  quiet : Nat
  /-- Probe attempts used. -/
  attempts : Nat
  rival : Option Identity
  offer : Option OfferContext
  /-- Dispute hold remaining in epochs. -/
  hold : Option Nat
  deriving DecidableEq, Repr

/-- The change mark of an address, R18. -/
inductive Mark where
  | clean
  | added
  | altered
  | removed
  | replaced
  deriving DecidableEq, Repr

/-- The Lease Directory. Records are sorted by address; marks lists the addresses whose mark is not CLEAN, sorted by
address; the lapse list has its oldest first (R21); the pacing set has no repeats (R52). -/
structure Directory where
  records : List Record
  marks : List (Nat × Mark)
  lapseList : List Nat
  pacing : List Nat
  deriving DecidableEq, Repr

/-- One entry of the quarantine queue, R27. -/
structure QuarantineEntry where
  address : Nat
  lastIdentity : Identity
  hold : Nat
  deriving DecidableEq, Repr

/-- The Address Pool: the free list, head first (R25), and the quarantine queue, oldest first (R27). -/
structure Pool where
  free : List Nat
  quarantine : List QuarantineEntry
  deriving DecidableEq, Repr

/-- The directory mode, R118. -/
inductive Mode where
  | serving
  | census
  deriving DecidableEq, Repr

/-- The Census Unit, R118 and R119. -/
structure Census where
  mode : Mode
  window : Nat
  autostart : Bool
  deriving DecidableEq, Repr

/-- Why a probe's target was chosen, R88. -/
inductive ProbeKind where
  | lapse
  | sweep
  deriving DecidableEq, Repr

/-- How far a probe attempt has gone, R88; waiting carries the probe wait remaining in units of 5 ms. -/
inductive ProbePhase where
  | queued
  | waiting (remaining : Nat)
  deriving DecidableEq, Repr

/-- The probe in flight, R88. -/
structure ProbeContext where
  target : Nat
  identity : Identity
  kind : ProbeKind
  attempt : Nat
  phase : ProbePhase
  deriving DecidableEq, Repr

/-- ONCE or CONTINUOUS, R101. -/
inductive SweepMode where
  | once
  | continuous
  deriving DecidableEq, Repr

/-- EVERY PASS or EVERY 4TH PASS, R101. -/
inductive SweepNotice where
  | everyPass
  | everyFourth
  deriving DecidableEq, Repr

/-- A sweep context that is not NONE, R101: SCANNING, or WAITING between passes. -/
structure Sweep where
  scanning : Bool
  first : Nat
  last : Nat
  mode : SweepMode
  notice : SweepNotice
  threshold : Nat
  cursor : Nat
  passes : Nat
  deriving DecidableEq, Repr

/-- The Prober: the probe context (none when idle) and the sweep context (none for NONE). -/
structure Prober where
  context : Option ProbeContext
  sweep : Option Sweep
  deriving DecidableEq, Repr

/-- OPEN or CLOSED: a group's mode (R132) or the join gate (R55). -/
inductive Gate where
  | opened
  | closed
  deriving DecidableEq, Repr

/-- One group record, oldest member first, R132. -/
structure Group where
  mode : Gate
  members : List Nat
  deriving DecidableEq, Repr

/-- The line state, R143. -/
inductive LineState where
  | disabled
  | settling
  | online
  | fault
  deriving DecidableEq, Repr

/-- A termination setting, R155. -/
inductive Termination where
  | openCircuit
  | high
  | mid
  | low
  deriving DecidableEq, Repr

/-- The phase of the line that reception, transmission and the termination follow (R147, R149, R155): idle, or the line
not in use; a frame being received, its destination not yet read; a frame addressed to FEh; a frame addressed elsewhere;
the DL416 transmitting; the time after a frame until the line is idle; the time after a reception or a transmission that
ended early, in which nothing is received until the line is idle. -/
inductive LinePhase where
  | idle
  | receiving
  | receivingDirectory
  | receivingOther
  | transmitting
  | afterFrame
  | stopped
  deriving DecidableEq, Repr

/-- The Line Interface less its queue. -/
structure Line where
  state : LineState
  phase : LinePhase
  recessiveRun : Nat
  dominantRun : Nat
  bitRate : Nat
  segmentEnd : Bool
  termination : Termination
  foreign : Bool
  /-- The DL416 drove the acknowledge slot of the last frame received, R148. -/
  acknowledged : Bool
  deriving DecidableEq, Repr

/-- The two classes of the Transmit Queue, R150. -/
inductive TxClass where
  | reply
  | directory
  deriving DecidableEq, Repr

/-- The originator that is told an entry's fate, R150 and R151. The command and the Prober act on a report only while it
is the report of the operation in progress; the flag says whether it still is (R91, R171). -/
inductive Originator where
  | joinUnit
  | reply
  | stray
  | dispute
  | command (live : Bool)
  | prober (live : Bool)
  | censusUnit
  deriving DecidableEq, Repr

/-- One entry of the Transmit Queue, R150 and R151, with the frame's check as last worked out (R173). -/
structure TxEntry where
  frame : Frame
  check : Half
  cls : TxClass
  /-- Send attempts used. -/
  used : Nat
  /-- Send-attempt limit, fixed when the entry was queued. -/
  limit : Nat
  originator : Originator
  /-- The entry's frame is in transmission, R149. -/
  sending : Bool
  /-- The entry leaves the queue however its transmission ends, R153. -/
  lastTry : Bool
  deriving DecidableEq, Repr

/-- The Transmit Queue in the order of queueing, the places set aside by admission (R148), and the waiting claim of an
Evict or Award (R150). -/
structure TxQueue where
  entries : List TxEntry
  setAside : Nat
  waiting : Option Frame
  deriving DecidableEq, Repr

/-- The epoch under way: its period in force in units of 0.1 s and the time left in units of 5 ms, R38. -/
structure Epoch where
  period : Nat
  left : Nat
  deriving DecidableEq, Repr

/-- Which owners have already taken their part of the expiry of the epoch under way (log 5). -/
structure PartsTaken where
  leaseDirectory : Bool
  addressPool : Bool
  prober : Bool
  censusUnit : Bool
  deriving DecidableEq, Repr

/-- The Epoch Clock, R38: none while frozen. -/
structure Clock where
  epoch : Option Epoch
  taken : PartsTaken
  deriving DecidableEq, Repr

/-- HOLD or REVOKE, R109. -/
inductive DisputePolicy where
  | hold
  | revoke
  deriving DecidableEq, Repr

/-- The parameters 01h to 11h of R176. (12h, the attention enables, are the port's.) -/
structure Params where
  epochPeriod : Nat
  maximumTerm : Nat
  defaultTerm : Nat
  quarantineHold : Nat
  offerWait : Nat
  probeWait : Nat
  probeAttempts : Nat
  sendAttempts : Nat
  censusWindow : Nat
  disputePolicy : DisputePolicy
  disputeHold : Nat
  passiveRenewal : Bool
  joinGate : Gate
  park : Termination
  pass : Termination
  receive : Termination
  drive : Termination
  deriving DecidableEq, Repr

/-- The port state, R159. -/
inductive PortState where
  | ready
  | busy
  | result
  deriving DecidableEq, Repr

/-- The outcome codes of section 12.4. -/
inductive OutcomeCode where
  | ok
  | badValue
  | notFound
  | wrongState
  | addressHeld
  | identityHeld
  | full
  | lineDown
  | undelivered
  | aborted
  | badCommand
  | already
  | groupFull
  | noEntries
  | notMember
  deriving DecidableEq, Repr

/-- The Control Port, R157. latched holds the latched causes and enables the seven enables, each in the bit positions of
the attention pending field (R174). -/
structure Port where
  parameters : List Byte
  code : Byte
  state : PortState
  error : Bool
  collide : Bool
  outcome : OutcomeCode
  latched : Byte
  enables : Byte
  pointer : Byte
  buffer : List Byte
  /-- The data byte a read last returned, R157 and R158. -/
  dataOut : Byte
  deriving DecidableEq, Repr

/-- The state of the DL416, with the queue of commands waiting (the model's own) and the counter of the free values
drawn (the model's own, log 9). -/
structure State where
  directory : Directory
  pool : Pool
  census : Census
  prober : Prober
  groups : List Group
  line : Line
  queue : TxQueue
  clock : Clock
  params : Params
  port : Port
  chance : Nat
  pending : List Instr
  deriving DecidableEq, Repr

/-- The ways a step can fault: none. No rule of the manual stops the part (INVENTORY.md, "Faults"). -/
inductive Fault where
  deriving DecidableEq, Repr

/-- The ways a step can be refused. -/
inductive Refusal where
  /-- Raised by exec's arm of a command that has no meaning yet, under the row's mnemonic; no arm raises it now. Safe. -/
  | notModelled (mnemonic : String)
  deriving DecidableEq, Repr

/-- The defaults of R176. -/
def Params.reset : Params where
  epochPeriod := 10
  maximumTerm := 3600
  defaultTerm := 600
  quarantineHold := 30
  offerWait := 50
  probeWait := 20
  probeAttempts := 3
  sendAttempts := 3
  censusWindow := 10
  disputePolicy := .revoke
  disputeHold := 0
  passiveRenewal := false
  joinGate := .opened
  park := .high
  pass := .low
  receive := .low
  drive := .openCircuit

/-- No owner has taken a part. -/
def PartsTaken.none : PartsTaken where
  leaseDirectory := false
  addressPool := false
  prober := false
  censusUnit := false

/-- The Control Port after part reset, R172. -/
def Port.reset : Port where
  parameters := List.replicate 8 0
  code := 0
  state := .ready
  error := false
  collide := false
  outcome := .ok
  latched := 0
  enables := 0
  pointer := 0
  buffer := List.replicate Config.bufferSize 0
  dataOut := 0

/-- The free list after part reset or Clear Directory: 1 to 239 ascending, R37. -/
def Pool.reset : Pool where
  free := List.range' 1 Config.lastLeasable
  quarantine := []

/-- The Lease Directory after part reset or Clear Directory, R23. -/
def Directory.reset : Directory where
  records := []
  marks := []
  lapseList := []
  pacing := []

/-- The machine right after part reset with every strap input low (log 1): R23, R37, R53, R71, R105, R117, R131, R142,
R156, R172. -/
def State.reset : State where
  directory := Directory.reset
  pool := Pool.reset
  census := { mode := .serving, window := 0, autostart := false }
  prober := { context := none, sweep := none }
  groups := List.replicate Config.groupCount { mode := .opened, members := [] }
  line := { state := .disabled, phase := .idle, recessiveRun := 0, dominantRun := 0, bitRate := 0, segmentEnd := false,
            termination := .openCircuit, foreign := false, acknowledged := false }
  queue := { entries := [], setAside := 0, waiting := none }
  clock := { epoch := none, taken := PartsTaken.none }
  params := Params.reset
  port := Port.reset
  chance := 0
  pending := []

end Sys2Proof.Machine
end

