-- ==== Sys2Proof/Machine/Operands.lean ====
section
/-! DEFINITION. Byte order and the operand forms: how multi-byte quantities stand in frames and in the window (most
significant byte first, section 12), how a command reads P0 to P7 and the buffer and writes its results (R158, R159,
R175), the code values of section 12, and the record view and the buffer entries of section 12.3. -/

namespace Sys2Proof.Machine

/-- A count as one byte. -/
def byteOf (n : Nat) : Byte := BitVec.ofNat 8 n

/-- A two-byte quantity, most significant byte first. -/
def bytesOfHalf (n : Nat) : List Byte := [byteOf (n / 256), byteOf n]

/-- An identity, most significant byte first. -/
def bytesOfIdentity (i : Identity) : List Byte :=
  [byteOf (i.toNat / 2 ^ 40), byteOf (i.toNat / 2 ^ 32), byteOf (i.toNat / 2 ^ 24), byteOf (i.toNat / 2 ^ 16),
   byteOf (i.toNat / 2 ^ 8), byteOf i.toNat]

/-- The number that bytes spell, most significant first. -/
def natOfBytes (bs : List Byte) : Nat := bs.foldl (fun n b => n * 256 + b.toNat) 0

/-- Six bytes read as an identity. -/
def identityOfBytes (bs : List Byte) : Identity := BitVec.ofNat 48 (natOfBytes bs)

/-- An identity that may be carried or stored: neither 0 nor all-ones (00_scope.md). -/
def validIdentity (i : Identity) : Bool := i.toNat != 0 && i.toNat != 2 ^ 48 - 1

/-- A leasable address, R34. -/
def leasable (a : Nat) : Bool := 1 ≤ a && a ≤ Config.lastLeasable

/-- A fixed address, R34. -/
def fixedAddress (a : Nat) : Bool := 240 ≤ a && a ≤ 253

/-- A group number, R132. -/
def groupNumber (g : Nat) : Bool := 1 ≤ g && g ≤ Config.groupCount

/-! ## Code values of section 12 -/

/-- The record state codes of section 12.2. -/
def RecordState.code : RecordState → Nat
  | .reserved => 1
  | .offered => 2
  | .bound => 3
  | .lapsed => 4
  | .disputed => 5

/-- The offer origin bits of the record view, section 12.3. -/
def Origin.code : Origin → Nat
  | .new => 1
  | .reserved => 2
  | .rebind => 3

/-- The mark byte of a change entry, section 12.3; CLEAN is never written. -/
def Mark.code : Mark → Nat
  | .clean => 0
  | .added => 1
  | .altered => 2
  | .removed => 3
  | .replaced => 4

/-- The LINE codes of the port status, R174. -/
def LineState.code : LineState → Nat
  | .disabled => 0
  | .settling => 1
  | .online => 2
  | .fault => 3

/-- The MODE codes, R174. -/
def Mode.code : Mode → Nat
  | .serving => 0
  | .census => 1

/-- OPEN is 0 and CLOSED is 1, R175 and R176. -/
def Gate.code : Gate → Nat
  | .opened => 0
  | .closed => 1

/-- HOLD is 0 and REVOKE is 1, R176. -/
def DisputePolicy.code : DisputePolicy → Nat
  | .hold => 0
  | .revoke => 1

/-- The termination codes of R174 and R176. -/
def Termination.code : Termination → Nat
  | .openCircuit => 0
  | .high => 1
  | .mid => 2
  | .low => 3

/-- The termination setting a value names, R176. -/
def terminationOf : Nat → Option Termination
  | 0 => some .openCircuit
  | 1 => some .high
  | 2 => some .mid
  | 3 => some .low
  | _ => none

/-- OPEN or CLOSED from its code. -/
def gateOf : Nat → Option Gate
  | 0 => some .opened
  | 1 => some .closed
  | _ => none

/-- HOLD or REVOKE from its code. -/
def policyOf : Nat → Option DisputePolicy
  | 0 => some .hold
  | 1 => some .revoke
  | _ => none

/-- ONCE or CONTINUOUS from its code, R175. -/
def sweepModeOf : Nat → Option SweepMode
  | 0 => some .once
  | 1 => some .continuous
  | _ => none

/-- EVERY PASS or EVERY 4TH PASS from its code, R175. -/
def sweepNoticeOf : Nat → Option SweepNotice
  | 0 => some .everyPass
  | 1 => some .everyFourth
  | _ => none

/-- The outcome codes of section 12.4. -/
def OutcomeCode.code : OutcomeCode → Nat
  | .ok => 0
  | .badValue => 1
  | .notFound => 2
  | .wrongState => 3
  | .addressHeld => 4
  | .identityHeld => 5
  | .full => 6
  | .lineDown => 7
  | .undelivered => 8
  | .aborted => 9
  | .badCommand => 10
  | .already => 11
  | .groupFull => 12
  | .noEntries => 13
  | .notMember => 14

/-! ## The header of a transaction, R174 -/

/-- Bit 7 of the header: 1 for a write and 0 for a read. -/
def headerWrites (header : Byte) : Bool := header.getLsbD 7

/-- Bits 6 to 0 of the header: the window offset. -/
def headerOffset (header : Byte) : Nat := header.toNat % 128

/-! ## The port's operands and results -/

/-- Parameter byte Pn as a number. -/
def State.p (s : State) (n : Nat) : Nat := (s.port.parameters.getD n 0).toNat

/-- The identity in P1 to P6, R175. -/
def State.pIdentity (s : State) : Identity := identityOfBytes ((s.port.parameters.drop 1).take 6)

/-- Result bytes overwrite the P bytes from P0 on; the others keep their values, R175. -/
def State.setResults (bs : List Byte) (s : State) : State :=
  { s with port := { s.port with parameters := bs ++ s.port.parameters.drop bs.length } }

/-- Buffer results: the bytes from buffer byte 0, zeros after them up to (not including) byte upTo, the rest kept, and
the pointer at 0, R158. -/
def State.setBuffer (bs : List Byte) (upTo : Nat) (s : State) : State :=
  let head := bs ++ List.replicate (upTo - bs.length) 0
  { s with port := { s.port with buffer := (head ++ s.port.buffer.drop head.length).take Config.bufferSize,
                                 pointer := 0 } }

/-! ## The record view and the buffer entries, section 12.3 -/

/-- The groups whose list holds the address, R132. -/
def State.groupCountOf (s : State) (a : Nat) : Nat := (s.groups.filter (fun g => g.members.contains a)).length

/-- The record is the target of the probe in flight, R88. -/
def State.isTarget (s : State) (r : Record) : Bool :=
  match s.prober.context with
  | some c => c.target == r.address && c.identity == r.identity
  | none => false

/-- The flags byte of the record view: pinned, rival present, probe target, and the offer origin in bits 4 to 3. -/
def State.viewFlags (s : State) (r : Record) : Byte :=
  let origin := match r.offer with
    | some o => o.origin.code
    | none => 0
  byteOf ((if r.pinned then 1 else 0) + (if r.rival.isSome then 2 else 0) + (if s.isTarget r then 4 else 0) + 8 * origin)

/-- Bytes 9 to 14 of the record view: the rival, or in an OFFERED record the offered term, or zeros. -/
def viewRival (r : Record) : List Byte :=
  match r.offer, r.rival with
  | some o, _ => bytesOfHalf o.term ++ [0, 0, 0, 0]
  | none, some i => bytesOfIdentity i
  | none, none => [0, 0, 0, 0, 0, 0]

/-- The 24-byte record view, R1 and section 12.3. -/
def State.recordView (s : State) (r : Record) : List Byte :=
  [byteOf r.address, byteOf r.state.code, s.viewFlags r] ++ bytesOfIdentity r.identity ++ viewRival r
    ++ bytesOfHalf r.term ++ bytesOfHalf (r.granted.getD 0) ++ bytesOfHalf r.quiet
    ++ [byteOf r.attempts, byteOf (s.groupCountOf r.address), byteOf (r.hold.getD 0)]

/-- A change entry: address, identity, mark. -/
def changeEntry (a : Nat) (i : Identity) (m : Mark) : List Byte := byteOf a :: (bytesOfIdentity i ++ [byteOf m.code])

/-- A quarantine entry of Read Quarantine: address, last identity, hold remaining. -/
def quarantineBytes (q : QuarantineEntry) : List Byte :=
  byteOf q.address :: (bytesOfIdentity q.lastIdentity ++ [byteOf q.hold])

/-- A reservation entry of Load Reservations: address, identity, and the pin setting on input. -/
structure ReservationEntry where
  address : Nat
  identity : Identity
  pin : Nat
  deriving DecidableEq, Repr

/-- The n-th 8-byte reservation entry of the buffer. -/
def reservationAt (buffer : List Byte) (n : Nat) : ReservationEntry :=
  let e := (buffer.drop (8 * n)).take 8
  { address := (e.getD 0 0).toNat, identity := identityOfBytes ((e.drop 1).take 6), pin := (e.getD 7 0).toNat }

end Sys2Proof.Machine
end

