-- ==== Sys2Proof/Machine/Flags.lean ====
section
/-! DEFINITION. The flag fields the host sees and the outputs worked out from them: the attention causes, their
enables and the ATTN output (R169), the port status byte and the reading of the whole window (R157, R174), and the
TERM outputs. -/

namespace Sys2Proof.Machine

/-- The latched attention causes, R169. -/
inductive Cause where
  | done
  | dispute
  | line
  | sweep
  | census
  | pool
  deriving DecidableEq, Repr

/-- The bit of a latched cause in the attention pending field, R174. -/
def Cause.bit : Cause → Byte
  | .done => 0x01
  | .dispute => 0x02
  | .line => 0x04
  | .sweep => 0x08
  | .census => 0x10
  | .pool => 0x20

/-- The bits of the six latched causes. -/
def latchedMask : Byte := 0x3F

/-- The bit of the CHANGES level. -/
def changesBit : Byte := 0x40

/-- The bits of the seven enables; a written bit 7 is ignored, R174. -/
def enablesMask : Byte := 0x7F

/-- A cause becomes pending; one already pending stays pending, once, R169. -/
def State.raise (c : Cause) (s : State) : State :=
  { s with port := { s.port with latched := s.port.latched ||| c.bit } }

/-- The named latched causes cease to be pending; naming CHANGES has no effect, R170. -/
def State.acknowledge (mask : Byte) (s : State) : State :=
  { s with port := { s.port with latched := s.port.latched &&& ~~~mask } }

/-- The cause is pending. -/
def State.isPending (s : State) (c : Cause) : Bool := s.port.latched &&& c.bit != 0

/-- The CHANGES level: some mark is not CLEAN, R20. -/
def State.changes (s : State) : Bool := !s.directory.marks.isEmpty

/-- The attention pending field, R174. -/
def State.attentionPending (s : State) : Byte :=
  (s.port.latched &&& latchedMask) ||| (if s.changes then changesBit else 0)

/-- The ATTN output: active while a cause is both pending and enabled, R169. -/
def State.attn (s : State) : Bool := s.attentionPending &&& s.port.enables != 0

/-- The port state code, R174. -/
def PortState.code : PortState → Nat
  | .ready => 0
  | .busy => 1
  | .result => 2

/-- The port status byte, R174. -/
def State.portStatus (s : State) : Byte :=
  byteOf (s.port.state.code + (if s.port.error then 4 else 0) + (if s.port.collide then 8 else 0)
    + 16 * s.line.state.code + 64 * s.census.mode.code)

/-- The buffer byte at the pointer as a read returns it: 00h in BUSY, R158. -/
def State.bufferByte (s : State) : Byte :=
  if s.port.state = .busy then 0 else s.port.buffer.getD s.port.pointer.toNat 0

/-- What a read of a window offset returns, R157 and R174; an offset the table does not list returns 00h. -/
def State.windowRead (s : State) (offset : Nat) : Byte :=
  if offset < 8 then s.port.parameters.getD offset 0
  else if offset = 0x08 then s.port.code
  else if offset = 0x09 then s.portStatus
  else if offset = 0x0A then byteOf s.port.outcome.code
  else if offset = 0x0B then s.attentionPending
  else if offset = 0x0C then s.port.enables
  else if offset = 0x0D then s.port.pointer
  else if offset = 0x0E then s.bufferByte
  else 0

/-- The two TERM outputs, first output first, R174. -/
def State.termOutputs (s : State) : Bool × Bool :=
  (decide (2 ≤ s.line.termination.code), decide (s.line.termination.code % 2 = 1))

end Sys2Proof.Machine
end

