-- ==== Sys2Proof/Machine/Frames.lean ====
section
/-! DEFINITION. Frames on the line: kind codes and payloads (section 12.2), the check (R173), the bits with their stuff
bits (R147) and the runs of equal bits they leave (R144), the fields a request carries, and the frames the DL416
sends. -/

namespace Sys2Proof.Machine

/-- The twelve request kinds, section 12.2. -/
inductive RequestKind where
  | join
  | accept
  | renew
  | leave
  | claim
  | probeReply
  | clashReport
  | groupJoin
  | groupLeave
  | groupExpand
  | resolveIdentity
  | resolveAddress
  deriving DecidableEq, Repr

/-- The kind code of a request. -/
def RequestKind.code : RequestKind → BitVec 6
  | .join => 0x01
  | .accept => 0x02
  | .renew => 0x03
  | .leave => 0x04
  | .claim => 0x05
  | .probeReply => 0x06
  | .clashReport => 0x07
  | .groupJoin => 0x08
  | .groupLeave => 0x09
  | .groupExpand => 0x0A
  | .resolveIdentity => 0x0B
  | .resolveAddress => 0x0C

/-- The request a kind code names; every other code names none, R148. -/
def requestKindOf (k : BitVec 6) : Option RequestKind :=
  match k.toNat with
  | 0x01 => some .join
  | 0x02 => some .accept
  | 0x03 => some .renew
  | 0x04 => some .leave
  | 0x05 => some .claim
  | 0x06 => some .probeReply
  | 0x07 => some .clashReport
  | 0x08 => some .groupJoin
  | 0x09 => some .groupLeave
  | 0x0A => some .groupExpand
  | 0x0B => some .resolveIdentity
  | 0x0C => some .resolveAddress
  | _ => none

/-- The frames the DL416 sends, section 12.2. -/
inductive SentKind where
  | offer
  | joinRefused
  | renewReply
  | claimReply
  | probe
  | revoke
  | census
  | resolveReply
  | groupReply
  deriving DecidableEq, Repr

/-- Their kind codes. -/
def SentKind.code : SentKind → BitVec 6
  | .offer => 0x20
  | .joinRefused => 0x21
  | .renewReply => 0x22
  | .claimReply => 0x23
  | .probe => 0x24
  | .revoke => 0x25
  | .census => 0x26
  | .resolveReply => 0x27
  | .groupReply => 0x28

/-- Their priorities, R150: REVOKE 0, replies and offers 1, PROBE and CENSUS 2. -/
def SentKind.priority : SentKind → BitVec 2
  | .revoke => 0
  | .offer | .joinRefused | .renewReply | .claimReply | .resolveReply | .groupReply => 1
  | .probe | .census => 2

/-! ## Bits, check and stuffing -/

/-- The bits of a field, most significant first; true is recessive (1), false dominant (0). -/
def bitsOf {w : Nat} (v : BitVec w) : List Bool := (List.range w).map (fun i => v.getMsbD i)

/-- One bit of the check, R173: compare with bit 15, shift left, and combine with 5935h when they differed. -/
def crcBit (register : Half) (bit : Bool) : Half :=
  if bit = register.getLsbD 15 then register <<< 1 else (register <<< 1) ^^^ 0x5935

/-- The check over bits in the order sent, from FFFFh and with no final inversion, R173. -/
def crc (bits : List Bool) : Half := bits.foldl crcBit 0xFFFF

/-- Stuffing, R147: after 7 consecutive bits of equal level one bit of the opposite level goes in, stuff bits counting
toward the next run, and none after the last bit (log 17). -/
def stuffFrom (last : Bool) (count : Nat) : List Bool → List Bool
  | [] => []
  | b :: bs =>
    let c := if b = last then count + 1 else 1
    if c = Config.stuffAfter && !bs.isEmpty then b :: (!b) :: stuffFrom (!b) 1 bs else b :: stuffFrom b c bs

/-- The recessive and the dominant run after one more bit time, R144. -/
def feedBit (runs : Nat × Nat) (level : Bool) : Nat × Nat := if level then (runs.1 + 1, 0) else (0, runs.2 + 1)

/-- The runs after more bit times. -/
def feedBits (bits : List Bool) (line : Line) : Line :=
  let r := bits.foldl feedBit (line.recessiveRun, line.dominantRun)
  { line with recessiveRun := r.1, dominantRun := r.2 }

/-- The kinds that need a reply place, R148. -/
def RequestKind.needsReply : RequestKind → Bool
  | .join | .renew | .claim | .groupJoin | .groupLeave | .groupExpand | .resolveIdentity | .resolveAddress => true
  | .accept | .leave | .probeReply | .clashReport => false

/-- The kinds whose heard event is limited, R48. -/
def RequestKind.carriesIdentity : RequestKind → Bool
  | .accept | .renew | .leave | .claim | .probeReply | .clashReport => true
  | .join | .groupJoin | .groupLeave | .groupExpand | .resolveIdentity | .resolveAddress => false

end Sys2Proof.Machine

namespace Sys2Proof
open Machine

/-! ## The bits of a frame and the fields of a request -/

/-- The fields from priority to length, the identity present only when the source is 0, section 12.1. -/
def Frame.headBits (f : Frame) : List Bool :=
  bitsOf f.priority ++ bitsOf f.source ++ (if f.source.toNat = 0 then bitsOf f.identity else [])
    ++ bitsOf f.destination ++ bitsOf f.kind ++ bitsOf (BitVec.ofNat 5 f.payload.length)

/-- The fields from priority to payload, section 12.1. -/
def Frame.fieldBits (f : Frame) : List Bool := f.headBits ++ f.payload.flatMap bitsOf

/-- The check of a frame, R173. -/
def Frame.check (f : Frame) : Half := crc f.fieldBits

/-- The bits on the line from the start mark to the last bit of the check that is sent with the frame, R147. -/
def Frame.checkedBits (f : Frame) (check : Half) : List Bool := stuffFrom true 0 (false :: (f.fieldBits ++ bitsOf check))

/-- The same with the frame's own check. -/
def Frame.lineBits (f : Frame) : List Bool := f.checkedBits f.check

/-- The bits on the line from the start mark to the last bit of the source of a frame without an identity: what the DL416
sends through arbitration, R149. -/
def Frame.arbitrationBits (f : Frame) : List Bool := stuffFrom true 0 (false :: (bitsOf f.priority ++ bitsOf f.source))

/-- The bits on the line from the start mark to the end mark, with the check sent and the acknowledge slot at the given
level, section 12.1. -/
def Frame.wholeBits (f : Frame) (check : Half) (slot : Bool) : List Bool :=
  f.checkedBits check ++ slot :: List.replicate Config.endMarkBits true

/-- The bits on the line from the start mark to the last bit of the length field, where a bad length ends the reception,
R147. -/
def Frame.cutBits (f : Frame) : List Bool := stuffFrom true 0 (false :: f.headBits)

/-- The identity a payload begins with. -/
def Frame.payloadIdentity (f : Frame) : Identity := identityOfBytes (f.payload.take 6)

/-- The two-byte term after the identity of a RENEW or a CLAIM. -/
def Frame.payloadTerm (f : Frame) : Nat := natOfBytes ((f.payload.drop 6).take 2)

/-- The one byte of a GROUP or RESOLVE ADDRESS request, or a JOIN's hint. -/
def Frame.payloadByte (f : Frame) : Nat := (f.payload.getD 0 0).toNat

/-- A JOIN's requested term. -/
def Frame.joinTerm (f : Frame) : Nat := natOfBytes ((f.payload.drop 1).take 2)

/-- A CLAIM's group numbers. -/
def Frame.claimGroups (f : Frame) : List Nat := (f.payload.drop 9).map (fun b => b.toNat)

/-- The length a request kind requires, R148. -/
def Frame.lengthFits (f : Frame) : RequestKind → Bool
  | .join => f.payload.length == 3
  | .accept | .leave | .probeReply | .clashReport | .resolveIdentity => f.payload.length == 6
  | .renew => f.payload.length == 8
  | .groupJoin | .groupLeave | .groupExpand | .resolveAddress => f.payload.length == 1
  | .claim => (f.payload.getD 8 0).toNat ≤ 8 && f.payload.length == 9 + (f.payload.getD 8 0).toNat

/-- The source class a request kind is taken from, R148. -/
def Frame.sourceFits (f : Frame) : RequestKind → Bool
  | .join => f.source.toNat == 0
  | .resolveIdentity | .resolveAddress | .groupExpand => leasable f.source.toNat || fixedAddress f.source.toNat
  | .accept | .renew | .leave | .claim | .probeReply | .clashReport | .groupJoin | .groupLeave => leasable f.source.toNat

/-- Every identity the frame carries is valid, R148. -/
def Frame.identityFits (f : Frame) : RequestKind → Bool
  | .join => validIdentity f.identity
  | .accept | .renew | .leave | .claim | .probeReply | .clashReport | .resolveIdentity => validIdentity f.payloadIdentity
  | .groupJoin | .groupLeave | .groupExpand | .resolveAddress => true

end Sys2Proof

namespace Sys2Proof.Machine

/-- A request frame to FEh. -/
def requestFrame (k : RequestKind) (priority : BitVec 2) (source : Byte) (identity : Identity) (payload : List Byte) :
    Frame :=
  { priority := priority, source := source, identity := identity, destination := 0xFE, kind := k.code, payload := payload }

/-! ## Frames the DL416 sends -/

/-- A frame of the DL416: source FEh and no identity field, R149. -/
def sentFrame (k : SentKind) (destination : Nat) (payload : List Byte) : Frame :=
  { priority := k.priority, source := 0xFE, identity := 0, destination := byteOf destination, kind := k.code,
    payload := payload }

/-- An OFFER, R59. -/
def offerFrame (i : Identity) (address term period : Nat) : Frame :=
  sentFrame .offer 0 (bytesOfIdentity i ++ [byteOf address] ++ bytesOfHalf term ++ [byteOf period])

/-- The JOIN REFUSED reasons, section 12.2. -/
inductive RefusalReason where
  | census
  | closed
  | disputed
  | full
  | busy
  | poolEmpty
  deriving DecidableEq, Repr

/-- Their codes. -/
def RefusalReason.code : RefusalReason → Nat
  | .census => 1
  | .closed => 2
  | .disputed => 3
  | .full => 4
  | .busy => 5
  | .poolEmpty => 6

/-- A JOIN REFUSED, R62. -/
def joinRefusedFrame (i : Identity) (r : RefusalReason) : Frame :=
  sentFrame .joinRefused 0 (bytesOfIdentity i ++ [byteOf r.code])

/-- A REVOKE targeted at an identity. -/
def targetedRevoke (address : Nat) (i : Identity) : Frame := sentFrame .revoke address (bytesOfIdentity i)

/-- An untargeted REVOKE. -/
def untargetedRevoke (address : Nat) : Frame := sentFrame .revoke address []

/-- A PROBE, R91. -/
def probeFrame (address : Nat) : Frame := sentFrame .probe address []

/-- A CENSUS frame, R121. -/
def censusFrame (window period : Nat) : Frame := sentFrame .census Config.broadcastAddress [byteOf window, byteOf period]

/-- The RENEW REPLY outcomes, section 12.2. -/
inductive RenewOutcome where
  | ok
  | disputed
  | notBound
  | unknown
  deriving DecidableEq, Repr

/-- Their codes. -/
def RenewOutcome.code : RenewOutcome → Nat
  | .ok => 0
  | .disputed => 1
  | .notBound => 2
  | .unknown => 3

/-- A RENEW REPLY, R73. -/
def renewReply (destination : Nat) (o : RenewOutcome) (term : Nat) : Frame :=
  sentFrame .renewReply destination (byteOf o.code :: bytesOfHalf term)

/-- The CLAIM REPLY outcomes, section 12.2. -/
inductive ClaimOutcome where
  | granted
  | disputed
  | identityElsewhere
  | full
  | notCensus
  deriving DecidableEq, Repr

/-- Their codes. -/
def ClaimOutcome.code : ClaimOutcome → Nat
  | .granted => 0
  | .disputed => 1
  | .identityElsewhere => 2
  | .full => 3
  | .notCensus => 4

/-- A CLAIM REPLY, R129. -/
def claimReply (destination : Nat) (o : ClaimOutcome) (groups term : Nat) : Frame :=
  sentFrame .claimReply destination (byteOf o.code :: byteOf groups :: bytesOfHalf term)

/-- The RESOLVE REPLY outcomes, section 12.2. -/
inductive ResolveOutcome where
  | found
  | held
  | notFound
  deriving DecidableEq, Repr

/-- Their codes. -/
def ResolveOutcome.code : ResolveOutcome → Nat
  | .found => 0
  | .held => 1
  | .notFound => 2

/-- A RESOLVE REPLY, R77 and R78; the state field is 0 for NONE. -/
def resolveReply (destination : Nat) (o : ResolveOutcome) (address : Nat) (i : Identity) (state : Nat) : Frame :=
  sentFrame .resolveReply destination (byteOf o.code :: byteOf address :: (bytesOfIdentity i ++ [byteOf state]))

/-- The GROUP REPLY outcomes, section 12.2. -/
inductive GroupOutcome where
  | ok
  | notBound
  | badGroup
  | closed
  | already
  | groupFull
  | noEntries
  | notMember
  deriving DecidableEq, Repr

/-- Their codes. -/
def GroupOutcome.code : GroupOutcome → Nat
  | .ok => 0
  | .notBound => 1
  | .badGroup => 2
  | .closed => 3
  | .already => 4
  | .groupFull => 5
  | .noEntries => 6
  | .notMember => 7

/-- A GROUP REPLY, R134. -/
def groupReply (destination group : Nat) (o : GroupOutcome) (members : List Nat) : Frame :=
  sentFrame .groupReply destination (byteOf group :: byteOf o.code :: byteOf members.length :: members.map byteOf)

end Sys2Proof.Machine
end

