-- ==== Sys2Proof/Machine/Ops.lean ====
section
/-! DEFINITION. The named operations over the directory, the pool, the groups, the Transmit Queue and the port that every
meaning is built from: lookup and record changes, change marks, the fate of an address, retirement, dispute entry,
claims of the Transmit Queue, and the taking and completing of host commands. Raising an attention cause stands in
Flags.lean. The block has no exception entry (INVENTORY.md, "Faults"). -/

namespace Sys2Proof.Machine

/-! ## The block setters: each writes one block of the state -/

def State.setDirectory (d : Directory) (s : State) : State := { s with directory := d }
def State.setPool (p : Pool) (s : State) : State := { s with pool := p }
def State.setCensus (c : Census) (s : State) : State := { s with census := c }
def State.setProber (p : Prober) (s : State) : State := { s with prober := p }
def State.setGroups (g : List Group) (s : State) : State := { s with groups := g }
def State.setLine (l : Line) (s : State) : State := { s with line := l }
def State.setQueue (q : TxQueue) (s : State) : State := { s with queue := q }
def State.setClock (c : Clock) (s : State) : State := { s with clock := c }
def State.setParams (p : Params) (s : State) : State := { s with params := p }
def State.setPort (p : Port) (s : State) : State := { s with port := p }

/-! ## Finding and changing records -/

/-- The address index, R3: the record at the address. -/
def State.recordAt (s : State) (a : Nat) : Option Record := s.directory.records.find? (fun r => r.address == a)

/-- The identity index, R3: the record with the recorded identity. -/
def State.recordOf (s : State) (i : Identity) : Option Record := s.directory.records.find? (fun r => r.identity == i)

/-- A record put among records sorted by address. -/
def insertRecord (r : Record) : List Record → List Record
  | [] => [r]
  | q :: qs => if r.address < q.address then r :: q :: qs else q :: insertRecord r qs

/-- A record in place of the one at its address. -/
def replaceRecord (r : Record) (rs : List Record) : List Record :=
  rs.map (fun q => if q.address = r.address then r else q)

/-- The records but for the one at the address. -/
def removeRecord (a : Nat) (rs : List Record) : List Record := rs.filter (fun q => q.address != a)

/-- The fields of the record at r's address take r's values. -/
def State.putRecord (r : Record) (s : State) : State :=
  s.setDirectory { s.directory with records := replaceRecord r s.directory.records }

/-- The number of records in a state, R5. -/
def State.countIn (s : State) (t : RecordState) : Nat := (s.directory.records.filter (fun r => r.state == t)).length

/-! ## Change marks, section 1.6 -/

/-- The events that move a mark, R17. -/
inductive MarkEvent where
  | created
  | altered
  | removed
  deriving DecidableEq, Repr

/-- The table of R18. A combination the table marks with a dash keeps the mark (log 16). -/
def Mark.move : MarkEvent → Mark → Mark
  | .created, .clean => .added
  | .created, .removed => .replaced
  | .created, m => m
  | .altered, .clean => .altered
  | .altered, m => m
  | .removed, .clean => .removed
  | .removed, .added => .clean
  | .removed, .altered => .removed
  | .removed, .replaced => .removed
  | .removed, .removed => .removed

/-- The mark of an address in a listing of the marks that are not CLEAN. -/
def markIn (marks : List (Nat × Mark)) (a : Nat) : Mark :=
  match marks.find? (fun p => p.1 == a) with
  | some p => p.2
  | none => .clean

/-- A listed mark put in address order. -/
def insertMark (a : Nat) (m : Mark) : List (Nat × Mark) → List (Nat × Mark)
  | [] => [(a, m)]
  | p :: ps => if a < p.1 then (a, m) :: p :: ps else p :: insertMark a m ps

/-- The listing with one address's mark set; CLEAN is not listed. -/
def setMark (a : Nat) (m : Mark) (marks : List (Nat × Mark)) : List (Nat × Mark) :=
  let rest := marks.filter (fun p => p.1 != a)
  if m = .clean then rest else insertMark a m rest

/-- The change mark of an address. -/
def State.markOf (s : State) (a : Nat) : Mark := markIn s.directory.marks a

/-- An event moves the mark of an address, R18. -/
def State.note (e : MarkEvent) (a : Nat) (s : State) : State :=
  s.setDirectory { s.directory with marks := setMark a (Mark.move e (s.markOf a)) s.directory.marks }

/-! ## The lapse list, section 1.7 -/

/-- Put at the tail. -/
def State.appendLapse (a : Nat) (s : State) : State :=
  s.setDirectory { s.directory with lapseList := s.directory.lapseList ++ [a] }

/-- Put at the head. -/
def State.prependLapse (a : Nat) (s : State) : State :=
  s.setDirectory { s.directory with lapseList := a :: s.directory.lapseList }

/-- Removed, if it is in the list. -/
def State.dropLapse (a : Nat) (s : State) : State :=
  s.setDirectory { s.directory with lapseList := s.directory.lapseList.filter (fun b => b != a) }

/-! ## The Address Pool, R24 to R33 -/

/-- The status of a leasable address, R24. -/
inductive AddressStatus where
  | free
  | quarantined
  | held
  deriving DecidableEq, Repr

/-- Where an address stands, R24. -/
def State.statusOf (s : State) (a : Nat) : AddressStatus :=
  if s.pool.free.contains a then .free
  else if s.pool.quarantine.any (fun q => q.address == a) then .quarantined
  else .held

/-- An address leaves the free list or the quarantine queue, wherever it stands, the others keeping their order (R25,
R29). -/
def State.takeAddress (a : Nat) (s : State) : State :=
  s.setPool { free := s.pool.free.filter (fun b => b != a),
              quarantine := s.pool.quarantine.filter (fun q => q.address != a) }

/-- Where an ended record's address goes, R15. -/
inductive Place where
  | quarantineTail
  | freeHead
  | freeTail
  | passedOn
  deriving DecidableEq, Repr

/-- The return of an ended record's address, R26. -/
def State.returnAddress (place : Place) (r : Record) (s : State) : State :=
  match place with
  | .quarantineTail =>
    if s.params.quarantineHold = 0 then s.setPool { s.pool with free := s.pool.free ++ [r.address] }
    else s.setPool { s.pool with quarantine := s.pool.quarantine ++
      [{ address := r.address, lastIdentity := r.identity, hold := s.params.quarantineHold }] }
  | .freeHead => s.setPool { s.pool with free := r.address :: s.pool.free }
  | .freeTail => s.setPool { s.pool with free := s.pool.free ++ [r.address] }
  | .passedOn => s

/-- The address the pool chooses for a joiner, R30: a FREE hint, the joiner's own quarantined hint, the free list head. -/
def State.chooseAddress (hint : Nat) (i : Identity) (s : State) : Option Nat :=
  if s.pool.free.contains hint then some hint
  else if s.pool.quarantine.any (fun q => q.address == hint && q.lastIdentity == i) then some hint
  else s.pool.free.head?

/-! ## Groups, section 9.1 -/

/-- The group of a number in 1 to 32. -/
def State.group (s : State) (g : Nat) : Group := s.groups.getD (g - 1) { mode := .opened, members := [] }

/-- Write the group of a number. -/
def State.setGroup (g : Nat) (v : Group) (s : State) : State := s.setGroups (s.groups.set (g - 1) v)

/-- The members of all lists together. -/
def memberTotal (groups : List Group) : Nat := (groups.map (fun g => g.members.length)).sum

/-- The member entry pool's free count, R133. -/
def State.freeEntries (s : State) : Nat := Config.memberEntries - memberTotal s.groups

/-- The address is struck from every member list, R140. -/
def State.strike (a : Nat) (s : State) : State :=
  s.setGroups (s.groups.map (fun g => { g with members := g.members.filter (fun b => b != a) }))

/-- The address is appended to the tail of a group's list; an alteration (R132, R17). -/
def State.addMember (g a : Nat) (s : State) : State :=
  (s.setGroup g { s.group g with members := (s.group g).members ++ [a] }).note .altered a

/-- The address is removed from a group's list; an alteration. -/
def State.removeMember (g a : Nat) (s : State) : State :=
  (s.setGroup g { s.group g with members := (s.group g).members.filter (fun b => b != a) }).note .altered a

/-! ## Terms, section 3.2 -/

/-- The term granted on a requested term, R42. -/
def State.grantTerm (s : State) (requested : Nat) : Nat :=
  min (if requested = 0 then s.params.defaultTerm else requested) s.params.maximumTerm

/-- The granted term of a record, or for one that has none the default term cut down to the maximum, R2. -/
def State.grantedOf (s : State) (r : Record) : Nat := r.granted.getD (s.grantTerm 0)

/-- The record with its term set to its granted term, R43 and R2. -/
def State.refreshed (s : State) (r : Record) : Record :=
  { r with term := s.grantedOf r, granted := some (s.grantedOf r) }

/-! ## Creating and ending records -/

/-- A record is created at its address, R6: both index entries and the mark. -/
def State.createRecord (r : Record) (s : State) : State :=
  (s.setDirectory { s.directory with records := insertRecord r s.directory.records }).note .created r.address

/-- The end of a record, R14, its steps in order: the address, the lapse list, (the offer wait goes with the record's
offer context,) the member lists, the record, the mark. -/
def State.endRecord (place : Place) (r : Record) (s : State) : State :=
  let s := ((s.returnAddress place r).dropLapse r.address).strike r.address
  (s.setDirectory { s.directory with records := removeRecord r.address s.directory.records }).note .removed r.address

/-- Retirement, R14 and R15. -/
def State.retire (r : Record) (s : State) : State := s.endRecord .quarantineTail r

/-- A record that lapses, R8 and R44: term and attempts 0, appended to the lapse list unless it is the probe target
(R45, R66); an alteration. -/
def State.lapseRecord (r : Record) (s : State) : State :=
  let t := s.putRecord { r with state := .lapsed, term := 0, attempts := 0, offer := none }
  (if s.isTarget r then t else t.appendLapse r.address).note .altered r.address

/-- A record that becomes BOUND, leaving the lapse list: attempts 0, no offer, no rival, no hold (R8, R9); an
alteration. The record given carries the term and the quiet count its rule sets. -/
def State.bindRecord (r : Record) (s : State) : State :=
  ((s.putRecord { r with state := .bound, attempts := 0, offer := none, rival := none, hold := none }).dropLapse
    r.address).note .altered r.address

/-! ## The Transmit Queue, section 10.5 -/

/-- The send-attempt limit of a frame queued now, R151. -/
def State.attemptLimit (s : State) (f : Frame) : Nat :=
  if 1 ≤ f.destination.toNat ∧ f.destination.toNat ≤ 253 then s.params.sendAttempts else 1

/-- A free entry: one that holds no frame and is not set aside, R150. -/
def State.hasFreeEntry (s : State) : Bool := s.queue.entries.length + s.queue.setAside < Config.queueEntries

/-- REPLY-class entries in the queue. -/
def replyCount (es : List TxEntry) : Nat := (es.filter (fun e => e.cls == .reply)).length

/-- A frame enters the queue. -/
def State.enqueue (cls : TxClass) (o : Originator) (f : Frame) (s : State) : State :=
  s.setQueue { s.queue with entries := s.queue.entries ++
    [{ frame := f, check := f.check, cls := cls, used := 0, limit := s.attemptLimit f, originator := o,
       sending := false, lastTry := false }] }

/-- A DIRECTORY-class claim is granted: the line is not DISABLED and an entry is free, R150. -/
def State.claimGranted (s : State) : Bool := s.line.state != .disabled && s.hasFreeEntry

/-- A DIRECTORY-class frame is queued when its claim is granted, and dropped otherwise, R150. -/
def State.claimOrDrop (o : Originator) (f : Frame) (s : State) : State :=
  if s.claimGranted then s.enqueue .directory o f else s

/-- A reply is queued in the place set aside for it, R72. -/
def State.queueReply (o : Originator) (f : Frame) (s : State) : State :=
  (s.setQueue { s.queue with setAside := s.queue.setAside - 1 }).enqueue .reply o f

/-- The Prober's frames no longer report to a context in use, R91. -/
def detachProbe (e : TxEntry) : TxEntry :=
  match e.originator with
  | .prober _ => { e with originator := .prober false }
  | _ => e

/-- The command's frames no longer report to a command in progress, R171. -/
def detachCommand (e : TxEntry) : TxEntry :=
  match e.originator with
  | .command _ => { e with originator := .command false }
  | _ => e

/-- The probe context ends: it is emptied, and reports for its PROBE are ignored from now on, R91. -/
def State.emptyContext (s : State) : State :=
  (s.setProber { s.prober with context := none }).setQueue
    { s.queue with entries := s.queue.entries.map detachProbe }

/-- A waiting claim takes an entry that is free, and its REVOKE is queued, R150. -/
def State.grantWaiting (s : State) : State :=
  match s.queue.waiting with
  | some f =>
    if s.hasFreeEntry then (s.setQueue { s.queue with waiting := none }).enqueue .directory (.command true) f else s
  | none => s

/-! ## Disputes, sections 7.1 to 7.3 -/

/-- Steps 1 to 6 of R108. -/
def State.enterDisputed (r : Record) (rival : Option Identity) (s : State) : State :=
  let hold := if s.params.disputeHold = 0 then none else some s.params.disputeHold
  ((s.putRecord { r with state := .disputed, rival := rival, offer := none, attempts := 0, hold := hold }).dropLapse
    r.address).note .altered r.address

/-- The actions of the REVOKE policy, R110 and R111: an untargeted REVOKE is claimed and the record is retired. -/
def State.revokeDisputed (r : Record) (s : State) : State :=
  (s.claimOrDrop .dispute (untargetedRevoke r.address)).retire r

/-- A dispute is raised on a record, R108, and the policy in force is applied, R109 and R110. -/
def State.raiseDispute (r : Record) (rival : Option Identity) (s : State) : State :=
  let t := s.enterDisputed r rival
  match s.params.disputePolicy with
  | .hold => t.raise .dispute
  | .revoke => t.revokeDisputed r

/-- Evidence with identity I on a record already DISPUTED, R106: it fills an absent rival field. -/
def State.fillRival (r : Record) (i : Identity) (s : State) : State :=
  if r.identity = i ∨ r.rival.isSome then s
  else (s.putRecord { r with rival := some i }).note .altered r.address

/-! ## Taking and completing host commands, section 11.2 -/

/-- A command completes, R160: outcome, ERROR, DONE, and RESULT or READY. -/
def State.complete (o : OutcomeCode) (results : Bool) (s : State) : State :=
  State.raise .done (s.setPort { s.port with outcome := o, error := o != .ok,
                                             state := if results then .result else .ready })

/-- A command is refused by a check, or completes with no result. -/
def State.finish (o : OutcomeCode) (s : State) : State := s.complete o false

/-- A command is taken, R159, and starts: in BUSY the code is lost and COLLIDE is set. -/
def State.takeCommand (code : Byte) (body : State → State) (s : State) : State :=
  if s.port.state = .busy then s.setPort { s.port with collide := true }
  else body (s.setPort { s.port with error := false, collide := false, state := .busy, code := code })

/-- The REVOKE of an Evict or Award, R161: UNDELIVERED at once while DISABLED; queued, or waiting for an entry, with the
command BUSY, otherwise. -/
def State.commandRevoke (f : Frame) (s : State) : State :=
  if s.line.state = .disabled then s.finish .undelivered
  else if s.hasFreeEntry then s.enqueue .directory (.command true) f
  else s.setQueue { s.queue with waiting := some f }

/-- The line shows a run of equal bits of a level that nothing tells, a free value (log 9): so many recessive ones or so
many dominant ones. -/
def State.showRun (recessive dominant : Nat) (s : State) : State :=
  let line := if Config.freeLevel s.chance then { s.line with recessiveRun := recessive, dominantRun := 0 }
    else { s.line with recessiveRun := 0, dominantRun := dominant }
  { s with line := line, chance := s.chance + 1 }

/-- A free value of 1 to the number given (log 9). -/
def State.freeUpTo (most : Nat) (s : State) : Nat := 1 + Config.freeRun s.chance % most

/-- The runs that the bits of a frame leave from its start mark on, R144. -/
def State.runsOf (bits : List Bool) (s : State) : State :=
  s.setLine (feedBits bits { s.line with recessiveRun := 0, dominantRun := 0 })

/-- The runs that the bits of a frame leave where a free value was drawn to say which bits they are (log 9). -/
def State.runsDrawn (bits : List Bool) (s : State) : State := { s.runsOf bits with chance := s.chance + 1 }

/-- The runs after the bits of a field that the operand tells, R144. The bits before the field are not told: they leave a
run of 1 to 6 equal bits, a free value (log 9), since a seventh is followed by its stuff bit. -/
def State.feedField (bits : List Bool) (s : State) : State :=
  let level := Config.freeLevel s.chance
  let n := s.freeUpTo (Config.stuffAfter - 1)
  let before := { s.line with recessiveRun := if level then n else 0, dominantRun := if level then 0 else n }
  { s with line := feedBits (stuffFrom level n bits) before, chance := s.chance + 1 }

end Sys2Proof.Machine
end

