-- ==== Sys2Proof/Machine/GroupTable.lean ====
section
/-! DEFINITION. The Group Table (spec/09): the node requests and the host's group commands. -/

namespace Sys2Proof.Machine

/-- The members a GROUP REPLY lists: those of the group as the request left it, none for a number outside 1 to 32,
R134. -/
def State.membersOf (s : State) (g : Nat) : List Nat := if groupNumber g then (s.group g).members else []

/-- A GROUP REPLY is queued with the group's list as it now stands, R134. -/
def State.answerGroup (a g : Nat) (o : GroupOutcome) (s : State) : State :=
  s.queueReply .reply (groupReply a g o (s.membersOf g))

/-- The record at the address is BOUND or LAPSED, R135 and R136. -/
def State.usable (s : State) (a : Nat) : Bool :=
  match s.recordAt a with
  | some r => r.state == .bound || r.state == .lapsed
  | none => false

/-- An admitted GROUP JOIN, R135. -/
def State.takeGroupJoin (a g : Nat) (s : State) : State :=
  if !s.usable a then s.answerGroup a g .notBound
  else if !groupNumber g then s.answerGroup a g .badGroup
  else if (s.group g).mode = .closed then s.answerGroup a g .closed
  else if (s.group g).members.contains a then s.answerGroup a g .already
  else if Config.groupMembers ≤ (s.group g).members.length then s.answerGroup a g .groupFull
  else if s.freeEntries = 0 then s.answerGroup a g .noEntries
  else (s.addMember g a).answerGroup a g .ok

/-- An admitted GROUP LEAVE, R136. -/
def State.takeGroupLeave (a g : Nat) (s : State) : State :=
  if groupNumber g && s.usable a && (s.group g).members.contains a then (s.removeMember g a).answerGroup a g .ok
  else s.answerGroup a g .notMember

/-- An admitted GROUP EXPAND, R137. -/
def State.takeGroupExpand (a g : Nat) (s : State) : State :=
  if groupNumber g then s.answerGroup a g .ok else s.answerGroup a g .badGroup

/-- Group Assign, R138. -/
def State.groupAssign (s : State) : State :=
  let g := s.p 0
  let a := s.p 1
  if !(groupNumber g && leasable a) then s.finish .badValue
  else if (s.recordAt a).isNone then s.finish .notFound
  else if (s.group g).members.contains a then s.finish .already
  else if Config.groupMembers ≤ (s.group g).members.length then s.finish .groupFull
  else if s.freeEntries = 0 then s.finish .noEntries
  else (s.addMember g a).finish .ok

/-- GROUP_ASSIGN, code 40h. -/
def execGroupAssign (s : State) : Host.Outcome State Fault Refusal := .next (s.takeCommand 0x40 State.groupAssign)

/-- Group Remove, R138. -/
def State.groupRemove (s : State) : State :=
  let g := s.p 0
  let a := s.p 1
  if !(groupNumber g && leasable a) then s.finish .badValue
  else if (s.group g).members.contains a then (s.removeMember g a).finish .ok
  else s.finish .notMember

/-- GROUP_REMOVE, code 41h. -/
def execGroupRemove (s : State) : Host.Outcome State Fault Refusal := .next (s.takeCommand 0x41 State.groupRemove)

/-- Read Group, R139 and R175. -/
def State.readGroup (s : State) : State :=
  let g := s.p 0
  if groupNumber g then
    let m := (s.group g).members
    ((s.setBuffer (m.map byteOf) Config.bufferSize).setResults
      ([byteOf m.length, byteOf (s.group g).mode.code] ++ bytesOfHalf s.freeEntries)).complete .ok true
  else s.finish .badValue

/-- READ_GROUP, code 42h. -/
def execReadGroup (s : State) : Host.Outcome State Fault Refusal := .next (s.takeCommand 0x42 State.readGroup)

/-- Set Group Mode, R139. -/
def State.setGroupMode (s : State) : State :=
  let g := s.p 0
  match gateOf (s.p 1) with
  | some m => if groupNumber g then (s.setGroup g { s.group g with mode := m }).finish .ok else s.finish .badValue
  | none => s.finish .badValue

/-- SET_GROUP_MODE, code 43h. -/
def execSetGroupMode (s : State) : Host.Outcome State Fault Refusal := .next (s.takeCommand 0x43 State.setGroupMode)

/-- Clear Group, R139: each address removed is an alteration. -/
def State.clearGroup (s : State) : State :=
  let g := s.p 0
  if groupNumber g then
    ((s.group g).members.foldl (fun t a => t.note .altered a) (s.setGroup g { s.group g with members := [] })).finish .ok
  else s.finish .badValue

/-- CLEAR_GROUP, code 44h. -/
def execClearGroup (s : State) : Host.Outcome State Fault Refusal := .next (s.takeCommand 0x44 State.clearGroup)

end Sys2Proof.Machine
end

