-- ==== Sys2Proof/Machine/Joining.lean ====
section
/-! DEFINITION. The Join Unit: JOIN, ACCEPT and the expiry of an offer (spec/04). -/

namespace Sys2Proof.Machine

/-- A JOIN REFUSED is queued in the set-aside place; POOL is raised for FULL and POOL_EMPTY, R56 and R58. -/
def State.refuseJoin (i : Identity) (r : RefusalReason) (s : State) : State :=
  let t := s.queueReply .joinUnit (joinRefusedFrame i r)
  match r with
  | .full | .poolEmpty => t.raise .pool
  | .census | .closed | .disputed | .busy => t

/-- The OFFER of an offer under way is queued in the set-aside place with the present epoch period, R59 and R61. -/
def State.queueOffer (r : Record) (term : Nat) (s : State) : State :=
  s.queueReply .joinUnit (offerFrame r.identity r.address term s.params.epochPeriod)

/-- An offer of origin NEW at the address chosen, R58 and R59. -/
def State.offerNew (i : Identity) (address requested : Nat) (s : State) : State :=
  let term := s.grantTerm requested
  let r : Record := { address := address, identity := i, state := .offered, pinned := false, term := 0, granted := none,
                      quiet := 0, attempts := 0, rival := none,
                      offer := some { origin := .new, term := term, wait := s.params.offerWait }, hold := none }
  ((s.takeAddress address).createRecord r).queueOffer r term

/-- An offer of origin RESERVED or REBIND on an existing record, R59, R60 and R2: a RESERVED record has no term, granted
term or quiet count; a rebound record keeps its own. -/
def State.offerAgain (origin : Origin) (r : Record) (requested : Nat) (s : State) : State :=
  let term := s.grantTerm requested
  let o : OfferContext := { origin := origin, term := term, wait := s.params.offerWait }
  (((s.putRecord { r with state := .offered, attempts := 0, offer := some o }).dropLapse r.address).note
    .altered r.address).queueOffer r term

/-- A repeated JOIN re-sends the offer and restarts its wait, R61. -/
def State.resendOffer (r : Record) (s : State) : State :=
  match r.offer with
  | some o => (s.putRecord { r with offer := some { o with wait := s.params.offerWait } }).queueOffer r o.term
  | none => s.queueOffer r 0

/-- A JOIN from the recorded identity of a record, R57. -/
def State.joinKnown (r : Record) (requested : Nat) (s : State) : State :=
  match r.state with
  | .reserved =>
    if s.countIn .offered < Config.maxOffered then s.offerAgain .reserved r requested else s.refuseJoin r.identity .busy
  | .bound | .lapsed =>
    if s.countIn .offered < Config.maxOffered then s.offerAgain .rebind r requested else s.refuseJoin r.identity .busy
  | .offered => s.resendOffer r
  | .disputed => s.refuseJoin r.identity .disputed

/-- The examination of an admitted JOIN, R56: the first step that decides ends it. -/
def State.takeJoin (i : Identity) (hint requested : Nat) (s : State) : State :=
  if s.census.mode = .census then s.refuseJoin i .census
  else if s.params.joinGate = .closed then s.refuseJoin i .closed
  else match s.recordOf i with
    | some r => s.joinKnown r requested
    | none =>
      if Config.maxRecords ≤ s.directory.records.length then s.refuseJoin i .full
      else if Config.maxOffered ≤ s.countIn .offered then s.refuseJoin i .busy
      else match s.chooseAddress hint i with
        | some a => s.offerNew i a requested
        | none => s.refuseJoin i .poolEmpty

/-- A DISPUTED record whose rival has completed a join elsewhere, R64. -/
def State.endDispute (r : Record) (s : State) : State := s.bindRecord { s.refreshed r with quiet := 0 }

/-- The DISPUTED records with the rival, in ascending address order, R64. -/
def State.disputesOf (s : State) (i : Identity) : List Record :=
  s.directory.records.filter (fun r => r.state == .disputed && r.rival == some i)

/-- Every dispute in which the identity is the rival ends, R64. -/
def State.resolveRival (i : Identity) (s : State) : State :=
  (s.disputesOf i).foldl (fun t r => t.endDispute r) s

/-- An offer completed as BOUND with a term, R63 and R127. -/
def State.completeOffer (r : Record) (term : Nat) (s : State) : State :=
  s.bindRecord { r with term := term, granted := some term, quiet := 0 }

/-- An admitted ACCEPT, R63 to R65. -/
def State.takeAccept (a : Nat) (i : Identity) (s : State) : State :=
  match s.recordAt a with
  | some r =>
    match r.offer with
    | some o =>
      if r.state = .offered ∧ r.identity = i then (s.completeOffer r o.term).resolveRival i
      else s.claimOrDrop .joinUnit (targetedRevoke a i)
    | none => s.claimOrDrop .joinUnit (targetedRevoke a i)
  | none => s.claimOrDrop .joinUnit (targetedRevoke a i)

/-- The expiry of an offer by its origin, R66. -/
def State.expireOffer (r : Record) (o : OfferContext) (s : State) : State :=
  match o.origin with
  | .new => s.endRecord .freeHead r
  | .reserved =>
    (s.putRecord { r with state := .reserved, term := 0, attempts := 0, offer := none }).note .altered r.address
  | .rebind => if r.pinned then s.bindRecord (s.refreshed r) else s.lapseRecord r

/-- OFFER_WAIT_EXPIRY, R66: the wait of the offer at the address reaches 0. With no offer there nothing happens. -/
def execOfferWaitExpiry (address : Byte) (s : State) : Host.Outcome State Fault Refusal :=
  match s.recordAt address.toNat with
  | some r =>
    match r.offer with
    | some o => .next (if r.state = .offered then s.expireOffer r o else s)
    | none => .next s
  | none => .next s

end Sys2Proof.Machine
end

