-- ==== Sys2Proof/Machine/Renewal.lean ====
section
/-! DEFINITION. RENEW, LEAVE, the two RESOLVE requests (spec/05) and CLASH REPORT (R107), as the Lease Directory takes
them after admission. -/

namespace Sys2Proof.Machine

/-- A granted RENEW, R74. -/
def State.grantRenew (r : Record) (requested : Nat) (s : State) : State :=
  let term := s.grantTerm requested
  let q := { r with term := term, granted := some term, quiet := 0, attempts := 0 }
  if r.state = .lapsed then s.bindRecord q else s.putRecord q

/-- Evidence with an identity against a BOUND, LAPSED or DISPUTED record, R106: another identity raises a dispute or
fills an absent rival. -/
def State.takeEvidence (r : Record) (i : Identity) (s : State) : State :=
  if r.state = .disputed then s.fillRival r i
  else if r.identity = i then s else s.raiseDispute r (some i)

/-- An admitted RENEW, by the record at its source, R73. -/
def State.takeRenew (a : Nat) (i : Identity) (requested : Nat) (s : State) : State :=
  match s.recordAt a with
  | none => s.queueReply .reply (renewReply a .unknown 0)
  | some r =>
    match r.state with
    | .reserved | .offered => s.queueReply .reply (renewReply a .notBound 0)
    | .disputed => (s.takeEvidence r i).queueReply .reply (renewReply a .disputed 0)
    | .bound | .lapsed =>
      if r.identity = i then (s.grantRenew r requested).queueReply .reply (renewReply a .ok (s.grantTerm requested))
      else (s.takeEvidence r i).queueReply .reply (renewReply a .disputed 0)

/-- An admitted LEAVE, R76. -/
def State.takeLeave (a : Nat) (i : Identity) (s : State) : State :=
  match s.recordAt a with
  | none => s
  | some r =>
    match r.state with
    | .bound | .lapsed | .disputed => if r.identity = i then s.retire r else s
    | .reserved | .offered => s

/-- The RESOLVE outcome for a record's state, R77 and R78. -/
def resolveOutcome : RecordState → ResolveOutcome
  | .bound | .lapsed => .found
  | .reserved | .offered | .disputed => .held

/-- An admitted RESOLVE IDENTITY, R77. -/
def State.takeResolveIdentity (a : Nat) (i : Identity) (s : State) : State :=
  match s.recordOf i with
  | some r => s.queueReply .reply (resolveReply a (resolveOutcome r.state) r.address i r.state.code)
  | none => s.queueReply .reply (resolveReply a .notFound 0 i 0)

/-- An admitted RESOLVE ADDRESS, R78. -/
def State.takeResolveAddress (a b : Nat) (s : State) : State :=
  match (if leasable b then s.recordAt b else none) with
  | some r => s.queueReply .reply (resolveReply a (resolveOutcome r.state) b r.identity r.state.code)
  | none => s.queueReply .reply (resolveReply a .notFound b 0 0)

/-- An admitted CLASH REPORT, R107: from the holder it raises a dispute with no rival. -/
def State.takeClashReport (a : Nat) (i : Identity) (s : State) : State :=
  match s.recordAt a with
  | none => s
  | some r =>
    match r.state with
    | .bound | .lapsed => s.raiseDispute r (if r.identity = i then none else some i)
    | .disputed => s.fillRival r i
    | .reserved | .offered => s

end Sys2Proof.Machine
end

