-- ==== Sys2Proof/Machine/CensusUnit.lean ====
section
/-! DEFINITION. The Census Unit (spec/08): the CENSUS frame, starting and ending a census, and CLAIM. -/

namespace Sys2Proof.Machine

/-- A CENSUS frame of the Census Unit that waits unsent, R121. -/
def TxEntry.waitingCensus (e : TxEntry) : Bool := e.originator == .censusUnit && !e.sending

/-- A waiting CENSUS frame brought up to date, its check worked out again (R121, R173). -/
def TxEntry.updateCensus (f : Frame) (e : TxEntry) : TxEntry :=
  if e.waitingCensus then { e with frame := f, check := f.check } else e

/-- A CENSUS frame is queued, or the waiting one brought up to date, R121. -/
def State.queueCensus (s : State) : State :=
  let f := censusFrame s.census.window s.params.epochPeriod
  if s.queue.entries.any TxEntry.waitingCensus then
    s.setQueue { s.queue with entries := s.queue.entries.map (TxEntry.updateCensus f) }
  else s.claimOrDrop .censusUnit f

/-- A census starts or restarts, R120. -/
def State.beginCensus (s : State) : State :=
  (s.setCensus { s.census with mode := .census, window := s.params.censusWindow }).queueCensus

/-- A census under way ends with the CENSUS cause, R122 and R123. -/
def State.finishCensus (s : State) : State :=
  (s.setCensus { s.census with mode := .serving, window := 0 }).raise .census

/-- Start Census, R120. -/
def State.startCensus (s : State) : State :=
  if s.line.state = .online then s.beginCensus.finish .ok else s.finish .lineDown

/-- START_CENSUS, code 30h. -/
def execStartCensus (s : State) : Host.Outcome State Fault Refusal := .next (s.takeCommand 0x30 State.startCensus)

/-- End Census, R123. -/
def State.endCensus (s : State) : State :=
  if s.census.mode = .census then s.finishCensus.finish .ok else s.finish .ok

/-- END_CENSUS, code 31h. -/
def execEndCensus (s : State) : Host.Outcome State Fault Refusal := .next (s.takeCommand 0x31 State.endCensus)

/-! ## CLAIM, section 8.5 -/

/-- The groups a granted CLAIM lists are added in order, R128, with the number added. -/
def State.addClaimGroups (a : Nat) : List Nat → State → State × Nat
  | [], s => (s, 0)
  | g :: gs, s =>
    if !groupNumber g || (s.group g).members.contains a || Config.groupMembers ≤ (s.group g).members.length then
      s.addClaimGroups a gs
    else if s.freeEntries = 0 then (s, 0)
    else
      let t := (s.addMember g a).addClaimGroups a gs
      (t.1, t.2 + 1)

/-- A new BOUND record of a granted CLAIM, R127. -/
def claimedRecord (a : Nat) (i : Identity) (term : Nat) : Record :=
  { address := a, identity := i, state := .bound, pinned := false, term := term, granted := some term, quiet := 0,
    attempts := 0, rival := none, offer := none, hold := none }

/-- A CLAIM granted on a record of the claimant's own, R127: RESERVED, OFFERED and LAPSED become BOUND. -/
def State.grantClaim (r : Record) (term : Nat) (s : State) : State :=
  let q := { r with term := term, granted := some term, quiet := 0, attempts := 0 }
  if r.state = .bound then s.putRecord q else s.bindRecord q

/-- A granted CLAIM's groups and its reply, R128 and R129. -/
def State.answerGranted (a term : Nat) (groups : List Nat) (s : State) : State :=
  let t := s.addClaimGroups a groups
  t.1.queueReply .reply (claimReply a .granted t.2 term)

/-- A CLAIM that is not granted, R129. -/
def State.answerClaim (a : Nat) (o : ClaimOutcome) (s : State) : State := s.queueReply .reply (claimReply a o 0 0)

/-- A CLAIM carrying another identity than the record's, R126. -/
def State.claimAgainst (r : Record) (i : Identity) (term : Nat) (groups : List Nat) (s : State) : State :=
  match r.state with
  | .bound | .lapsed | .reserved => (s.raiseDispute r (some i)).answerClaim r.address .disputed
  | .disputed => (s.fillRival r i).answerClaim r.address .disputed
  | .offered =>
    match r.offer with
    | some { origin := .rebind, .. } => (s.raiseDispute r (some i)).answerClaim r.address .disputed
    | _ =>
      ((s.endRecord .passedOn r).createRecord (claimedRecord r.address i term)).answerGranted r.address term groups

/-- The case table of R126 in CENSUS mode. -/
def State.decideClaim (a : Nat) (i : Identity) (requested : Nat) (groups : List Nat) (s : State) : State :=
  let term := s.grantTerm requested
  if (s.recordOf i).any (fun r => r.address != a) then s.answerClaim a .identityElsewhere
  else match s.recordAt a with
    | none =>
      if Config.maxRecords ≤ s.directory.records.length then s.answerClaim a .full
      else ((s.takeAddress a).createRecord (claimedRecord a i term)).answerGranted a term groups
    | some r =>
      if r.identity = i then
        if r.state = .disputed then s.answerClaim a .disputed
        else (s.grantClaim r term).answerGranted a term groups
      else s.claimAgainst r i term groups

/-- An admitted CLAIM, R125. -/
def State.takeClaim (a : Nat) (i : Identity) (requested : Nat) (groups : List Nat) (s : State) : State :=
  if s.census.mode = .census then s.decideClaim a i requested groups else s.answerClaim a .notCensus

end Sys2Proof.Machine
end

