-- ==== Sys2Proof/Machine/Prober.lean ====
section
/-! DEFINITION. The Prober (spec/06): outcomes, the choice of the next probe, sweeps. -/

namespace Sys2Proof.Machine

/-- The outcome of an attempt, section 6.4. -/
inductive ProbeOutcome where
  | reply (identity : Identity)
  | noAnswer
  deriving DecidableEq, Repr

/-- The state a probe's record is expected in, R94. -/
def ProbeKind.expected : ProbeKind → RecordState
  | .lapse => .lapsed
  | .sweep => .bound

/-- The checks of R94: the record the outcome applies to, or none when it is discarded. -/
def State.outcomeTarget (c : ProbeContext) (o : ProbeOutcome) (s : State) : Option Record :=
  match s.recordAt c.target with
  | some r =>
    if r.identity = c.identity ∧ r.state = c.kind.expected ∧ ¬(c.kind = .sweep ∧ o = .noAnswer ∧ r.pinned = true)
    then some r else none
  | none => none

/-- A failed lapse probe, R96. -/
def State.failLapseProbe (r : Record) (attempt : Nat) (s : State) : State :=
  let q := { r with attempts := attempt }
  if attempt < s.params.probeAttempts then (s.putRecord q).appendLapse r.address else (s.putRecord q).retire q

/-- An outcome that passes the checks is applied, R95 and R97. The context is already empty. -/
def State.applyOutcome (c : ProbeContext) (o : ProbeOutcome) (r : Record) (s : State) : State :=
  match c.kind, o with
  | .lapse, .reply i =>
    if i = r.identity then s.bindRecord { s.refreshed r with quiet := 0 } else s.raiseDispute r (some i)
  | .lapse, .noAnswer => s.failLapseProbe r c.attempt
  | .sweep, .reply i =>
    if i = r.identity then s.putRecord { s.refreshed r with quiet := 0 } else s.raiseDispute r (some i)
  | .sweep, .noAnswer => s.lapseRecord r

/-- A target still LAPSED when its outcome is discarded goes to the tail of the lapse list, R98. -/
def State.placeDiscarded (c : ProbeContext) (s : State) : State :=
  match s.recordAt c.target with
  | some r => if r.identity = c.identity ∧ r.state = .lapsed then s.appendLapse r.address else s
  | none => s

/-- The attempt ends with an outcome, R94: it is applied or discarded, and the context is emptied. -/
def State.endAttempt (o : ProbeOutcome) (s : State) : State :=
  match s.prober.context with
  | none => s
  | some c =>
    match s.outcomeTarget c o with
    | some r => s.emptyContext.applyOutcome c o r
    | none => s.emptyContext.placeDiscarded c

/-- An admitted PROBE REPLY ends the attempt when it comes from the target address, in either phase, R92. -/
def State.takeProbeReply (a : Nat) (i : Identity) (s : State) : State :=
  match s.prober.context with
  | some c => if c.target = a then s.endAttempt (.reply i) else s
  | none => s

/-- The context is discarded without an outcome by Line Disable: a target still LAPSED goes to the head of the lapse
list, its attempts kept, R98 and R100. -/
def State.discardContext (s : State) : State :=
  match s.prober.context with
  | none => s
  | some c =>
    match s.recordAt c.target with
    | some r =>
      if r.identity = c.identity ∧ r.state = .lapsed then s.emptyContext.prependLapse r.address else s.emptyContext
    | none => s.emptyContext

/-- PROBE_WAIT_EXPIRY, R93: with no wait running nothing happens. -/
def execProbeWaitExpiry (s : State) : Host.Outcome State Fault Refusal :=
  match s.prober.context with
  | some c =>
    match c.phase with
    | .waiting _ => .next (s.endAttempt .noAnswer)
    | .queued => .next s
  | none => .next s

/-- A target is taken, R90: the context is filled and its PROBE queued. -/
def State.takeTarget (r : Record) (kind : ProbeKind) (attempt : Nat) (s : State) : State :=
  (s.setProber { s.prober with context := some { target := r.address, identity := r.identity, kind := kind,
                                                 attempt := attempt, phase := .queued } }).enqueue
    .directory (.prober true) (probeFrame r.address)

/-- The candidate test of R102. -/
def Sweep.candidate (w : Sweep) (r : Record) : Bool :=
  r.state == .bound && !r.pinned && w.cursor ≤ r.address && r.address ≤ w.last && w.threshold ≤ r.quiet

/-- The end of a pass, R103. -/
def State.endPass (w : Sweep) (s : State) : State :=
  let passes := (w.passes + 1) % 65536
  let next := match w.mode with
    | .once => none
    | .continuous => some { w with scanning := false, cursor := w.first, passes := passes }
  let t := s.setProber { s.prober with sweep := next }
  if w.mode = .once ∨ w.notice = .everyPass ∨ passes % 4 = 0 then t.raise .sweep else t

/-- The next sweep candidate is taken, or the pass ends, R102 and R103. -/
def State.sweepOn (w : Sweep) (s : State) : State :=
  match s.directory.records.find? w.candidate with
  | some r =>
    (s.setProber { s.prober with sweep := some { w with cursor := r.address + 1 } }).takeTarget r .sweep 1
  | none => s.endPass w

/-- The Prober may choose: idle, ONLINE, an entry free, R90. -/
def State.mayChoose (s : State) : Bool := s.prober.context.isNone && s.line.state == .online && s.hasFreeEntry

/-- The choice of R90: the lapse list head, or in SERVING mode the scanning sweep's next candidate. -/
def State.choose (s : State) : State :=
  match s.directory.lapseList with
  | a :: _ =>
    match s.recordAt a with
    | some r => (s.dropLapse a).takeTarget r .lapse (r.attempts + 1)
    | none => s
  | [] =>
    match s.prober.sweep with
    | some w => if w.scanning && s.census.mode == .serving then s.sweepOn w else s
    | none => s

/-- PROBE_CHOOSE, R90. -/
def execProbeChoose (s : State) : Host.Outcome State Fault Refusal := .next (if s.mayChoose then s.choose else s)

/-- The sweep context a Start Sweep sets up, R101. -/
def newSweep (first last : Nat) (mode : SweepMode) (notice : SweepNotice) (threshold : Nat) : Sweep where
  scanning := true
  first := first
  last := last
  mode := mode
  notice := notice
  threshold := threshold
  cursor := first
  passes := 0

/-- Start Sweep, R101. -/
def State.startSweep (s : State) : State :=
  match sweepModeOf (s.p 2), sweepNoticeOf (s.p 3) with
  | some m, some n =>
    if leasable (s.p 0) && leasable (s.p 1) && decide (s.p 0 ≤ s.p 1) then
      (s.setProber { s.prober with sweep := some (newSweep (s.p 0) (s.p 1) m n (s.p 4)) }).finish .ok
    else s.finish .badValue
  | _, _ => s.finish .badValue

/-- START_SWEEP, code 32h. -/
def execStartSweep (s : State) : Host.Outcome State Fault Refusal := .next (s.takeCommand 0x32 State.startSweep)

/-- Stop Sweep, R104. -/
def State.stopSweep (s : State) : State := (s.setProber { s.prober with sweep := none }).finish .ok

/-- STOP_SWEEP, code 33h. -/
def execStopSweep (s : State) : Host.Outcome State Fault Refusal := .next (s.takeCommand 0x33 State.stopSweep)

end Sys2Proof.Machine
end

