-- ==== Sys2Proof/Machine/EpochClock.lean ====
section
/-! DEFINITION. The Epoch Clock and the epoch expiry as each owner takes it (spec/03), the rows that name what comes
about inside an expiry (log 5), and the controller's time while no command waits (log 4). -/

namespace Sys2Proof.Machine

/-! ## The Lease Directory's part, R41: four parts as one operation -/

/-- A BOUND, unpinned record: the ones that age, R44. -/
def Record.ages (r : Record) : Bool := r.state == .bound && !r.pinned

/-- One epoch off the term of a record that ages, R44. -/
def Record.aged (r : Record) : Record := if r.ages then { r with term := r.term - 1 } else r

/-- Aging, R44: every term that ages drops by one, and the records that reach 0 lapse in ascending address order. -/
def State.ageTerms (s : State) : State :=
  let t := s.setDirectory { s.directory with records := s.directory.records.map Record.aged }
  (t.directory.records.filter (fun r => r.ages && r.term == 0)).foldl (fun u r => u.lapseRecord r) t

/-- One epoch more on a quiet count that counts, saturating, R46. -/
def Record.quieter (r : Record) : Record :=
  match r.state with
  | .bound | .lapsed | .disputed => { r with quiet := min (r.quiet + 1) 65535 }
  | .reserved | .offered => r

/-- Quiet counts, R46. -/
def State.countQuiet (s : State) : State :=
  s.setDirectory { s.directory with records := s.directory.records.map Record.quieter }

/-- One epoch off a dispute hold, R51. -/
def Record.held (r : Record) : Record := { r with hold := r.hold.map (fun h => h - 1) }

/-- Dispute holds, R51 and R111: each drops by one, and the records whose hold reaches 0 have the actions of the REVOKE
policy applied, in ascending address order. -/
def State.countHolds (s : State) : State :=
  let t := s.setDirectory { s.directory with records := s.directory.records.map Record.held }
  (t.directory.records.filter (fun r => r.hold == some 0)).foldl (fun u r => u.revokeDisputed r) t

/-- The pacing set is emptied, R52. -/
def State.emptyPacing (s : State) : State := s.setDirectory { s.directory with pacing := [] }

/-- The Lease Directory's part of an expiry, R41. -/
def State.directoryPart (s : State) : State := s.ageTerms.countQuiet.countHolds.emptyPacing

/-! ## The other owners' parts -/

/-- The Address Pool's part, R28: every hold drops by one and the entries that reach 0 go to the free list tail in queue
order. -/
def State.poolPart (s : State) : State :=
  let aged := s.pool.quarantine.map (fun q => { q with hold := q.hold - 1 })
  s.setPool { free := s.pool.free ++ (aged.filter (fun q => q.hold == 0)).map (fun q => q.address),
              quarantine := aged.filter (fun q => q.hold != 0) }

/-- The Prober's part, R103 and R104: a WAITING sweep scans again when the mode is SERVING. -/
def State.proberPart (s : State) : State :=
  match s.prober.sweep with
  | some w => if s.census.mode = .serving then s.setProber { s.prober with sweep := some { w with scanning := true } } else s
  | none => s

/-- The Census Unit's part, R122. -/
def State.censusPart (s : State) : State :=
  if s.census.mode = .census then
    if 2 ≤ s.census.window then (s.setCensus { s.census with window := s.census.window - 1 }).queueCensus
    else s.finishCensus
  else s

/-- The owner has taken its part of the present expiry. -/
def PartsTaken.has (t : PartsTaken) : EpochOwner → Bool
  | .leaseDirectory => t.leaseDirectory
  | .addressPool => t.addressPool
  | .prober => t.prober
  | .censusUnit => t.censusUnit

/-- The owner takes its part. -/
def PartsTaken.mark (t : PartsTaken) : EpochOwner → PartsTaken
  | .leaseDirectory => { t with leaseDirectory := true }
  | .addressPool => { t with addressPool := true }
  | .prober => { t with prober := true }
  | .censusUnit => { t with censusUnit := true }

/-- What an owner does at an expiry, R41. -/
def State.partOf (o : EpochOwner) (s : State) : State :=
  match o with
  | .leaseDirectory => s.directoryPart
  | .addressPool => s.poolPart
  | .prober => s.proberPart
  | .censusUnit => s.censusPart

/-- An owner takes its part of the present expiry, once (log 5). -/
def State.takePart (o : EpochOwner) (s : State) : State :=
  if s.clock.taken.has o then s
  else (s.partOf o).setClock { s.clock with taken := s.clock.taken.mark o }

/-- The owners in the order of R41. -/
def allOwners : List EpochOwner := [.leaseDirectory, .addressPool, .prober, .censusUnit]

/-- The parts of the expiry not yet taken, in the order given, R41. -/
def State.takeParts (order : List EpochOwner) (s : State) : State :=
  (order ++ allOwners).foldl (fun t o => t.takePart o) s

/-! ## The clock, R38 to R41 -/

/-- The clock freezes and the epoch under way is discarded, R39. -/
def State.freezeClock (s : State) : State := s.setClock { epoch := none, taken := PartsTaken.none }

/-- A full epoch begins with the parameter's present value, R39 and R40. -/
def State.beginEpoch (s : State) : State :=
  s.setClock { epoch := some { period := s.params.epochPeriod, left := Config.ticksPerTenth * s.params.epochPeriod },
               taken := PartsTaken.none }

/-- An epoch expiry, R41: every owner takes its part, and the next epoch begins at once (R38, R40). -/
def State.expire (order : List EpochOwner) (s : State) : State := (s.takeParts order).beginEpoch

/-- Before the line leaves ONLINE, R39: an expiry of which some owner has taken its part was taken first and acts in full
on every owner, the others in the order of R41 (log 5). -/
def State.finishExpiry (s : State) : State :=
  if s.line.state = .online ∧ s.clock.taken ≠ PartsTaken.none then s.expire [] else s

/-- EPOCH_EXPIRY, R41. The clock runs only while ONLINE. -/
def execEpochExpiry (order : List EpochOwner) (s : State) : Host.Outcome State Fault Refusal :=
  if s.line.state = .online then .next (s.expire order) else .next s

/-- LAPSE, R44: at the Lease Directory's part of an expiry the record at the address reaches term 0 (log 5). -/
def execLapse (address : Byte) (s : State) : Host.Outcome State Fault Refusal :=
  match s.recordAt address.toNat with
  | some r =>
    if s.line.state = .online ∧ r.ages ∧ r.term ≤ 1 then .next (s.takePart .leaseDirectory) else .next s
  | none => .next s

/-- DISPUTE_HOLD_EXPIRY, R111: at the Lease Directory's part of an expiry the record's hold reaches 0 (log 5). -/
def execDisputeHoldExpiry (address : Byte) (s : State) : Host.Outcome State Fault Refusal :=
  match s.recordAt address.toNat with
  | some r =>
    if s.line.state = .online ∧ r.state = .disputed ∧ r.hold = some 1 then .next (s.takePart .leaseDirectory)
    else .next s
  | none => .next s

/-- QUARANTINE_HOLD_EXPIRY, R28: at the Address Pool's part of an expiry some entry's hold reaches 0 (log 5). -/
def execQuarantineHoldExpiry (s : State) : Host.Outcome State Fault Refusal :=
  if s.line.state = .online ∧ s.pool.quarantine.any (fun q => q.hold == 1) then .next (s.takePart .addressPool)
  else .next s

/-- CENSUS_WINDOW_END, R122: at the Census Unit's part of an expiry the window reaches 0 (log 5). -/
def execCensusWindowEnd (s : State) : Host.Outcome State Fault Refusal :=
  if s.line.state = .online ∧ s.census.mode = .census ∧ s.census.window = 1 then .next (s.takePart .censusUnit)
  else .next s

/-! ## Time while no command waits (log 4) -/

/-- An offer wait counts down, R54. -/
def Record.waited (r : Record) : Record := { r with offer := r.offer.map (fun o => { o with wait := o.wait - 1 }) }

/-- A probe wait counts down, R88. -/
def ProbeContext.waited (c : ProbeContext) : ProbeContext :=
  match c.phase with
  | .waiting n => { c with phase := .waiting (n - 1) }
  | .queued => c

/-- The whole bit times that end within 5 ms at the line's rate, R146. Where 5 ms is no whole number of them, the bits lie
against the 5 ms as a free value says (log 28). -/
def State.bitsInTick (s : State) : Nat :=
  let bit := Config.bitMicros s.line.bitRate
  (Config.tickMicros + Config.freeRun s.chance % bit) / bit

/-- The runs after the bit times of 5 ms in which no row tells anything of the line, R144. The line stays idle: every bit
is recessive. Elsewhere the bits are not told, and the runs are free values below what a row of its own would tell:
LINE_ONLINE, LINE_FAULT, a stuff error, LINE_IDLE (fewer than three recessive bits outside a frame). In DISABLED and FAULT
the runs are not kept (log 28). -/
def State.countBits (s : State) : State :=
  match s.line.state, s.line.phase with
  | .disabled, _ => s
  | .fault, _ => s
  | .settling, _ => s.showRun (s.freeUpTo (Config.settleBits - 1)) (s.freeUpTo (Config.stuckBits - 1))
  | .online, .idle =>
    { s with line := { s.line with recessiveRun := s.line.recessiveRun + s.bitsInTick, dominantRun := 0 },
             chance := s.chance + 1 }
  | .online, .receiving => s.showRun (s.freeUpTo Config.stuffAfter) (s.freeUpTo Config.stuffAfter)
  | .online, .receivingDirectory => s.showRun (s.freeUpTo Config.stuffAfter) (s.freeUpTo Config.stuffAfter)
  | .online, .receivingOther => s.showRun (s.freeUpTo Config.stuffAfter) (s.freeUpTo Config.stuffAfter)
  | .online, .transmitting =>
    match s.queue.entries.find? (fun e => e.sending) with
    | some e =>
      let sent := e.frame.checkedBits e.check
      s.runsDrawn (sent.take (s.freeUpTo sent.length))
    | none => s
  | .online, .afterFrame => s.showRun (s.freeUpTo (Config.idleBits - 1)) (s.freeUpTo (Config.stuckBits - 1))
  | .online, .stopped =>
    s.showRun (s.freeUpTo (Config.frameTail + Config.idleBits - 1)) (s.freeUpTo (Config.stuckBits - 1))

/-- 5 ms pass: offer waits, the probe wait and the time left of the epoch count down and stop at 0, where their runs-out
are due, and the bit times of the line are counted (log 4 and log 28). -/
def State.tick (s : State) : State :=
  let t := s.countBits
  { t with directory := { t.directory with records := t.directory.records.map Record.waited },
           prober := { t.prober with context := t.prober.context.map ProbeContext.waited },
           clock := { t.clock with epoch := t.clock.epoch.map (fun e => { e with left := e.left - 1 }) } }

end Sys2Proof.Machine
end

