-- ==== Sys2Proof/Machine/LineUnit.lean ====
section
/-! DEFINITION. The Line Interface (spec/10): phases and termination, the line state, sending and the ends of an attempt,
and the host's line commands. Reception stands in Reception.lean. -/

namespace Sys2Proof.Machine

/-! ## Phases and termination -/

/-- The termination parameter of a phase, R155; after a frame and after an early end the setting in force is kept. -/
def Params.terminationFor (p : Params) : LinePhase → Option Termination
  | .idle => some p.park
  | .receiving => some p.pass
  | .receivingDirectory => some p.receive
  | .receivingOther => some p.pass
  | .transmitting => some p.drive
  | .afterFrame => none
  | .stopped => none

/-- The line enters a phase, and the termination takes the phase's setting when SEGMENT_END is high, R155. -/
def State.enterPhase (ph : LinePhase) (s : State) : State :=
  let setting := if s.line.segmentEnd then (s.params.terminationFor ph).getD s.line.termination else .openCircuit
  s.setLine { s.line with phase := ph, termination := setting }

/-- The line is idle, or a frame has ended since it last was: a step whose row begins on an idle line may be taken, the
line having become idle in between (log 7). -/
def State.mayBegin (s : State) : Bool :=
  s.line.state == .online && (s.line.phase == .idle || s.line.phase == .afterFrame)

/-- The phase in which a frame's destination has been read. -/
def addressedPhase (destination : Nat) : LinePhase :=
  if destination = Config.directoryAddress then .receivingDirectory else .receivingOther

/-- The recessive run when the line becomes idle, at the third recessive bit outside a frame, R144. After a frame a run that
holds its end mark goes on by three bits, and one that began outside it is those three bits. After an early end the bits of
the rest of the frame are not told: the three follow what recessive bits that frame may end with, a free value (log 9). -/
def State.runAtIdle (s : State) : Nat :=
  if s.line.phase = .stopped then Config.idleBits + Config.freeRun s.chance % (Config.frameTail + 1)
  else if Config.endMarkBits ≤ s.line.recessiveRun then s.line.recessiveRun + Config.idleBits
  else Config.idleBits

/-- LINE_IDLE, R144 and R155: after a frame, or after an early end, the line becomes idle. -/
def execLineIdle (s : State) : Host.Outcome State Fault Refusal :=
  if s.line.state = .online ∧ (s.line.phase = .afterFrame ∨ s.line.phase = .stopped) then
    let t := s.enterPhase .idle
    .next { t with line := { t.line with recessiveRun := s.runAtIdle, dominantRun := 0 },
                   chance := if s.line.phase = .stopped then s.chance + 1 else s.chance }
  else .next s

/-- START_MARK_RECEIVED, R147 and R155. -/
def execStartMarkReceived (s : State) : Host.Outcome State Fault Refusal :=
  if s.mayBegin then
    let t := s.enterPhase .receiving
    .next (t.setLine { t.line with recessiveRun := 0, dominantRun := 1 })
  else .next s

/-- The destination field has been read: a change of phase, which takes Receive or Pass afresh (log 13), unless its phase
is already in force. -/
def State.readDestination (destination : Nat) (s : State) : State :=
  if s.line.phase = addressedPhase destination then s else s.enterPhase (addressedPhase destination)

/-- DESTINATION_FIELD_READ, R155; the runs follow the destination's bits (R144). -/
def execDestinationFieldRead (destination : Byte) (s : State) : Host.Outcome State Fault Refusal :=
  if s.line.state = .online ∧ s.line.phase = .receiving then
    .next ((s.readDestination destination.toNat).feedField (bitsOf destination))
  else .next s

/-! ## The ends of a send attempt, R151 -/

/-- The entry whose frame is in transmission. -/
def State.sendingEntry (s : State) : Option TxEntry := s.queue.entries.find? (fun e => e.sending)

/-- The frame in transmission stops being so, and its entry stays in its place with the attempts given. -/
def State.keepEntry (used : Nat) (s : State) : State :=
  let settle := fun (e : TxEntry) => if e.sending then { e with used := used, sending := false } else e
  s.setQueue { s.queue with entries := s.queue.entries.map settle }

/-- A report reaches the originator, which acts as its rule gives: the Prober by R91, a command by R161, the others not
at all (R151). -/
def State.report (o : Originator) (sent : Bool) (s : State) : State :=
  match o with
  | .prober true =>
    match s.prober.context with
    | some c =>
      if c.phase = .queued then
        if sent then s.setProber { s.prober with context := some { c with phase := .waiting s.params.probeWait } }
        else s.endAttempt .noAnswer
      else s
    | none => s
  | .command true => s.finish (if sent then .ok else .undelivered)
  | .joinUnit | .reply | .stray | .dispute | .command false | .prober false | .censusUnit => s

/-- The entry in transmission leaves the queue: its place frees, a waiting claim takes it, and the originator is told
(R150, R151). -/
def State.leaveQueue (e : TxEntry) (sent : Bool) (s : State) : State :=
  ((s.setQueue { s.queue with entries := s.queue.entries.filter (fun x => !x.sending) }).grantWaiting).report
    e.originator sent

/-- An attempt that counts, R151: the entry stays, or is dropped at its limit, or leaves after its last try (R153). -/
def State.countAttempt (e : TxEntry) (s : State) : State :=
  if e.lastTry || e.limit ≤ e.used + 1 then s.leaveQueue e false else s.keepEntry (e.used + 1)

/-- An attempt settled at the acknowledge slot, R149 and R151: a frame to 0 or FFh is sent once it is reached. -/
def State.settleSlot (e : TxEntry) (dominant : Bool) (s : State) : State :=
  let d := e.frame.destination.toNat
  if dominant || d = 0 || d = Config.broadcastAddress then s.leaveQueue e true else s.countAttempt e

/-- ACKNOWLEDGE_SLOT, R151: with no frame in transmission nothing happens. The runs are those of the frame, its slot and
its end mark (R144, log 8). -/
def execAcknowledgeSlot (dominant : Bool) (s : State) : Host.Outcome State Fault Refusal :=
  match s.sendingEntry with
  | some e => .next (((s.enterPhase .afterFrame).runsOf (e.frame.wholeBits e.check !dominant)).settleSlot e dominant)
  | none => .next s

/-- The bits read up to an echo difference, R149: those sent up to a bit from the destination on, and that bit at the
other level. Which bit it is, is a free value (log 9). -/
def State.bitsToDifference (e : TxEntry) (s : State) : List Bool :=
  let sent := e.frame.checkedBits e.check
  let head := e.frame.arbitrationBits.length
  let k := head + Config.freeRun s.chance % (sent.length - head)
  sent.take k ++ [!sent.getD k true]

/-- ECHO_DIFFERENCE, R149: the attempt counts and the line is awaited idle. -/
def execEchoDifference (s : State) : Host.Outcome State Fault Refusal :=
  match s.sendingEntry with
  | some e => .next (((s.enterPhase .stopped).runsDrawn (s.bitsToDifference e)).countAttempt e)
  | none => .next s

/-- The bits read up to an arbitration loss, R149: those sent up to a recessive bit of priority or source, and a dominant
bit for that one. Which of them it is, is a free value (log 9). -/
def State.bitsToLoss (f : Frame) (s : State) : List Bool :=
  let sent := f.arbitrationBits
  let recessive := (List.range sent.length).filter (fun k => sent.getD k false)
  sent.take (recessive.getD (Config.freeRun s.chance % recessive.length) 0) ++ [false]

/-- ARBITRATION_LOST, R149: no attempt counts, and the DL416 receives the winner's frame; an entry kept through Clear
Directory leaves the queue (R153). -/
def execArbitrationLost (s : State) : Host.Outcome State Fault Refusal :=
  match s.sendingEntry with
  | some e =>
    let t := (s.enterPhase .receiving).runsDrawn (s.bitsToLoss e.frame)
    .next (if e.lastTry then t.leaveQueue e false else t.keepEntry e.used)
  | none => .next s

/-- The entry sent next: the lowest priority value, and the oldest of that priority, R150. -/
def firstByPriority : List TxEntry → Option TxEntry
  | [] => none
  | e :: es =>
    match firstByPriority es with
    | some f => if f.frame.priority.toNat < e.frame.priority.toNat then some f else some e
    | none => some e

/-- Mark the first entry of the priority as in transmission. -/
def markSending (priority : BitVec 2) : List TxEntry → List TxEntry
  | [] => []
  | e :: es => if e.frame.priority = priority then { e with sending := true } :: es else e :: markSending priority es

/-- TRANSMIT_BEGIN, R149 and R150. -/
def execTransmitBegin (s : State) : Host.Outcome State Fault Refusal :=
  match firstByPriority s.queue.entries with
  | some e =>
    if s.mayBegin then
      let t := s.enterPhase .transmitting
      .next ((t.setLine { t.line with recessiveRun := 0, dominantRun := 1 }).setQueue
        { s.queue with entries := markSending e.frame.priority s.queue.entries })
    else .next s
  | none => .next s

/-- WAITING_CLAIM_GRANTED, R150: a claim that waits takes an entry that is free (log 6). -/
def execWaitingClaimGranted (s : State) : Host.Outcome State Fault Refusal := .next s.grantWaiting

/-! ## The line state, R143 and R144 -/

/-- A change of line state raises LINE; both runs start again at this bit time, and are kept only in SETTLING and ONLINE
(R144); the bits that follow are counted by State.countBits (log 28). -/
def State.changeLine (new : LineState) (s : State) : State :=
  let t := s.setLine { s.line with state := new, recessiveRun := 0, dominantRun := 0 }
  if s.line.state = new then t else t.raise .line

/-- What becoming ONLINE starts for the census: a pending autostart (R119), or a CENSUS frame of a census under way
(R121). -/
def State.censusOnline (s : State) : State :=
  if s.census.autostart then (s.setCensus { s.census with autostart := false }).beginCensus
  else if s.census.mode = .census then s.queueCensus else s

/-- LINE_ONLINE, R144: in SETTLING the recessive run reaches 24. -/
def execLineOnline (s : State) : Host.Outcome State Fault Refusal :=
  if s.line.state = .settling then
    let t := (s.changeLine .online).enterPhase .idle
    .next ((t.setLine { t.line with recessiveRun := Config.settleBits }).beginEpoch.censusOnline)
  else .next s

/-- A frame of the DL416 in transmission is cut off by FAULT and counts one attempt, R152. -/
def State.cutOff (s : State) : State :=
  match s.sendingEntry with
  | some e => s.countAttempt e
  | none => s

/-- LINE_FAULT, R144: in SETTLING or ONLINE the dominant run reaches 48. From SETTLING too the entry into FAULT is taken as
a change of phase, so that a rewritten Park is in force from it (log 13). An expiry of which a part is taken is taken in
full before (R39). -/
def execLineFault (s : State) : Host.Outcome State Fault Refusal :=
  if s.line.state = .settling ∨ s.line.state = .online then
    .next (((s.finishExpiry.cutOff.changeLine .fault).enterPhase .idle).freezeClock)
  else .next s

/-- FAULT_RECOVERY, R144: in FAULT the line reads recessive. -/
def execFaultRecovery (s : State) : Host.Outcome State Fault Refusal :=
  if s.line.state = .fault then .next ((s.changeLine .settling).enterPhase .idle) else .next s

/-! ## Line Enable, Line Disable and Set Bit Rate, R145 -/

/-- Line Enable, R145. -/
def State.lineEnable (s : State) : State :=
  if s.line.state = .disabled then ((s.changeLine .settling).enterPhase .idle).finish .ok else s.finish .ok

/-- LINE_ENABLE, code 50h. -/
def execLineEnable (s : State) : Host.Outcome State Fault Refusal := .next (s.takeCommand 0x50 State.lineEnable)

/-- The Transmit Queue is purged whole, R153. No originator acts on the reports: the probe context is discarded in the
same operation and no command is BUSY. -/
def State.purgeAll (s : State) : State := s.setQueue { s.queue with entries := [], setAside := 0 }

/-- The line is off: state DISABLED, termination OPEN, R145. -/
def State.lineOff (s : State) : State :=
  let t := s.changeLine .disabled
  t.setLine { t.line with phase := .idle, termination := .openCircuit }

/-- Line Disable, R145. An expiry of which a part is taken is taken in full before (R39). -/
def State.lineDisable (s : State) : State := s.finishExpiry.purgeAll.discardContext.lineOff.freezeClock.finish .ok

/-- LINE_DISABLE, code 51h. -/
def execLineDisable (s : State) : Host.Outcome State Fault Refusal := .next (s.takeCommand 0x51 State.lineDisable)

/-- Set Bit Rate, R145. The range is checked before the line state, the model's choice (log 25): R145 gives both refusals
and no order. -/
def State.setBitRate (s : State) : State :=
  if 3 < s.p 0 then s.finish .badValue
  else if s.line.state ≠ .disabled then s.finish .wrongState
  else (s.setLine { s.line with bitRate := s.p 0 }).finish .ok

/-- SET_BIT_RATE, code 52h. -/
def execSetBitRate (s : State) : Host.Outcome State Fault Refusal := .next (s.takeCommand 0x52 State.setBitRate)

end Sys2Proof.Machine
end

