-- ==== Sys2Proof/Machine/HostDirectory.lean ====
section
/-! DEFINITION. The host commands that change the directory: Reserve, Load Reservations, Release Reservation (R164),
Evict (R165), Pin and Unpin (R12), Award (R112 to R115), Clear Directory (R168). -/

namespace Sys2Proof.Machine

/-- A Reserve's checks in their order, R164: the outcome that refuses it, or none. -/
def State.reserveCheck (e : ReservationEntry) (s : State) : Option OutcomeCode :=
  if !(leasable e.address && validIdentity e.identity && decide (e.pin ≤ 1)) then some .badValue
  else if s.statusOf e.address = .held then some .addressHeld
  else if (s.recordOf e.identity).isSome then some .identityHeld
  else if Config.maxRecords ≤ s.directory.records.length then some .full
  else none

/-- The RESERVED record of a Reserve, R6. -/
def reservedRecord (e : ReservationEntry) : Record :=
  { address := e.address, identity := e.identity, state := .reserved, pinned := e.pin == 1, term := 0, granted := none,
    quiet := 0, attempts := 0, rival := none, offer := none, hold := none }

/-- One reservation, checked and acted on, with its outcome, R164. -/
def State.reserveOne (e : ReservationEntry) (s : State) : State × OutcomeCode :=
  match s.reserveCheck e with
  | some o => (s, o)
  | none => ((s.takeAddress e.address).createRecord (reservedRecord e), .ok)

/-- Reserve, R164 and R175. -/
def State.reserve (s : State) : State :=
  let t := s.reserveOne { address := s.p 0, identity := s.pIdentity, pin := s.p 7 }
  t.1.finish t.2

/-- RESERVE, code 10h. -/
def execReserve (s : State) : Host.Outcome State Fault Refusal := .next (s.takeCommand 0x10 State.reserve)

/-- Reservation entries taken in order, each against what those before it left, R164. -/
def State.reserveAll : List ReservationEntry → State → State × List OutcomeCode
  | [], s => (s, [])
  | e :: es, s =>
    let t := s.reserveOne e
    let u := t.1.reserveAll es
    (u.1, t.2 :: u.2)

/-- The buffer with each outcome written back into its entry in place of the pin setting, R164. -/
def writeOutcomes (buffer : List Byte) (n : Nat) : List OutcomeCode → List Byte
  | [] => buffer
  | o :: os => writeOutcomes (buffer.set (8 * n + 7) (byteOf o.code)) (n + 1) os

/-- Load Reservations, R164; its results are in the buffer too, so the pointer goes to 0 (R158, log 15). -/
def State.loadReservations (s : State) : State :=
  let count := s.p 0
  if 1 ≤ count ∧ count ≤ 32 then
    let t := s.reserveAll ((List.range count).map (reservationAt s.port.buffer))
    let done := (t.2.filter (fun o => o == .ok)).length
    let u := t.1.setPort { t.1.port with buffer := writeOutcomes s.port.buffer 0 t.2, pointer := 0 }
    (u.setResults [byteOf done, byteOf (count - done)]).complete .ok true
  else s.finish .badValue

/-- LOAD_RESERVATIONS, code 11h. -/
def execLoadReservations (s : State) : Host.Outcome State Fault Refusal :=
  .next (s.takeCommand 0x11 State.loadReservations)

/-- A command that names an address in P0, section 11.3: BAD_VALUE outside 1 to 239, NOT_FOUND with no record. -/
def State.withRecord (body : Record → State → State) (s : State) : State :=
  if leasable (s.p 0) then
    match s.recordAt (s.p 0) with
    | some r => body r s
    | none => s.finish .notFound
  else s.finish .badValue

/-- Release Reservation, R164. -/
def State.releaseRecord (r : Record) (s : State) : State :=
  if r.state = .reserved then (s.endRecord .freeTail r).finish .ok else s.finish .wrongState

/-- RELEASE_RESERVATION, code 12h. -/
def execReleaseReservation (s : State) : Host.Outcome State Fault Refusal :=
  .next (s.takeCommand 0x12 (State.withRecord State.releaseRecord))

/-- Evict by the record's state, R165. -/
def State.evictRecord (r : Record) (s : State) : State :=
  match r.state with
  | .reserved => s.finish .wrongState
  | .offered =>
    match r.offer with
    | some { origin := .rebind, .. } => (s.retire r).commandRevoke (targetedRevoke r.address r.identity)
    | _ => (s.endRecord .freeHead r).finish .ok
  | .bound | .lapsed => (s.retire r).commandRevoke (targetedRevoke r.address r.identity)
  | .disputed => (s.retire r).commandRevoke (untargetedRevoke r.address)

/-- EVICT, code 21h. -/
def execEvict (s : State) : Host.Outcome State Fault Refusal :=
  .next (s.takeCommand 0x21 (State.withRecord State.evictRecord))

/-- Pin, R12: a LAPSED record becomes BOUND with its term unchanged (R8) and quiet count 0 (R46). -/
def State.pinRecord (r : Record) (s : State) : State :=
  if r.state = .offered then s.finish .wrongState
  else if r.pinned then s.finish .ok
  else if r.state = .lapsed then (s.bindRecord { r with pinned := true, quiet := 0 }).finish .ok
  else ((s.putRecord { r with pinned := true }).note .altered r.address).finish .ok

/-- PIN, code 22h. -/
def execPin (s : State) : Host.Outcome State Fault Refusal :=
  .next (s.takeCommand 0x22 (State.withRecord State.pinRecord))

/-- Unpin, R12. -/
def State.unpinRecord (r : Record) (s : State) : State :=
  if r.state = .offered then s.finish .wrongState
  else if r.pinned then ((s.putRecord { r with pinned := false }).note .altered r.address).finish .ok
  else s.finish .ok

/-- UNPIN, code 23h. -/
def execUnpin (s : State) : Host.Outcome State Fault Refusal :=
  .next (s.takeCommand 0x23 (State.withRecord State.unpinRecord))

/-- Award to the recorded identity, R113. -/
def State.awardRecorded (r : Record) (s : State) : State :=
  let t := s.bindRecord { s.refreshed r with quiet := 0 }
  match r.rival with
  | some i => t.commandRevoke (targetedRevoke r.address i)
  | none => t.finish .ok

/-- Award to the rival, R114: one alteration covers it all. -/
def State.awardRival (r : Record) (i : Identity) (s : State) : State :=
  let term := s.grantTerm 0
  ((s.strike r.address).bindRecord
    { r with identity := i, pinned := false, term := term, granted := some term, quiet := 0 }).commandRevoke
      (targetedRevoke r.address r.identity)

/-- Award's checks in their order, R112. -/
def State.award (s : State) : State :=
  if !leasable (s.p 0) || decide (1 < s.p 1) then s.finish .badValue
  else match s.recordAt (s.p 0) with
    | none => s.finish .notFound
    | some r =>
      if r.state ≠ .disputed then s.finish .wrongState
      else if s.p 1 = 0 then s.awardRecorded r
      else match r.rival with
        | none => s.finish .badValue
        | some i =>
          if (s.recordOf i).any (fun q => q.address != r.address) then s.finish .identityHeld
          else s.awardRival r i

/-- AWARD, code 24h. -/
def execAward (s : State) : Host.Outcome State Fault Refusal := .next (s.takeCommand 0x24 State.award)

/-- The Transmit Queue purged but for a frame in transmission, which is not tried again, R153; the Prober ignores its
reports (R100). -/
def State.purgeWaiting (s : State) : State :=
  let keep := fun (e : TxEntry) => ({ detachProbe e with lastTry := true } : TxEntry)
  s.setQueue { s.queue with entries := (s.queue.entries.filter (fun e => e.sending)).map keep, setAside := 0 }

/-- Clear Directory, R168, R23, R37, R105, R131, R140. -/
def State.clearDirectory (s : State) : State :=
  let t := { s with directory := Directory.reset, pool := Pool.reset, prober := { context := none, sweep := none },
                    census := { s.census with mode := .serving, window := 0 },
                    groups := s.groups.map (fun (g : Group) => { g with members := [] }) }
  t.purgeWaiting.finish .ok

/-- CLEAR_DIRECTORY, code 20h. -/
def execClearDirectory (s : State) : Host.Outcome State Fault Refusal :=
  .next (s.takeCommand 0x20 State.clearDirectory)

end Sys2Proof.Machine
end

