-- ==== Sys2Proof/Machine/HostReads.lean ====
section
/-! DEFINITION. Parameters (R162, R176) and the host's reads: Read Summary (R163), Read Record and Read Directory (R166),
Collect Changes (R167), Read Free List (R35), Read Quarantine (R36). -/

namespace Sys2Proof.Machine

/-- A value in a range. -/
def inRange (lo hi v : Nat) : Option Nat := if lo ≤ v ∧ v ≤ hi then some v else none

/-- OFF or ON from its code. -/
def switchOf : Nat → Option Bool
  | 0 => some false
  | 1 => some true
  | _ => none

/-- The parameters with one of 01h to 11h set, or none when the identifier or the value is refused, R176. -/
def Params.set (q : Params) (id v : Nat) : Option Params :=
  match id with
  | 0x01 => (inRange 1 255 v).map (fun n => { q with epochPeriod := n })
  | 0x02 => (inRange 1 65535 v).map (fun n => { q with maximumTerm := n })
  | 0x03 => (inRange 1 65535 v).map (fun n => { q with defaultTerm := n })
  | 0x04 => (inRange 0 255 v).map (fun n => { q with quarantineHold := n })
  | 0x05 => (inRange 1 255 v).map (fun n => { q with offerWait := n })
  | 0x06 => (inRange 1 255 v).map (fun n => { q with probeWait := n })
  | 0x07 => (inRange 1 7 v).map (fun n => { q with probeAttempts := n })
  | 0x08 => (inRange 1 8 v).map (fun n => { q with sendAttempts := n })
  | 0x09 => (inRange 1 255 v).map (fun n => { q with censusWindow := n })
  | 0x0A => (policyOf v).map (fun c => { q with disputePolicy := c })
  | 0x0B => (inRange 0 255 v).map (fun n => { q with disputeHold := n })
  | 0x0C => (switchOf v).map (fun c => { q with passiveRenewal := c })
  | 0x0D => (gateOf v).map (fun c => { q with joinGate := c })
  | 0x0E => (terminationOf v).map (fun c => { q with park := c })
  | 0x0F => (terminationOf v).map (fun c => { q with pass := c })
  | 0x10 => (terminationOf v).map (fun c => { q with receive := c })
  | 0x11 => (terminationOf v).map (fun c => { q with drive := c })
  | _ => none

/-- Set Parameter, R162: P0 the identifier, P1 and P2 the value; 12h writes the attention enables. -/
def State.setParameter (s : State) : State :=
  let v := 256 * s.p 1 + s.p 2
  if s.p 0 = 0x12 then
    if v ≤ 0x7F then (s.setPort { s.port with enables := byteOf v }).finish .ok else s.finish .badValue
  else match s.params.set (s.p 0) v with
    | some q => (s.setParams q).finish .ok
    | none => s.finish .badValue

/-- SET_PARAMETER, code 01h. -/
def execSetParameter (s : State) : Host.Outcome State Fault Refusal := .next (s.takeCommand 0x01 State.setParameter)

/-- The parameters 01h to 11h in identifier order, R176. -/
def Params.values (q : Params) : List Nat :=
  [q.epochPeriod, q.maximumTerm, q.defaultTerm, q.quarantineHold, q.offerWait, q.probeWait, q.probeAttempts,
   q.sendAttempts, q.censusWindow, q.disputePolicy.code, q.disputeHold, if q.passiveRenewal then 1 else 0,
   q.joinGate.code, q.park.code, q.pass.code, q.receive.code, q.drive.code]

/-- Read Parameters, R162 and R175. -/
def State.readParameters (s : State) : State :=
  ((s.setBuffer ((s.params.values ++ [s.port.enables.toNat]).flatMap bytesOfHalf) Config.bufferSize).setResults
    [18]).complete .ok true

/-- READ_PARAMETERS, code 02h. -/
def execReadParameters (s : State) : Host.Outcome State Fault Refusal :=
  .next (s.takeCommand 0x02 State.readParameters)

/-- The cursor and pass counter bytes of the summary; with no sweep context they are free values (log 10). -/
def State.summarySweep (s : State) : List Byte :=
  match s.prober.sweep with
  | some w => byteOf (if w.scanning then 1 else 2) :: byteOf w.cursor :: bytesOfHalf w.passes
  | none => 0 :: Config.freeSweepCursor s.chance :: bytesOfHalf (Config.freePassCounter s.chance).toNat

/-- The probe bytes of the summary. -/
def State.summaryProbe (s : State) : List Byte :=
  match s.prober.context with
  | some c => [match c.kind with
      | .lapse => 1
      | .sweep => 2, byteOf c.target]
  | none => [0, 0]

/-- The 23 bytes of Read Summary, section 12.5. -/
def State.summary (s : State) : List Byte :=
  [byteOf (s.countIn .reserved), byteOf (s.countIn .offered), byteOf (s.countIn .bound), byteOf (s.countIn .lapsed),
   byteOf (s.countIn .disputed), byteOf s.directory.records.length, byteOf s.pool.free.length,
   byteOf s.pool.quarantine.length, byteOf s.directory.marks.length] ++ bytesOfHalf s.freeEntries
  ++ [byteOf s.line.state.code, byteOf s.line.bitRate, byteOf s.line.termination.code, byteOf s.census.mode.code,
      byteOf s.census.window]
  ++ s.summarySweep ++ s.summaryProbe ++ [if s.line.foreign then 1 else 0]

/-- Read Summary, R163. Each summary draws its own free values. -/
def State.readSummary (s : State) : State :=
  State.complete .ok true { s.setBuffer s.summary Config.bufferSize with chance := s.chance + 1 }

/-- READ_SUMMARY, code 03h. -/
def execReadSummary (s : State) : Host.Outcome State Fault Refusal := .next (s.takeCommand 0x03 State.readSummary)

/-- The record view is written and the command completes, R166. -/
def State.showRecord (r : Record) (s : State) : State :=
  ((s.setBuffer (s.recordView r) 24).setResults [byteOf r.address]).complete .ok true

/-- Read Record, R166: selector 0 by address, 1 by identity. -/
def State.readRecord (s : State) : State :=
  let found := if s.p 0 = 0 then s.recordAt (s.p 1) else s.recordOf s.pIdentity
  if 1 < s.p 0 || (s.p 0 == 0 && !leasable (s.p 1)) || (s.p 0 == 1 && !validIdentity s.pIdentity) then s.finish .badValue
  else match found with
    | some r => s.showRecord r
    | none => s.finish .notFound

/-- READ_RECORD, code 60h. -/
def execReadRecord (s : State) : Host.Outcome State Fault Refusal := .next (s.takeCommand 0x60 State.readRecord)

/-- The continuation address of Read Directory, R166: one above the last view written when a further record stands above
it, else 0. -/
def continuation (written rest : List Record) : Nat :=
  match written.getLast?, rest with
  | some r, _ :: _ => r.address + 1
  | _, _ => 0

/-- Read Directory, R166. -/
def State.readDirectory (s : State) : State :=
  if leasable (s.p 0) && decide (1 ≤ s.p 1) && decide (s.p 1 ≤ 10) then
    let above := s.directory.records.filter (fun r => s.p 0 ≤ r.address)
    let written := above.take (s.p 1)
    ((s.setBuffer (written.flatMap s.recordView) 240).setResults
      [byteOf written.length, byteOf (continuation written (above.drop (s.p 1)))]).complete .ok true
  else s.finish .badValue

/-- READ_DIRECTORY, code 61h. -/
def execReadDirectory (s : State) : Host.Outcome State Fault Refusal :=
  .next (s.takeCommand 0x61 State.readDirectory)

/-- The identity of a change entry: the record's now at the address, zeros for REMOVED, R167. -/
def State.changeIdentity (s : State) (p : Nat × Mark) : Identity :=
  if p.2 = .removed then 0 else ((s.recordAt p.1).map (fun r => r.identity)).getD 0

/-- Collect Changes, R167 and R20: the first 32 marks, in address order, are written and set CLEAN. -/
def State.collectChanges (s : State) : State :=
  let snapshot := s.directory.marks.take Config.snapshotSize
  let rest := s.directory.marks.drop Config.snapshotSize
  let t := s.setDirectory { s.directory with marks := rest }
  ((t.setBuffer (snapshot.flatMap (fun p => changeEntry p.1 (s.changeIdentity p) p.2)) Config.bufferSize).setResults
    [byteOf snapshot.length, if rest.isEmpty then 0 else 1]).complete .ok true

/-- COLLECT_CHANGES, code 62h. -/
def execCollectChanges (s : State) : Host.Outcome State Fault Refusal :=
  .next (s.takeCommand 0x62 State.collectChanges)

/-- Read Free List, R35. -/
def State.readFreeList (s : State) : State :=
  ((s.setBuffer (s.pool.free.map byteOf) Config.bufferSize).setResults [byteOf s.pool.free.length]).complete .ok true

/-- READ_FREE_LIST, code 63h. -/
def execReadFreeList (s : State) : Host.Outcome State Fault Refusal := .next (s.takeCommand 0x63 State.readFreeList)

/-- Read Quarantine, R36. -/
def State.readQuarantine (s : State) : State :=
  let written := (s.pool.quarantine.drop (s.p 0)).take Config.quarantineRead
  ((s.setBuffer (written.flatMap quarantineBytes) Config.bufferSize).setResults
    [byteOf written.length, byteOf s.pool.quarantine.length]).complete .ok true

/-- READ_QUARANTINE, code 64h. -/
def execReadQuarantine (s : State) : Host.Outcome State Fault Refusal :=
  .next (s.takeCommand 0x64 State.readQuarantine)

end Sys2Proof.Machine
end

