-- ==== Sys2Proof/Machine/ControlPort.lean ====
section
/-! DEFINITION. The Control Port (spec/11): Acknowledge Attention, Port Restart, a code written whatever it names, and the
window's transactions. -/

namespace Sys2Proof.Machine

/-- Acknowledge Attention, R170: it completes with OK and raises no DONE. -/
def State.acknowledgeNamed (s : State) : State :=
  let t := s.acknowledge (byteOf (s.p 0))
  t.setPort { t.port with outcome := .ok, error := false, state := .ready }

/-- ACKNOWLEDGE_ATTENTION, code 04h. -/
def execAcknowledgeAttention (s : State) : Host.Outcome State Fault Refusal :=
  .next (s.takeCommand 0x04 State.acknowledgeNamed)

/-- Port Restart, R171, taken in every port state: a command in progress ends ABORTED, its waiting claim is withdrawn and
the reports of its queued REVOKE are ignored. -/
def State.restartPort (s : State) : State :=
  let busy := s.port.state = .busy
  (s.setPort { s.port with code := 0xFF, outcome := if busy then .aborted else .ok, error := busy, collide := false,
                           state := .ready, pointer := 0, latched := 0 }).setQueue
    { s.queue with entries := s.queue.entries.map detachCommand, waiting := none }

/-- PORT_RESTART, code FFh. -/
def execPortRestart (s : State) : Host.Outcome State Fault Refusal := .next s.restartPort

/-- What a command code does once it is taken, section 11.3; a code that names no command completes with BAD_COMMAND,
R160. -/
def commandBody (code : Nat) : State → State :=
  match code with
  | 0x01 => State.setParameter
  | 0x02 => State.readParameters
  | 0x03 => State.readSummary
  | 0x04 => State.acknowledgeNamed
  | 0x10 => State.reserve
  | 0x11 => State.loadReservations
  | 0x12 => State.withRecord State.releaseRecord
  | 0x20 => State.clearDirectory
  | 0x21 => State.withRecord State.evictRecord
  | 0x22 => State.withRecord State.pinRecord
  | 0x23 => State.withRecord State.unpinRecord
  | 0x24 => State.award
  | 0x30 => State.startCensus
  | 0x31 => State.endCensus
  | 0x32 => State.startSweep
  | 0x33 => State.stopSweep
  | 0x40 => State.groupAssign
  | 0x41 => State.groupRemove
  | 0x42 => State.readGroup
  | 0x43 => State.setGroupMode
  | 0x44 => State.clearGroup
  | 0x50 => State.lineEnable
  | 0x51 => State.lineDisable
  | 0x52 => State.setBitRate
  | 0x60 => State.readRecord
  | 0x61 => State.readDirectory
  | 0x62 => State.collectChanges
  | 0x63 => State.readFreeList
  | 0x64 => State.readQuarantine
  | _ => State.finish .badCommand

/-- A write to the command code offset, R159: Port Restart in every state, COLLIDE in BUSY, the command otherwise. -/
def State.writeCode (code : Byte) (s : State) : State :=
  if code = 0xFF then s.restartPort else s.takeCommand code (commandBody code.toNat)

/-- BAD_COMMAND, R160. A code that does name a command is taken as that command (log 11). -/
def execBadCommand (code : Byte) (s : State) : Host.Outcome State Fault Refusal := .next (s.writeCode code)

/-- COMMAND_WRITE_WHILE_BUSY, R159. Outside BUSY the write is taken as the command it names (log 11). -/
def execCommandWriteWhileBusy (code : Byte) (s : State) : Host.Outcome State Fault Refusal := .next (s.writeCode code)

/-! ## The window, R157, R158 and R174 -/

/-- A write of the attention enables: bit 7 is ignored, R169 and R174. -/
def State.writeEnables (data : Byte) (s : State) : State :=
  s.setPort { s.port with enables := data &&& enablesMask }

/-- ATTENTION_ENABLES_WRITE, R169. -/
def execAttentionEnablesWrite (data : Byte) (s : State) : Host.Outcome State Fault Refusal := .next (s.writeEnables data)

/-- One data byte read at the buffer data offset, R158: the byte at the pointer, which advances from 255 to 0; in BUSY
00h, and no advance. -/
def State.readBufferByte (s : State) : State :=
  s.setPort { s.port with dataOut := s.bufferByte,
                          pointer := if s.port.state = .busy then s.port.pointer else s.port.pointer + 1 }

/-- BUFFER_DATA_READ, R158. -/
def execBufferDataRead (s : State) : Host.Outcome State Fault Refusal := .next s.readBufferByte

/-- One data byte written at the buffer data offset, R158; ignored in BUSY. -/
def State.writeBufferByte (data : Byte) (s : State) : State :=
  if s.port.state = .busy then s
  else s.setPort { s.port with buffer := s.port.buffer.set s.port.pointer.toNat data, pointer := s.port.pointer + 1 }

/-- BUFFER_DATA_WRITE, R158. -/
def execBufferDataWrite (data : Byte) (s : State) : Host.Outcome State Fault Refusal := .next (s.writeBufferByte data)

/-- A write of the buffer pointer, taken in READY and RESULT, R157. -/
def State.writePointer (data : Byte) (s : State) : State :=
  if s.port.state = .busy then s else s.setPort { s.port with pointer := data }

/-- A write of one parameter byte, taken in every port state, R157. -/
def State.writeParameter (n : Nat) (data : Byte) (s : State) : State :=
  s.setPort { s.port with parameters := s.port.parameters.set n data }

/-- A write transaction, R157 and R174: at the buffer data offset every data byte is one access; elsewhere the first
acts and the rest are ignored; read-only and unlisted offsets ignore it. -/
def State.windowWrite (offset : Nat) (data : List Byte) (s : State) : State :=
  match data with
  | [] => s
  | d :: _ =>
    if offset < 8 then s.writeParameter offset d
    else if offset = 0x08 then s.writeCode d
    else if offset = 0x0C then s.writeEnables d
    else if offset = 0x0D then s.writePointer d
    else if offset = 0x0E then data.foldl (fun t b => t.writeBufferByte b) s
    else s

/-- One data byte of a read transaction, R157 and R174: the byte at the offset is returned. -/
def State.readWindowByte (offset : Nat) (s : State) : State :=
  if offset = 0x0E then s.readBufferByte else s.setPort { s.port with dataOut := s.windowRead offset }

/-- A transaction, R157 and R174: its header says whether it writes and at which offset, and its completed data bytes act
one after another. -/
def State.transaction (header : Byte) (data : List Byte) (s : State) : State :=
  if headerWrites header then s.windowWrite (headerOffset header) data
  else data.foldl (fun t _ => t.readWindowByte (headerOffset header)) s

/-- REGISTER_WRITE, R157 and R174. A header that reads is taken as that read (log 27). -/
def execRegisterWrite (header : Byte) (data : List Byte) (s : State) : Host.Outcome State Fault Refusal :=
  .next (s.transaction header data)

end Sys2Proof.Machine
end

