-- ==== Sys2Proof/Machine/PartReset.lean ====
section
/-! DEFINITION. Part reset (R146, and the reset tables of every chapter). -/

namespace Sys2Proof.Machine

/-- The rate value the two bit-rate straps select, R146. -/
def strapRate (first second : Bool) : Nat := (if first then 2 else 0) + (if second then 1 else 0)

/-- The Line Interface after part reset, R143, R146 and R156: SETTLING with AUTOSTART high, and Park on the termination
when SEGMENT_END is high too. -/
def Line.afterReset (rate : Nat) (autostart segmentEnd : Bool) : Line :=
  { State.reset.line with
    state := if autostart then .settling else .disabled, bitRate := rate, segmentEnd := segmentEnd,
    termination := if autostart && segmentEnd then Params.reset.park else .openCircuit }

/-- PART_RESET, R146: every block takes its part-reset values and the straps are read. No attention cause is pending
afterwards (R172, log 2). The commands waiting are the environment's and stay. -/
def execPartReset (rateFirst rateSecond autostart segmentEnd : Bool) (s : State) : Host.Outcome State Fault Refusal :=
  .next { State.reset with
    line := Line.afterReset (strapRate rateFirst rateSecond) autostart segmentEnd,
    census := { State.reset.census with autostart := autostart },
    chance := s.chance,
    pending := s.pending }

end Sys2Proof.Machine
end

