-- ==== Sys2Proof/Machine/Reception.lean ====
section
/-! DEFINITION. Reception (R147), heard events (R47 to R49), strays (R80, R81), admission (R148), the handing over of
requests, and the commands that are frames on the line. -/

namespace Sys2Proof.Machine

/-! ## Heard events and strays -/

/-- Stray handling, R80 and R81. -/
def State.handleStray (a : Nat) (s : State) : State :=
  if s.census.mode = .census || s.directory.pacing.contains a || !s.claimGranted then s
  else
    let t := s.enqueue .directory .stray (untargetedRevoke a)
    t.setDirectory { t.directory with pacing := t.directory.pacing ++ [a] }

/-- A heard event from a leasable source by the record there, R47; passive renewal acts on it unless the frame carries
an identity to FEh (R48). -/
def State.heardFrom (a : Nat) (limited : Bool) (s : State) : State :=
  match s.recordAt a with
  | none => s.handleStray a
  | some r =>
    let renews := s.params.passiveRenewal && !limited
    match r.state with
    | .reserved => s.handleStray a
    | .offered => s
    | .disputed => s.putRecord { r with quiet := 0 }
    | .bound => s.putRecord (if renews then { s.refreshed r with quiet := 0 } else { r with quiet := 0 })
    | .lapsed =>
      if renews then s.bindRecord { s.refreshed r with quiet := 0 } else s.putRecord { r with quiet := 0 }

/-- A frame to FEh whose kind carries an identity, R48. -/
def limitedHeard (f : Frame) : Bool :=
  f.destination.toNat == Config.directoryAddress && (requestKindOf f.kind).any RequestKind.carriesIdentity

/-- The heard event of a valid frame: none from a source outside 1 to 239, R47. -/
def State.heard (f : Frame) (s : State) : State :=
  if leasable f.source.toNat then s.heardFrom f.source.toNat (limitedHeard f) else s

/-! ## Admission, R148 -/

/-- Reply room: fewer than 6 REPLY entries and fewer than 8 entries, set-aside places counted. -/
def State.replyRoom (s : State) : Bool :=
  replyCount s.queue.entries + s.queue.setAside < Config.replyEntries && s.hasFreeEntry

/-- The request an admitted frame makes, or none. -/
def State.admission (f : Frame) (s : State) : Option RequestKind :=
  if f.destination.toNat = Config.directoryAddress then
    match requestKindOf f.kind with
    | some k =>
      if f.lengthFits k && f.sourceFits k && f.identityFits k && (!k.needsReply || s.replyRoom) then some k else none
    | none => none
  else none

/-- An admitted request reaches its owner, R148. -/
def State.handOver (k : RequestKind) (f : Frame) (s : State) : State :=
  let a := f.source.toNat
  match k with
  | .join => s.takeJoin f.identity f.payloadByte f.joinTerm
  | .accept => s.takeAccept a f.payloadIdentity
  | .renew => s.takeRenew a f.payloadIdentity f.payloadTerm
  | .leave => s.takeLeave a f.payloadIdentity
  | .claim => s.takeClaim a f.payloadIdentity f.payloadTerm f.claimGroups
  | .probeReply => s.takeProbeReply a f.payloadIdentity
  | .clashReport => s.takeClashReport a f.payloadIdentity
  | .groupJoin => s.takeGroupJoin a f.payloadByte
  | .groupLeave => s.takeGroupLeave a f.payloadByte
  | .groupExpand => s.takeGroupExpand a f.payloadByte
  | .resolveIdentity => s.takeResolveIdentity a f.payloadIdentity
  | .resolveAddress => s.takeResolveAddress a f.payloadByte

/-! ## Reception, R147 -/

/-- A frame can be received: ONLINE, not transmitting, and not waiting for the line to be idle after an early end. -/
def State.canReceive (s : State) : Bool :=
  s.line.state == .online && s.line.phase != .transmitting && s.line.phase != .stopped

/-- The acknowledge slot is driven dominant for an admitted frame and for no other, R148. -/
def State.setAcknowledged (b : Bool) (s : State) : State := s.setLine { s.line with acknowledged := b }

/-- The phases a whole frame passes through: its destination read, then its end, R155. -/
def State.passFrame (f : Frame) (s : State) : State :=
  (s.readDestination f.destination.toNat).enterPhase .afterFrame

/-- The runs at the end mark of a whole frame received with the check given, R144. Its slot is dominant when the DL416 drives it; otherwise another
station may drive it or none, a free value (log 9). -/
def State.endFrame (f : Frame) (check : Half) (s : State) : State :=
  if s.line.acknowledged then s.runsOf (f.wholeBits check false)
  else s.runsDrawn (f.wholeBits check (Config.freeLevel s.chance))

/-- Reception ends early, and nothing is received until the line is idle, R147. A frame whose start mark was not yet seen
begins here. The operand does not tell the destination: where no DESTINATION_FIELD_READ came before, the frame stays in
the phase before its destination is read and keeps Pass, for a bad length too (the model's choice, log 26). -/
def State.stopReception (s : State) : State :=
  let t := if s.mayBegin then s.enterPhase .receiving else s
  (t.enterPhase .stopped).setAcknowledged false

/-- Reception of a frame that the operand tells whole ends at its length field, more than 24, R147: its destination was
read before (R155), and its bits up to the length give the runs (R144). -/
def State.stopAtLength (f : Frame) (s : State) : State :=
  (((s.readDestination f.destination.toNat).enterPhase .stopped).runsOf f.cutBits).setAcknowledged false

/-- A foreign directory frame, R154. -/
def State.noticeForeign (s : State) : State := (s.setLine { s.line with foreign := true }).raise .line

/-- The steps of R147 at the end of a valid frame's check. Admission, with its set-aside place, is decided before the
heard event claims an entry, and the heard event is taken before the request. -/
def State.takeFrame (f : Frame) (s : State) : State :=
  if f.source.toNat = Config.directoryAddress then s.noticeForeign.setAcknowledged false
  else
    match s.admission f with
    | none => (s.heard f).setAcknowledged false
    | some k =>
      let t := if k.needsReply then s.setQueue { s.queue with setAside := s.queue.setAside + 1 } else s
      ((t.heard f).handOver k f).setAcknowledged true

/-- A frame with a correct check is received to the end of its check; more than 24 payload bytes are a bad length. -/
def State.receiveFrame (f : Frame) (s : State) : State :=
  if !s.canReceive then s
  else if Config.maxPayload < f.payload.length then s.stopAtLength f
  else ((s.passFrame f).takeFrame f).endFrame f f.check

/-- FRAME_HEARD, R147. A frame that admission takes as a request is taken as one (log 12). -/
def execFrameHeard (frame : Frame) (s : State) : Host.Outcome State Fault Refusal := .next (s.receiveFrame frame)

/-- An invalid reception, R147: a stuff error or a bad length ends it early, a failed check discards the frame at its
end. A length of at most 24, or a check that is correct, is no invalid reception. -/
def State.receiveInvalid (cause : InvalidReception) (s : State) : State :=
  if !s.canReceive then s
  else match cause with
    | .stuffError level =>
      let t := s.stopReception
      t.setLine { t.line with recessiveRun := if level then Config.stuffAfter + 1 else 0,
                              dominantRun := if level then 0 else Config.stuffAfter + 1 }
    | .badLength n => if Config.maxPayload < n.toNat then s.stopReception.feedField (bitsOf n) else s
    | .badCheck f check =>
      if check = f.check then s.receiveFrame f
      else if Config.maxPayload < f.payload.length then s.stopAtLength f
      else ((s.passFrame f).setAcknowledged false).endFrame f check

/-- FRAME_INVALID, R147. -/
def execFrameInvalid (cause : InvalidReception) (s : State) : Host.Outcome State Fault Refusal :=
  .next (s.receiveInvalid cause)

/-- FOREIGN_DIRECTORY_FRAME, R154. -/
def execForeignDirectoryFrame (priority : BitVec 2) (destination : Byte) (kind : BitVec 6) (payload : List Byte)
    (s : State) : Host.Outcome State Fault Refusal :=
  .next (s.receiveFrame { priority := priority, source := 0xFE, identity := 0, destination := destination, kind := kind,
                          payload := payload })

/-! ## The requests as commands: each is its frame, received -/

/-- JOIN, R56. -/
def execJoin (priority : BitVec 2) (identity : Identity) (hint : Byte) (term : Half) (s : State) :
    Host.Outcome State Fault Refusal :=
  .next (s.receiveFrame (requestFrame .join priority 0 identity (hint :: bytesOfHalf term.toNat)))

/-- ACCEPT, R63. -/
def execAccept (priority : BitVec 2) (source : Byte) (identity : Identity) (s : State) :
    Host.Outcome State Fault Refusal :=
  .next (s.receiveFrame (requestFrame .accept priority source 0 (bytesOfIdentity identity)))

/-- RENEW, R73. -/
def execRenew (priority : BitVec 2) (source : Byte) (identity : Identity) (term : Half) (s : State) :
    Host.Outcome State Fault Refusal :=
  .next (s.receiveFrame (requestFrame .renew priority source 0 (bytesOfIdentity identity ++ bytesOfHalf term.toNat)))

/-- LEAVE, R76. -/
def execLeave (priority : BitVec 2) (source : Byte) (identity : Identity) (s : State) :
    Host.Outcome State Fault Refusal :=
  .next (s.receiveFrame (requestFrame .leave priority source 0 (bytesOfIdentity identity)))

/-- CLASH_REPORT, R107. -/
def execClashReport (priority : BitVec 2) (source : Byte) (identity : Identity) (s : State) :
    Host.Outcome State Fault Refusal :=
  .next (s.receiveFrame (requestFrame .clashReport priority source 0 (bytesOfIdentity identity)))

/-- PROBE_REPLY, R92. -/
def execProbeReply (priority : BitVec 2) (source : Byte) (identity : Identity) (s : State) :
    Host.Outcome State Fault Refusal :=
  .next (s.receiveFrame (requestFrame .probeReply priority source 0 (bytesOfIdentity identity)))

/-- RESOLVE_IDENTITY, R77. -/
def execResolveIdentity (priority : BitVec 2) (source : Byte) (identity : Identity) (s : State) :
    Host.Outcome State Fault Refusal :=
  .next (s.receiveFrame (requestFrame .resolveIdentity priority source 0 (bytesOfIdentity identity)))

/-- RESOLVE_ADDRESS, R78. -/
def execResolveAddress (priority : BitVec 2) (source : Byte) (address : Byte) (s : State) :
    Host.Outcome State Fault Refusal :=
  .next (s.receiveFrame (requestFrame .resolveAddress priority source 0 [address]))

/-- The payload of a CLAIM, section 12.2. -/
def claimPayload (identity : Identity) (term : Half) (groups : List Byte) : List Byte :=
  bytesOfIdentity identity ++ bytesOfHalf term.toNat ++ byteOf groups.length :: groups

/-- CLAIM, R126. -/
def execClaim (priority : BitVec 2) (source : Byte) (identity : Identity) (term : Half) (groups : List Byte)
    (s : State) : Host.Outcome State Fault Refusal :=
  .next (s.receiveFrame (requestFrame .claim priority source 0 (claimPayload identity term groups)))

/-- GROUP_JOIN, R135. -/
def execGroupJoin (priority : BitVec 2) (source : Byte) (group : Byte) (s : State) :
    Host.Outcome State Fault Refusal :=
  .next (s.receiveFrame (requestFrame .groupJoin priority source 0 [group]))

/-- GROUP_LEAVE, R136. -/
def execGroupLeave (priority : BitVec 2) (source : Byte) (group : Byte) (s : State) :
    Host.Outcome State Fault Refusal :=
  .next (s.receiveFrame (requestFrame .groupLeave priority source 0 [group]))

/-- GROUP_EXPAND, R137. -/
def execGroupExpand (priority : BitVec 2) (source : Byte) (group : Byte) (s : State) :
    Host.Outcome State Fault Refusal :=
  .next (s.receiveFrame (requestFrame .groupExpand priority source 0 [group]))

end Sys2Proof.Machine
end

