-- ==== Sys2Proof/Machine/Dispatch.lean ====
section
/-! DEFINITION. exec: the meaning of every command, one arm for each row of spec/opcode_table.json. -/

namespace Sys2Proof.Machine

def exec (i : Instr) (s : State) : Host.Outcome State Fault Refusal :=
  match i with
  | .partReset rateFirst rateSecond autostart segmentEnd => Sys2Proof.Machine.execPartReset rateFirst rateSecond autostart segmentEnd s
  | .frameHeard frame => Sys2Proof.Machine.execFrameHeard frame s
  | .frameInvalid cause => Sys2Proof.Machine.execFrameInvalid cause s
  | .foreignDirectoryFrame priority destination kind payload => Sys2Proof.Machine.execForeignDirectoryFrame priority destination kind payload s
  | .join priority identity hint term => Sys2Proof.Machine.execJoin priority identity hint term s
  | .accept priority source identity => Sys2Proof.Machine.execAccept priority source identity s
  | .renew priority source identity term => Sys2Proof.Machine.execRenew priority source identity term s
  | .leave priority source identity => Sys2Proof.Machine.execLeave priority source identity s
  | .clashReport priority source identity => Sys2Proof.Machine.execClashReport priority source identity s
  | .probeReply priority source identity => Sys2Proof.Machine.execProbeReply priority source identity s
  | .resolveIdentity priority source identity => Sys2Proof.Machine.execResolveIdentity priority source identity s
  | .resolveAddress priority source address => Sys2Proof.Machine.execResolveAddress priority source address s
  | .claim priority source identity term groups => Sys2Proof.Machine.execClaim priority source identity term groups s
  | .groupJoin priority source group => Sys2Proof.Machine.execGroupJoin priority source group s
  | .groupLeave priority source group => Sys2Proof.Machine.execGroupLeave priority source group s
  | .groupExpand priority source group => Sys2Proof.Machine.execGroupExpand priority source group s
  | .transmitBegin => Sys2Proof.Machine.execTransmitBegin s
  | .arbitrationLost => Sys2Proof.Machine.execArbitrationLost s
  | .echoDifference => Sys2Proof.Machine.execEchoDifference s
  | .acknowledgeSlot dominant => Sys2Proof.Machine.execAcknowledgeSlot dominant s
  | .waitingClaimGranted => Sys2Proof.Machine.execWaitingClaimGranted s
  | .lineOnline => Sys2Proof.Machine.execLineOnline s
  | .lineFault => Sys2Proof.Machine.execLineFault s
  | .faultRecovery => Sys2Proof.Machine.execFaultRecovery s
  | .epochExpiry order => Sys2Proof.Machine.execEpochExpiry order s
  | .lapse address => Sys2Proof.Machine.execLapse address s
  | .disputeHoldExpiry address => Sys2Proof.Machine.execDisputeHoldExpiry address s
  | .quarantineHoldExpiry => Sys2Proof.Machine.execQuarantineHoldExpiry s
  | .censusWindowEnd => Sys2Proof.Machine.execCensusWindowEnd s
  | .offerWaitExpiry address => Sys2Proof.Machine.execOfferWaitExpiry address s
  | .probeWaitExpiry => Sys2Proof.Machine.execProbeWaitExpiry s
  | .probeChoose => Sys2Proof.Machine.execProbeChoose s
  | .setParameter => Sys2Proof.Machine.execSetParameter s
  | .readParameters => Sys2Proof.Machine.execReadParameters s
  | .readSummary => Sys2Proof.Machine.execReadSummary s
  | .acknowledgeAttention => Sys2Proof.Machine.execAcknowledgeAttention s
  | .reserve => Sys2Proof.Machine.execReserve s
  | .loadReservations => Sys2Proof.Machine.execLoadReservations s
  | .releaseReservation => Sys2Proof.Machine.execReleaseReservation s
  | .clearDirectory => Sys2Proof.Machine.execClearDirectory s
  | .evict => Sys2Proof.Machine.execEvict s
  | .pin => Sys2Proof.Machine.execPin s
  | .unpin => Sys2Proof.Machine.execUnpin s
  | .award => Sys2Proof.Machine.execAward s
  | .startCensus => Sys2Proof.Machine.execStartCensus s
  | .endCensus => Sys2Proof.Machine.execEndCensus s
  | .startSweep => Sys2Proof.Machine.execStartSweep s
  | .stopSweep => Sys2Proof.Machine.execStopSweep s
  | .groupAssign => Sys2Proof.Machine.execGroupAssign s
  | .groupRemove => Sys2Proof.Machine.execGroupRemove s
  | .readGroup => Sys2Proof.Machine.execReadGroup s
  | .setGroupMode => Sys2Proof.Machine.execSetGroupMode s
  | .clearGroup => Sys2Proof.Machine.execClearGroup s
  | .lineEnable => Sys2Proof.Machine.execLineEnable s
  | .lineDisable => Sys2Proof.Machine.execLineDisable s
  | .setBitRate => Sys2Proof.Machine.execSetBitRate s
  | .readRecord => Sys2Proof.Machine.execReadRecord s
  | .readDirectory => Sys2Proof.Machine.execReadDirectory s
  | .collectChanges => Sys2Proof.Machine.execCollectChanges s
  | .readFreeList => Sys2Proof.Machine.execReadFreeList s
  | .readQuarantine => Sys2Proof.Machine.execReadQuarantine s
  | .portRestart => Sys2Proof.Machine.execPortRestart s
  | .badCommand code => Sys2Proof.Machine.execBadCommand code s
  | .bufferDataRead => Sys2Proof.Machine.execBufferDataRead s
  | .bufferDataWrite data => Sys2Proof.Machine.execBufferDataWrite data s
  | .attentionEnablesWrite data => Sys2Proof.Machine.execAttentionEnablesWrite data s
  | .registerWrite header data => Sys2Proof.Machine.execRegisterWrite header data s
  | .lineIdle => Sys2Proof.Machine.execLineIdle s
  | .startMarkReceived => Sys2Proof.Machine.execStartMarkReceived s
  | .destinationFieldRead destination => Sys2Proof.Machine.execDestinationFieldRead destination s
  | .commandWriteWhileBusy code => Sys2Proof.Machine.execCommandWriteWhileBusy code s

end Sys2Proof.Machine
end

