-- ==== Sys2Proof/Safety.lean ====
section
/-! DEFINITION. The laws the manual states of the DL416's state, as predicates of State: where the addresses stand (R24),
whom the records name (R4), what a record of each state carries (R1, R2, R13), the limits (R5), the lapse list (R21), the
change marks (R18), the member lists (R132, R133), the Transmit Queue and who waits for it (R150, R161, R91), the
parameters' ranges (R176), the clock and the mode (R38, R118), the Prober (R88, R101) and the port (R157, R160). Nothing
a step does depends on them: they are what the statements about every step are made of. -/

namespace Sys2Proof.Machine

/-! ## Addresses, R24 -/

/-- The addresses of the records, in address order. -/
def State.addresses (s : State) : List Nat := s.directory.records.map (fun r => r.address)

/-- The places of all leasable addresses, one after another: the free list, the quarantine queue, the records. -/
def State.places (s : State) : List Nat := s.pool.free ++ s.pool.quarantine.map (fun q => q.address) ++ s.addresses

/-- R24 and R27: every leasable address is in exactly one place, the records stand in address order, and no entry of the
quarantine queue has a hold of 0. -/
def State.Placed (s : State) : Prop :=
  s.places.Perm (List.range' 1 Config.lastLeasable) ∧ s.addresses.Pairwise (fun a b => a < b)
    ∧ ∀ q ∈ s.pool.quarantine, 1 ≤ q.hold

/-! ## Identities, R4 -/

/-- The rival of a record: only in DISPUTED, a valid identity, and not the recorded one. -/
def Record.rivalFits (r : Record) : Bool :=
  match r.rival with
  | some i => r.state == .disputed && validIdentity i && i != r.identity
  | none => true

/-- R4: recorded identities are valid and distinct, and every rival is as the rule says. -/
def State.Identified (s : State) : Prop :=
  (s.directory.records.map (fun r => r.identity)).Nodup
    ∧ ∀ r ∈ s.directory.records, validIdentity r.identity = true ∧ r.rivalFits = true

/-! ## The fields of a record, R1, R2 and R13 -/

/-- What an OFFERED record carries by its origin, R2. -/
def Record.offeredFits (r : Record) (o : OfferContext) : Bool :=
  match o.origin with
  | .rebind => r.granted.isSome
  | .new | .reserved => r.term == 0 && r.granted.isNone && r.quiet == 0

/-- What a record of each state carries, R2; a LAPSED record is not pinned (R13), and the attempt that probes it next is
at most the seventh (R88). -/
def Record.shaped (r : Record) : Bool :=
  match r.state, r.offer with
  | .reserved, none =>
    r.term == 0 && r.granted.isNone && r.quiet == 0 && r.attempts == 0 && r.rival.isNone && r.hold.isNone
  | .offered, some o => r.offeredFits o && r.attempts == 0 && r.rival.isNone && r.hold.isNone
  | .bound, none => r.granted.isSome && r.attempts == 0 && r.rival.isNone && r.hold.isNone
  | .lapsed, none =>
    !r.pinned && r.term == 0 && r.granted.isSome && r.attempts ≤ 6 && r.rival.isNone && r.hold.isNone
  | .disputed, none => r.attempts == 0
  | _, _ => false

/-- A value of 1 to 65535. -/
def termFits (t : Nat) : Bool := 1 ≤ t && t ≤ 65535

/-- The ranges of R1. -/
def Record.inRange (r : Record) : Bool :=
  r.term ≤ 65535 && r.granted.all termFits && r.quiet ≤ 65535 && r.attempts ≤ 7
    && r.offer.all (fun o => termFits o.term && o.wait ≤ 255) && r.hold.all (fun h => 1 ≤ h && h ≤ 255)

/-- R1, R2 and R13, of every record. -/
def State.Shaped (s : State) : Prop := ∀ r ∈ s.directory.records, r.shaped = true ∧ r.inRange = true

/-- R5: at most 192 records, and at most 4 of them OFFERED. -/
def State.WithinLimits (s : State) : Prop :=
  s.directory.records.length ≤ Config.maxRecords ∧ s.countIn .offered ≤ Config.maxOffered

/-! ## The lapse list and the marks, R21, R18 and R52 -/

/-- A LAPSED record that is not the target of the probe in flight. -/
def State.awaitsProbe (s : State) (r : Record) : Bool := r.state == .lapsed && !s.isTarget r

/-- R21: the lapse list holds each LAPSED record that is not the probe target, once, and nothing else. -/
def State.LapseListed (s : State) : Prop :=
  s.directory.lapseList.Nodup
    ∧ (∀ a ∈ s.directory.lapseList, ∃ r ∈ s.directory.records, r.address = a ∧ s.awaitsProbe r = true)
    ∧ ∀ r ∈ s.directory.records, s.awaitsProbe r = true → r.address ∈ s.directory.lapseList

/-- R18: the listed marks are in address order, each of a leasable address and none of them CLEAN; REMOVED stands where
no record is, and the others where one is. -/
def State.Marked (s : State) : Prop :=
  (s.directory.marks.map (fun p => p.1)).Pairwise (fun a b => a < b)
    ∧ ∀ p ∈ s.directory.marks, leasable p.1 = true ∧ p.2 ≠ .clean ∧ (p.2 = .removed ↔ p.1 ∉ s.addresses)

/-- R52: the pacing set holds leasable addresses, each at most once. -/
def State.Paced (s : State) : Prop := s.directory.pacing.Nodup ∧ ∀ a ∈ s.directory.pacing, leasable a = true

/-! ## Groups, R132 and R133 -/

/-- 32 groups, at most 256 members in all, and in each list at most 16 addresses, none twice, all of them held by
records. -/
def State.Grouped (s : State) : Prop :=
  s.groups.length = Config.groupCount ∧ memberTotal s.groups ≤ Config.memberEntries
    ∧ ∀ g ∈ s.groups, g.members.length ≤ Config.groupMembers ∧ g.members.Nodup ∧ ∀ a ∈ g.members, a ∈ s.addresses

/-! ## The Transmit Queue, R150, R151, R173, and those who wait for it, R91 and R161 -/

/-- An entry's counts and its check. -/
def TxEntry.fits (e : TxEntry) : Bool := e.used < e.limit && e.limit ≤ 8 && e.check == e.frame.check

/-- R150, R151 and R173: at most 8 entries, at most 6 of them replies, no place set aside between steps, each entry
short of its limit and with its check, and the frame in transmission one entry's, while the line is in the phase of
transmission. -/
def State.Queued (s : State) : Prop :=
  s.queue.entries.length ≤ Config.queueEntries ∧ replyCount s.queue.entries ≤ Config.replyEntries
    ∧ s.queue.setAside = 0 ∧ (∀ e ∈ s.queue.entries, e.fits = true)
    ∧ (s.queue.entries.filter (fun e => e.sending)).length = (if s.line.phase = .transmitting then 1 else 0)

/-- The entries whose report the command in progress awaits, its unqueued claim counted. -/
def State.awaited (s : State) : Nat :=
  (s.queue.entries.filter (fun e => e.originator == .command true)).length + (if s.queue.waiting.isSome then 1 else 0)

/-- R159 and R161: a command is BUSY exactly while one REVOKE of it is queued or waits, and its claim waits only while no
entry is free. -/
def State.CommandAwaits (s : State) : Prop :=
  s.awaited = (if s.port.state = .busy then 1 else 0) ∧ (s.queue.waiting.isSome → s.hasFreeEntry = false)

/-- The probe in flight has its PROBE in the queue. -/
def State.probeQueued (s : State) : Bool :=
  match s.prober.context with
  | some c => c.phase == .queued
  | none => false

/-- R91: one PROBE's reports act, and only while the context's phase is QUEUED. -/
def State.ProbeAwaits (s : State) : Prop :=
  (s.queue.entries.filter (fun e => e.originator == .prober true)).length = (if s.probeQueued then 1 else 0)

/-! ## Parameters, R176 -/

/-- The parameters' ranges. -/
def Params.inRange (p : Params) : Bool :=
  1 ≤ p.epochPeriod && p.epochPeriod ≤ 255 && termFits p.maximumTerm && termFits p.defaultTerm && p.quarantineHold ≤ 255
    && 1 ≤ p.offerWait && p.offerWait ≤ 255 && 1 ≤ p.probeWait && p.probeWait ≤ 255 && 1 ≤ p.probeAttempts
    && p.probeAttempts ≤ 7 && 1 ≤ p.sendAttempts && p.sendAttempts ≤ 8 && 1 ≤ p.censusWindow && p.censusWindow ≤ 255
    && p.disputeHold ≤ 255

/-- R176: every parameter is in its range. -/
def State.Ranged (s : State) : Prop := s.params.inRange = true

/-! ## The line, the clock and the mode, R38, R118, R119 and R155 -/

/-- An epoch under way: its period in range, and the time left within it, R38. -/
def Epoch.fits (e : Epoch) : Bool := 1 ≤ e.period && e.period ≤ 255 && e.left ≤ Config.ticksPerTenth * e.period

/-- R38 and R118: the clock runs exactly while the line is ONLINE; the window is 0 in SERVING and 1 to 255 in CENSUS; an
autostart is pending only while the line is not ONLINE (R119). -/
def State.Timed (s : State) : Prop :=
  (s.clock.epoch.isSome ↔ s.line.state = .online) ∧ s.clock.epoch.all Epoch.fits = true
    ∧ (s.census.mode = .serving → s.census.window = 0)
    ∧ (s.census.mode = .census → 1 ≤ s.census.window ∧ s.census.window ≤ 255)
    ∧ (s.census.autostart = true → s.line.state ≠ .online)

/-- R143, R146 and R155: a line that is not ONLINE is in no phase of a frame, the termination is OPEN without
SEGMENT_END and in DISABLED, and the rate is one of four. -/
def State.Lined (s : State) : Prop :=
  (s.line.state ≠ .online → s.line.phase = .idle)
    ∧ (s.line.segmentEnd = false ∨ s.line.state = .disabled → s.line.termination = .openCircuit) ∧ s.line.bitRate ≤ 3

/-! ## The Prober, R88 and R101 -/

/-- A context in use, R88. -/
def ProbeContext.fits (c : ProbeContext) : Bool :=
  leasable c.target && validIdentity c.identity
    && (match c.kind with
      | .lapse => 1 ≤ c.attempt && c.attempt ≤ 7
      | .sweep => c.attempt == 1)
    && (match c.phase with
      | .waiting n => n ≤ 255
      | .queued => true)

/-- A sweep context, R101; a WAITING sweep is CONTINUOUS, with its cursor at the first address (R103). -/
def Sweep.fits (w : Sweep) : Bool :=
  leasable w.first && leasable w.last && w.first ≤ w.cursor && w.cursor ≤ w.last + 1 && w.first ≤ w.last
    && w.threshold ≤ 255 && w.passes ≤ 65535 && (w.scanning || (w.mode == .continuous && w.cursor == w.first))

/-- R88 and R101. -/
def State.Probing (s : State) : Prop := s.prober.context.all ProbeContext.fits = true ∧ s.prober.sweep.all Sweep.fits = true

/-! ## The port, R157, R158, R160 and R174 -/

/-- R157, R158, R160 and R174: eight parameter bytes and 256 buffer bytes, no latched cause or enable outside its bits,
and ERROR set exactly when the last command completed otherwise than with OK, and clear in BUSY. -/
def State.Ported (s : State) : Prop :=
  s.port.parameters.length = 8 ∧ s.port.buffer.length = Config.bufferSize ∧ s.port.latched &&& ~~~latchedMask = 0
    ∧ s.port.enables &&& ~~~enablesMask = 0
    ∧ s.port.error = (s.port.state != .busy && s.port.outcome != .ok)

/-! ## All of them -/

/-- Every law above. -/
structure State.Sound (s : State) : Prop where
  placed : s.Placed
  identified : s.Identified
  shaped : s.Shaped
  limits : s.WithinLimits
  lapse : s.LapseListed
  marked : s.Marked
  paced : s.Paced
  grouped : s.Grouped
  queued : s.Queued
  command : s.CommandAwaits
  probe : s.ProbeAwaits
  ranged : s.Ranged
  timed : s.Timed
  lined : s.Lined
  probing : s.Probing
  ported : s.Ported

end Sys2Proof.Machine
end

