-- ==== Sys2Proof/WellFormed.lean ====
section
/-! DEFINITION. Which commands name an event of their row: a frame that can stand on the line, a code that names no
command, an address that can be leased. The machine gives every command a meaning, well-formed or not; this says
which operands the row's own words describe. -/

namespace Sys2Proof

/-- The command codes of the table in section 11.3. -/
def commandCodes : List Nat :=
  [0x01, 0x02, 0x03, 0x04, 0x10, 0x11, 0x12, 0x20, 0x21, 0x22, 0x23, 0x24, 0x30, 0x31, 0x32, 0x33, 0x40, 0x41, 0x42,
   0x43, 0x44, 0x50, 0x51, 0x52, 0x60, 0x61, 0x62, 0x63, 0x64, 0xFF]

/-- A frame that can be valid: at most 24 payload bytes, a source that is no broadcast, and an identity only beside
source 0 (section 12.1). -/
def Frame.wellFormed (f : Frame) : Bool :=
  decide (f.payload.length ≤ Config.maxPayload) && f.source.toNat != Config.broadcastAddress
    && (f.source.toNat == 0 || f.identity.toNat == 0)

/-- A leasable address, R34. -/
def leasableByte (a : Byte) : Bool := 1 ≤ a.toNat && a.toNat ≤ Config.lastLeasable

/-- A source that a module or a tool can send a payload-identified request from: not 0, not FEh, not FFh. -/
def senderByte (a : Byte) : Bool := 1 ≤ a.toNat && a.toNat < Config.directoryAddress

/-- The owners are named once each. -/
def ownersDistinct : List EpochOwner → Bool
  | [] => true
  | o :: os => !(os.contains o) && ownersDistinct os

/-- The operands describe an event of the command's row. -/
def Instr.wellFormed : Instr → Bool
  | .frameHeard f => f.wellFormed && f.source.toNat != Config.directoryAddress
  | .frameInvalid (.stuffError _) => true
  | .frameInvalid (.badLength n) => Config.maxPayload < n.toNat
  | .frameInvalid (.badCheck f _) => f.wellFormed
  | .foreignDirectoryFrame _ _ _ payload => payload.length ≤ Config.maxPayload
  | .accept _ a _ | .renew _ a _ _ | .leave _ a _ | .clashReport _ a _ | .probeReply _ a _ => senderByte a
  | .resolveIdentity _ a _ | .resolveAddress _ a _ => senderByte a
  | .groupJoin _ a _ | .groupLeave _ a _ | .groupExpand _ a _ => senderByte a
  | .claim _ a _ _ groups => senderByte a && groups.length ≤ 8
  | .epochExpiry order => ownersDistinct order
  | .lapse a | .disputeHoldExpiry a | .offerWaitExpiry a => leasableByte a
  | .badCommand code => !(commandCodes.contains code.toNat)
  | .commandWriteWhileBusy code => code.toNat != 0xFF
  | .registerWrite header data =>
    128 ≤ header.toNat && data.length != 0 && !([0x88, 0x8C, 0x8E].contains header.toNat)
  | .partReset .. | .join .. | .transmitBegin | .arbitrationLost | .echoDifference | .acknowledgeSlot _
  | .waitingClaimGranted | .lineOnline | .lineFault | .faultRecovery | .quarantineHoldExpiry | .censusWindowEnd
  | .probeWaitExpiry | .probeChoose | .setParameter | .readParameters | .readSummary | .acknowledgeAttention | .reserve
  | .loadReservations | .releaseReservation | .clearDirectory | .evict | .pin | .unpin | .award | .startCensus
  | .endCensus | .startSweep | .stopSweep | .groupAssign | .groupRemove | .readGroup | .setGroupMode | .clearGroup
  | .lineEnable | .lineDisable | .setBitRate | .readRecord | .readDirectory | .collectChanges | .readFreeList
  | .readQuarantine | .portRestart | .bufferDataRead | .bufferDataWrite _ | .attentionEnablesWrite _ | .lineIdle
  | .startMarkReceived | .destinationFieldRead _ => true

end Sys2Proof
end

