-- ==== Sys2Proof/Certificates/Slice0/Obligations.lean ====
section
/-! DEFINITION. The statements for the provers, and the words they are made of. Each statement says, for every
state that meets its premises, what a command or a step does there. -/

namespace Sys2Proof.Machine

/-! ## Words the statements are made of -/

/-- A frame can be received: ONLINE, not transmitting, and not waiting for the line to be idle after an early end. -/
def State.Receives (s : State) : Prop :=
  s.line.state = .online ∧ s.line.phase ≠ .transmitting ∧ s.line.phase ≠ .stopped

/-- R148, reply room: fewer than 6 REPLY-class entries and fewer than 8 entries in all, with set-aside places counted. -/
def State.HasReplyRoom (s : State) : Prop :=
  replyCount s.queue.entries + s.queue.setAside < 6 ∧ s.queue.entries.length + s.queue.setAside < 8

/-- R155 and R148: the line after a whole frame to the destination: in the time after a frame, the termination that of
the frame's phase, the acknowledge slot driven or not, and the rest as before but for the runs. -/
def State.LineAfter (s : State) (destination : Nat) (driven : Bool) (l : Line) : Prop :=
  l.state = s.line.state ∧ l.bitRate = s.line.bitRate ∧ l.segmentEnd = s.line.segmentEnd ∧ l.foreign = s.line.foreign
    ∧ l.phase = .afterFrame ∧ l.acknowledged = driven
    ∧ l.termination =
      (if s.line.segmentEnd = false then .openCircuit
       else if s.line.phase = addressedPhase destination then s.line.termination
       else if destination = 254 then s.params.receive else s.params.pass)

/-- The listed marks of the other addresses. -/
def otherMarks (a : Nat) (marks : List (Nat × Mark)) : List (Nat × Mark) := marks.filter (fun p => p.1 != a)

/-- The marks of t are those of s but for one address, whose mark is m. -/
def State.MarkOnly (s t : State) (a : Nat) (m : Mark) : Prop :=
  t.markOf a = m ∧ otherMarks a t.directory.marks = otherMarks a s.directory.marks

/-- The record takes the place of the one at its address, leaves the lapse list, and its address's mark moves to m. -/
def State.Replaces (s t : State) (r : Record) (m : Mark) : Prop :=
  t.directory = { s.directory with records := replaceRecord r s.directory.records, marks := t.directory.marks,
                                   lapseList := s.directory.lapseList.filter (fun b => b != r.address) }
    ∧ s.MarkOnly t r.address m

/-- An alteration, R17 and R18. -/
def State.Alters (s t : State) (r : Record) : Prop := s.Replaces t r (Mark.move .altered (s.markOf r.address))

/-- A member list after the address is struck from it, R140. -/
def struck (a : Nat) (groups : List Group) : List Group :=
  groups.map (fun g => { g with members := g.members.filter (fun b => b != a) })

/-- R14: the record at the address is gone from the directory, the lapse list and the member lists, the pool is p, and
the mark is m. -/
def State.Ends (s t : State) (a : Nat) (p : Pool) (m : Mark) : Prop :=
  t.directory = { s.directory with records := removeRecord a s.directory.records, marks := t.directory.marks,
                                   lapseList := s.directory.lapseList.filter (fun b => b != a) }
    ∧ s.MarkOnly t a m ∧ t.pool = p ∧ t.groups = struck a s.groups

/-- R26: the pool after the record's retirement, at the present quarantine hold. -/
def State.poolRetired (s : State) (r : Record) : Pool :=
  if s.params.quarantineHold = 0 then { s.pool with free := s.pool.free ++ [r.address] }
  else { s.pool with quarantine := s.pool.quarantine ++
    [{ address := r.address, lastIdentity := r.identity, hold := s.params.quarantineHold }] }

/-- R25 and R29: the pool after the address is taken from wherever it stands. -/
def State.poolTaken (s : State) (a : Nat) : Pool where
  free := s.pool.free.filter (fun b => b != a)
  quarantine := s.pool.quarantine.filter (fun q => q.address != a)

/-- A record created at its address, R6. -/
def State.Creates (s t : State) (r : Record) : Prop :=
  t.recordAt r.address = some r ∧ removeRecord r.address t.directory.records = s.directory.records
    ∧ t.directory.lapseList = s.directory.lapseList ∧ t.directory.pacing = s.directory.pacing
    ∧ s.MarkOnly t r.address (Mark.move .created (s.markOf r.address))

/-- A new entry of the Transmit Queue, R150 and R151: no attempt used, its limit and its check fixed now. -/
def State.entryOf (s : State) (cls : TxClass) (o : Originator) (f : Frame) : TxEntry where
  frame := f
  check := f.check
  cls := cls
  used := 0
  limit := if 1 ≤ f.destination.toNat ∧ f.destination.toNat ≤ 253 then s.params.sendAttempts else 1
  originator := o
  sending := false
  lastTry := false

/-- The queue with one entry more. -/
def State.queueWith (s : State) (e : TxEntry) : TxQueue := { s.queue with entries := s.queue.entries ++ [e] }

/-- R150: the queue when an entry has left it and the rest stay: a waiting claim takes an entry that is free. -/
def State.freed (s : State) (rest : List TxEntry) : TxQueue :=
  match s.queue.waiting with
  | some f =>
    if rest.length + s.queue.setAside < 8 then
      { s.queue with entries := rest ++ [s.entryOf .directory (.command true) f], waiting := none }
    else { s.queue with entries := rest }
  | none => { s.queue with entries := rest }

/-- The queue with a reply more, R72. -/
def State.replied (s : State) (f : Frame) : TxQueue := s.queueWith (s.entryOf .reply .reply f)

/-- The queue with an answer of the Join Unit more, R62. -/
def State.joinAnswered (s : State) (f : Frame) : TxQueue := s.queueWith (s.entryOf .reply .joinUnit f)

/-- The queue after a DIRECTORY-class frame is claimed for: queued when there is room beside the places given, dropped
otherwise, R150. -/
def State.claimed (s : State) (o : Originator) (f : Frame) (beside : Nat) : TxQueue :=
  if s.line.state ≠ .disabled ∧ s.queue.entries.length + s.queue.setAside + beside < 8 then
    s.queueWith (s.entryOf .directory o f)
  else s.queue

/-- R121: the queue with every CENSUS frame that waits unsent brought up to date, its check worked out again. -/
def State.censusUpdated (s : State) (f : Frame) : TxQueue :=
  { s.queue with
    entries := s.queue.entries.map (fun e => if e.waitingCensus then { e with frame := f, check := f.check } else e) }

/-- The queue when the Prober's reports act no more, R91. -/
def State.detached (s : State) : TxQueue := { s.queue with entries := s.queue.entries.map detachProbe }

/-- The latched causes with one more, R169. -/
def Port.withCause (p : Port) (c : Cause) : Port := { p with latched := p.latched ||| c.bit }

/-- The port after a command of the code has been taken and has completed, R159 and R160. -/
def Port.completed (p : Port) (code : Byte) (o : OutcomeCode) : Port :=
  { p with code := code, outcome := o, error := o != .ok, collide := false, state := .ready,
           latched := p.latched ||| Cause.bit .done }

/-- The same with results in the parameter bytes. -/
def Port.answered (p : Port) (code : Byte) (results : List Byte) : Port :=
  { p.completed code .ok with state := .result, parameters := results ++ p.parameters.drop results.length }

/-- The same with the buffer rewritten from byte 0 and the pointer at 0, R158. -/
def Port.shown (p : Port) (code : Byte) (results buffer : List Byte) : Port :=
  { p.answered code results with buffer := buffer, pointer := 0 }

/-- The port while a command of the code waits for its REVOKE, R159 and R161. -/
def Port.awaiting (p : Port) (code : Byte) : Port :=
  { p with code := code, error := false, collide := false, state := .busy }

/-- Bytes followed by zeros up to 256. -/
def padded (bs : List Byte) : List Byte := bs ++ List.replicate (256 - bs.length) 0

/-- A record that has become BOUND with a term, R8 and R9. -/
def Record.boundWith (r : Record) (term quiet : Nat) : Record :=
  { r with state := .bound, term := term, granted := some term, quiet := quiet, attempts := 0, rival := none,
           offer := none, hold := none }

/-- A record that has lapsed, R8 and R44. -/
def Record.lapsedNow (r : Record) : Record := { r with state := .lapsed, term := 0, attempts := 0, offer := none }

/-- A record that has become DISPUTED, R108, with the dispute hold at the parameter's value. -/
def State.disputedRecord (s : State) (r : Record) (rival : Option Identity) : Record :=
  { r with state := .disputed, rival := rival, offer := none, attempts := 0,
           hold := if s.params.disputeHold = 0 then none else some s.params.disputeHold }

/-- R47, R48 and R49: a record after a heard event from its address, where passive renewal acts or does not. -/
def State.heardRecord (s : State) (renews : Bool) (r : Record) : Record :=
  match r.state with
  | .bound =>
    if renews then { r with term := s.grantedOf r, granted := some (s.grantedOf r), quiet := 0 } else { r with quiet := 0 }
  | .lapsed => if renews then r.boundWith (s.grantedOf r) 0 else { r with quiet := 0 }
  | .disputed => { r with quiet := 0 }
  | .reserved | .offered => r

/-- R49: passive renewal restores a LAPSED record at the address. -/
def State.restores (s : State) (a : Nat) (renews : Bool) : Bool :=
  renews && (s.recordAt a).any (fun r => r.state == .lapsed)

/-- R80 and R81: a frame from the address is a stray that earns a REVOKE, when the places given are kept for others. -/
def State.strayRevoked (s : State) (a beside : Nat) : Bool :=
  s.census.mode == .serving && (s.recordAt a).all (fun r => r.state == .reserved) && !s.directory.pacing.contains a
    && s.line.state != .disabled && decide (s.queue.entries.length + s.queue.setAside + beside < 8)

/-- R47 to R49, R80, R81 and R52: the state after a heard event from the source, where passive renewal acts or does not,
with the places given kept for others: the record there, its mark and its place in the lapse list; or, from a stray, an
untargeted REVOKE and a new member of the pacing set. A source outside 1 to 239 gives no heard event. -/
def State.heardState (s : State) (a : Nat) (renews : Bool) (beside : Nat) : State :=
  if leasable a = false then s
  else { s with
    directory := {
      records := s.directory.records.map (fun r => if r.address = a then s.heardRecord renews r else r),
      marks := if s.restores a renews then setMark a (Mark.move .altered (s.markOf a)) s.directory.marks
        else s.directory.marks,
      lapseList := if s.restores a renews then s.directory.lapseList.filter (fun b => b != a)
        else s.directory.lapseList,
      pacing := if s.strayRevoked a beside then s.directory.pacing ++ [a] else s.directory.pacing },
    queue := if s.strayRevoked a beside then s.queueWith (s.entryOf .directory .stray (untargetedRevoke a))
      else s.queue }

/-- R147: a stuff error, or a length field of more than 24. -/
def endsEarly : InvalidReception → Bool
  | .stuffError _ => true
  | .badLength n => decide (25 ≤ n.toNat)
  | .badCheck _ _ => false

/-- R148: the length the kind requires. -/
def RequestKind.lengthPasses (k : RequestKind) (f : Frame) : Prop :=
  match k with
  | .join => f.payload.length = 3
  | .accept | .leave | .probeReply | .clashReport | .resolveIdentity => f.payload.length = 6
  | .renew => f.payload.length = 8
  | .groupJoin | .groupLeave | .groupExpand | .resolveAddress => f.payload.length = 1
  | .claim => f.payload.length = 9 + (f.payload.getD 8 0).toNat ∧ (f.payload.getD 8 0).toNat ≤ 8

/-- R148: the source class of the kind. -/
def RequestKind.sourcePasses (k : RequestKind) (f : Frame) : Prop :=
  match k with
  | .join => f.source.toNat = 0
  | .resolveIdentity | .resolveAddress | .groupExpand => 1 ≤ f.source.toNat ∧ f.source.toNat ≤ 253
  | .accept | .renew | .leave | .claim | .probeReply | .clashReport | .groupJoin | .groupLeave =>
    1 ≤ f.source.toNat ∧ f.source.toNat ≤ 239

/-- R148: the identity the frame carries, in the arbitration field or first in the payload, is valid. -/
def RequestKind.identityPasses (k : RequestKind) (f : Frame) : Prop :=
  match k with
  | .join => f.identity ≠ 0 ∧ f.identity ≠ BitVec.allOnes 48
  | .accept | .renew | .leave | .claim | .probeReply | .clashReport | .resolveIdentity =>
    identityOfBytes (f.payload.take 6) ≠ 0 ∧ identityOfBytes (f.payload.take 6) ≠ BitVec.allOnes 48
  | .groupJoin | .groupLeave | .groupExpand | .resolveAddress => True

/-- R56 to R58: why a JOIN is refused, by the first condition that holds; none when it is offered an address. -/
def State.joinRefusal (s : State) (i : Identity) (hint : Nat) : Option RefusalReason :=
  if s.census.mode = .census then some .census
  else if s.params.joinGate = .closed then some .closed
  else match s.recordOf i with
    | some r =>
      if r.state = .disputed then some .disputed
      else if r.state ≠ .offered ∧ 4 ≤ s.countIn .offered then some .busy
      else none
    | none =>
      if 192 ≤ s.directory.records.length then some .full
      else if 4 ≤ s.countIn .offered then some .busy
      else if s.chooseAddress hint i = none then some .poolEmpty
      else none

/-- R73: what a RENEW is answered. -/
def State.renewOutcome (s : State) (a : Nat) (i : Identity) : RenewOutcome :=
  match s.recordAt a with
  | none => .unknown
  | some r =>
    match r.state with
    | .reserved | .offered => .notBound
    | .bound | .lapsed => if r.identity = i then .ok else .disputed
    | .disputed => .disputed

/-- R125 and R126: what a CLAIM is answered. -/
def State.claimOutcome (s : State) (a : Nat) (i : Identity) : ClaimOutcome :=
  if s.census.mode = .serving then .notCensus
  else if (s.recordOf i).any (fun r => r.address != a) then .identityElsewhere
  else match s.recordAt a with
    | none => if 192 ≤ s.directory.records.length then .full else .granted
    | some r =>
      match r.state with
      | .disputed => .disputed
      | .offered =>
        if r.identity = i ∨ r.offer.all (fun o => o.origin != .rebind) = true then .granted else .disputed
      | .reserved | .bound | .lapsed => if r.identity = i then .granted else .disputed

/-- R135: what a GROUP JOIN is answered, by the first check that applies. -/
def State.groupJoinOutcome (s : State) (a g : Nat) : GroupOutcome :=
  if (s.recordAt a).any (fun r => r.state == .bound || r.state == .lapsed) = false then .notBound
  else if groupNumber g = false then .badGroup
  else if (s.group g).mode = .closed then .closed
  else if a ∈ (s.group g).members then .already
  else if 16 ≤ (s.group g).members.length then .groupFull
  else if 256 ≤ memberTotal s.groups then .noEntries
  else .ok

/-- R138: what Group Assign ends with, by the first check that fails. -/
def State.groupAssignOutcome (s : State) (g a : Nat) : OutcomeCode :=
  if groupNumber g = false ∨ leasable a = false then .badValue
  else if s.recordAt a = none then .notFound
  else if a ∈ (s.group g).members then .already
  else if 16 ≤ (s.group g).members.length then .groupFull
  else if 256 ≤ memberTotal s.groups then .noEntries
  else .ok

/-- R164: what a Reserve ends with, by the first check that fails. -/
def State.reserveOutcome (s : State) (a : Nat) (i : Identity) (pin : Nat) : OutcomeCode :=
  if leasable a = false ∨ validIdentity i = false ∨ 1 < pin then .badValue
  else if a ∈ s.addresses then .addressHeld
  else if s.recordOf i ≠ none then .identityHeld
  else if 192 ≤ s.directory.records.length then .full
  else .ok

/-- R164 and R6: the state after a reservation entry is taken as a Reserve. -/
def State.reservedBy (s : State) (e : ReservationEntry) : State :=
  if s.reserveOutcome e.address e.identity e.pin = .ok then
    { s with
      directory := { s.directory with
        records := insertRecord { address := e.address, identity := e.identity, state := .reserved, pinned := e.pin == 1,
                                  term := 0, granted := none, quiet := 0, attempts := 0, rival := none, offer := none,
                                  hold := none } s.directory.records,
        marks := setMark e.address (Mark.move .created (s.markOf e.address)) s.directory.marks },
      pool := s.poolTaken e.address }
  else s

/-- R164: the state after the first n entries of the buffer, each taken on what those before it left. -/
def State.afterEntries (s : State) (n : Nat) : State :=
  (List.range n).foldl (fun u k => u.reservedBy (reservationAt s.port.buffer k)) s

/-- R164: what the k-th entry of the buffer ends with, on what those before it left. -/
def State.entryOutcome (s : State) (k : Nat) : OutcomeCode :=
  (s.afterEntries k).reserveOutcome (reservationAt s.port.buffer k).address (reservationAt s.port.buffer k).identity
    (reservationAt s.port.buffer k).pin

/-- How many of the first n entries are reserved. -/
def State.entriesReserved (s : State) (n : Nat) : Nat :=
  ((List.range n).filter (fun k => s.entryOutcome k == .ok)).length

/-- R112: what Award ends with when a check fails, and OK when none does. -/
def State.awardOutcome (s : State) (a party : Nat) : OutcomeCode :=
  if leasable a = false ∨ 1 < party then .badValue
  else match s.recordAt a with
    | none => .notFound
    | some r =>
      if r.state ≠ .disputed then .wrongState
      else if party = 0 then .ok
      else match r.rival with
        | none => .badValue
        | some i => if (s.recordOf i).any (fun q => q.address != a) then .identityHeld else .ok

/-- Section 11.3: what a command that names an address in P0 is refused with: BAD_VALUE outside 1 to 239, NOT_FOUND with
no record, WRONG_STATE for a record of a state it is not taken for; OK when it is taken. -/
def State.recordOutcome (s : State) (a : Nat) (taken : RecordState → Bool) : OutcomeCode :=
  if leasable a = false then .badValue
  else match s.recordAt a with
    | none => .notFound
    | some r => if taken r.state then .ok else .wrongState

/-- R88: a probe wait one unit of 5 ms on; 0 stays 0. -/
def ProbeContext.oneUnitLater (c : ProbeContext) : ProbeContext :=
  match c.phase with
  | .waiting n => { c with phase := .waiting (n - 1) }
  | .queued => c

/-- R77 and R78: the RESOLVE REPLY on a record found, or on none, with what was asked. -/
def resolvedReply (destination : Nat) (found : Option Record) (address : Nat) (i : Identity) : Frame :=
  match found with
  | some r =>
    resolveReply destination (if r.state = .bound ∨ r.state = .lapsed then .found else .held) r.address r.identity
      r.state.code
  | none => resolveReply destination .notFound address i 0

/-- R44: a record that lapses at the next expiry. -/
def Record.lapsesNow (r : Record) : Bool := r.state == .bound && !r.pinned && decide (r.term ≤ 1)

/-- R44, R46 and R51: a record one epoch on: its term or its lapse, its quiet count, its dispute hold. -/
def Record.epochAged (r : Record) : Record :=
  let q := if r.lapsesNow then r.lapsedNow
    else if r.state = .bound ∧ r.pinned = false then { r with term := r.term - 1 }
    else r
  { q with quiet := if r.state = .bound ∨ r.state = .lapsed ∨ r.state = .disputed then min (r.quiet + 1) 65535
                    else r.quiet,
           hold := r.hold.map (fun h => h - 1) }

/-- R51: a record whose dispute hold runs out at the next expiry. -/
def Record.holdRunsOut (r : Record) : Bool := r.hold.any (fun h => decide (h ≤ 1))

/-- The records whose dispute hold runs out at the next expiry, in address order. -/
def State.heldOut (s : State) : List Record := s.directory.records.filter (fun r => r.holdRunsOut)

/-- R111 and R26: the pool after those records are retired, in address order. -/
def State.poolWithHolds (s : State) (p : Pool) : Pool :=
  if s.params.quarantineHold = 0 then { p with free := p.free ++ s.heldOut.map (fun r => r.address) }
  else { p with quarantine := p.quarantine ++ s.heldOut.map (fun r =>
    { address := r.address, lastIdentity := r.identity, hold := s.params.quarantineHold }) }

/-- R28: the pool one epoch on: addresses whose hold runs out join the free list tail in queue order. -/
def Pool.epochAged (p : Pool) : Pool where
  free := p.free ++ (p.quarantine.filter (fun q => q.hold - 1 == 0)).map (fun q => q.address)
  quarantine := (p.quarantine.map (fun q => { q with hold := q.hold - 1 })).filter (fun q => q.hold != 0)

/-- R111: the queue after an untargeted REVOKE is claimed for each of them in that order. -/
def State.queueAfterHolds (s : State) : TxQueue :=
  s.heldOut.foldl (fun q r => State.claimed { s with queue := q } .dispute (untargetedRevoke r.address) 0) s.queue

/-- R176: the range of each parameter 01h to 11h; none for an identifier that names none of them. -/
def parameterRange (id : Nat) : Option (Nat × Nat) :=
  if id = 0 then none
  else [(1, 255), (1, 65535), (1, 65535), (0, 255), (1, 255), (1, 255), (1, 7), (1, 8), (1, 255), (0, 1), (0, 255),
        (0, 1), (0, 1), (0, 3), (0, 3), (0, 3), (0, 3)][id - 1]?

/-- The host commands of section 11.3 as rows of the table, Port Restart left out. -/
def hostCommands : List Instr :=
  [.setParameter, .readParameters, .readSummary, .acknowledgeAttention, .reserve, .loadReservations,
   .releaseReservation, .clearDirectory, .evict, .pin, .unpin, .award, .startCensus, .endCensus, .startSweep, .stopSweep,
   .groupAssign, .groupRemove, .readGroup, .setGroupMode, .clearGroup, .lineEnable, .lineDisable, .setBitRate,
   .readRecord, .readDirectory, .collectChanges, .readFreeList, .readQuarantine]

/-- The codes of section 11.3 and their rows, Port Restart left out. -/
def codeRows : List (Byte × Instr) :=
  [(0x01, .setParameter), (0x02, .readParameters), (0x03, .readSummary), (0x04, .acknowledgeAttention),
   (0x10, .reserve), (0x11, .loadReservations), (0x12, .releaseReservation), (0x20, .clearDirectory), (0x21, .evict),
   (0x22, .pin), (0x23, .unpin), (0x24, .award), (0x30, .startCensus), (0x31, .endCensus), (0x32, .startSweep),
   (0x33, .stopSweep), (0x40, .groupAssign), (0x41, .groupRemove), (0x42, .readGroup), (0x43, .setGroupMode),
   (0x44, .clearGroup), (0x50, .lineEnable), (0x51, .lineDisable), (0x52, .setBitRate), (0x60, .readRecord),
   (0x61, .readDirectory), (0x62, .collectChanges), (0x63, .readFreeList), (0x64, .readQuarantine)]

/-- R144: the recessive and the dominant run after the bits, from a run of the given level and length. -/
def runsOver (level : Bool) (count : Nat) (bits : List Bool) : Nat × Nat :=
  bits.foldl (fun runs bit => if bit then (runs.1 + 1, 0) else (0, runs.2 + 1)) (if level then (count, 0) else (0, count))

/-- The runs of equal bits, by level and length, that may stand on the line before a field of a frame: a seventh equal bit
is followed by its stuff bit, R147. -/
def priorRuns : List (Bool × Nat) :=
  [(true, 1), (true, 2), (true, 3), (true, 4), (true, 5), (true, 6), (false, 1), (false, 2), (false, 3), (false, 4),
   (false, 5), (false, 6)]

/-- No more than n equal bits in a row, after a run of the given level and length. -/
def runsWithin (n : Nat) (last : Bool) (count : Nat) : List Bool → Bool
  | [] => true
  | b :: bs =>
    let c := if b = last then count + 1 else 1
    decide (c ≤ n) && runsWithin n b c bs

/-- R147: what a receiver reads: the bit after every seven equal bits is dropped, and counts in the next run. -/
def unstuff (drops : Bool) (last : Bool) (count : Nat) : List Bool → List Bool
  | [] => []
  | b :: bs =>
    if drops then unstuff false b 1 bs
    else
      let c := if b = last then count + 1 else 1
      b :: unstuff (decide (c = 7)) b c bs

end Sys2Proof.Machine

open Sys2Proof Sys2Proof.Machine

/-- One step takes the command at the front of the queue and is exec of it on the state with the queue's rest. -/
def Obligations.FrontCommandIsWhatAStepRuns : Prop :=
  ∀ (s : State) (c : Instr) (rest : List Instr), s.pending = c :: rest →
    step s = exec c { s with pending := rest }

/-- With no command waiting a step is 5 ms of time (the model's choice, log 4): every offer wait, the probe wait and
the time left of the epoch drop by one and stop at 0, and nothing else changes but the two runs of the line and the
counter of the free values. R144 counts both runs at each bit time of SETTLING and ONLINE; what the bits of that time
are, where the line is not idle, is free below the limits that rows of their own tell (log 28). -/
def Obligations.EmptyQueueLetsFiveMillisecondsPass : Prop :=
  (∀ (s : State), s.pending = [] →
     ∃ t, step s = .next t ∧ t.directory = { s.directory with records := t.directory.records }
     ∧ t.directory.records = s.directory.records.map
         (fun r => { r with offer := r.offer.map (fun o => { o with wait := o.wait - 1 }) })
     ∧ t.prober.sweep = s.prober.sweep ∧ t.prober.context = s.prober.context.map ProbeContext.oneUnitLater
     ∧ t.clock.taken = s.clock.taken ∧ t.clock.epoch = s.clock.epoch.map (fun e => { e with left := e.left - 1 })
     ∧ t = { s with directory := t.directory, prober := t.prober, clock := t.clock, chance := t.chance,
                    line := { s.line with recessiveRun := t.line.recessiveRun, dominantRun := t.line.dominantRun } })
  ∧ (∀ (s : State), s.pending = [] → (s.line.state = .disabled ∨ s.line.state = .fault) →
       ∃ t, step s = .next t ∧ t.line = s.line ∧ t.chance = s.chance)
  ∧ (∀ (s : State), s.pending = [] → s.line.state = .settling →
       ∃ t, step s = .next t ∧ ((1 ≤ t.line.recessiveRun ∧ t.line.recessiveRun ≤ 23 ∧ t.line.dominantRun = 0)
                                  ∨ (t.line.recessiveRun = 0 ∧ 1 ≤ t.line.dominantRun ∧ t.line.dominantRun ≤ 47)))
  ∧ (∀ (s : State), s.pending = [] → s.line.state = .online → s.line.phase = .idle → s.line.bitRate ≤ 3 →
       ∃ t, step s = .next t ∧ t.line.dominantRun = 0
       ∧ s.line.recessiveRun + 5000 / (16 / 2 ^ s.line.bitRate) ≤ t.line.recessiveRun
       ∧ t.line.recessiveRun ≤ s.line.recessiveRun +
           (if s.line.bitRate = 0 then 313 else 5000 / (16 / 2 ^ s.line.bitRate)))
  ∧ (∀ (s : State), s.pending = [] → s.line.state = .online →
         (s.line.phase = .receiving ∨ s.line.phase = .receivingDirectory ∨ s.line.phase = .receivingOther) →
       ∃ t, step s = .next t ∧ ((1 ≤ t.line.recessiveRun ∧ t.line.recessiveRun ≤ 7 ∧ t.line.dominantRun = 0)
                                  ∨ (t.line.recessiveRun = 0 ∧ 1 ≤ t.line.dominantRun ∧ t.line.dominantRun ≤ 7)))
  ∧ (∀ (s : State), s.pending = [] → s.line.state = .online → s.line.phase = .afterFrame →
       ∃ t, step s = .next t ∧ ((1 ≤ t.line.recessiveRun ∧ t.line.recessiveRun ≤ 2 ∧ t.line.dominantRun = 0)
                                  ∨ (t.line.recessiveRun = 0 ∧ 1 ≤ t.line.dominantRun ∧ t.line.dominantRun ≤ 47)))
  ∧ (∀ (s : State), s.pending = [] → s.line.state = .online → s.line.phase = .stopped →
       ∃ t, step s = .next t ∧ ((1 ≤ t.line.recessiveRun ∧ t.line.recessiveRun ≤ 13 ∧ t.line.dominantRun = 0)
                                  ∨ (t.line.recessiveRun = 0 ∧ 1 ≤ t.line.dominantRun ∧ t.line.dominantRun ≤ 47)))
  ∧ (∀ (s : State) (pre : List TxEntry) (e : TxEntry) (post : List TxEntry), s.pending = [] →
         s.line.state = .online → s.line.phase = .transmitting → s.queue.entries = pre ++ e :: post →
         e.sending = true → (∀ x ∈ pre ++ post, x.sending = false) →
       ∃ t, step s = .next t ∧ (∃ k ∈ List.range (e.frame.checkedBits e.check).length,
                                (t.line.recessiveRun, t.line.dominantRun) =
                                  runsOver true 0 ((e.frame.checkedBits e.check).take (k + 1))))

/-- State.reset obeys every law of Safety.lean. -/
def Obligations.ResetStateObeysEveryLaw : Prop :=
  State.reset.Sound

/-- PART_RESET from any state: every block's part-reset value, whatever stood before; the rate, the line state, the
autostart and the termination from the straps. That no LINE cause is pending afterwards is log 2. -/
def Obligations.PartResetLeavesThePartResetValues : Prop :=
  ∀ (s : State) (f g a e : Bool),
    ∃ t, exec (.partReset f g a e) s = .next t ∧
      t.directory = { records := [], marks := [], lapseList := [], pacing := [] }
        ∧ t.pool = { free := List.range' 1 239, quarantine := [] }
        ∧ t.census = { mode := .serving, window := 0, autostart := a }
        ∧ t.prober = { context := none, sweep := none }
        ∧ t.groups = List.replicate 32 { mode := .opened, members := [] }
        ∧ t.line = { state := if a then .settling else .disabled, phase := .idle, recessiveRun := 0,
                     dominantRun := 0, bitRate := 2 * f.toNat + g.toNat, segmentEnd := e,
                     termination := if a && e then .high else .openCircuit, foreign := false, acknowledged := false }
        ∧ t.queue = { entries := [], setAside := 0, waiting := none } ∧ t.clock.epoch = none
        ∧ t.params = { epochPeriod := 10, maximumTerm := 3600, defaultTerm := 600, quarantineHold := 30,
                       offerWait := 50, probeWait := 20, probeAttempts := 3, sendAttempts := 3, censusWindow := 10,
                       disputePolicy := .revoke, disputeHold := 0, passiveRenewal := false, joinGate := .opened,
                       park := .high, pass := .low, receive := .low, drive := .openCircuit }
        ∧ t.port = { parameters := List.replicate 8 0, code := 0, state := .ready, error := false, collide := false,
                     outcome := .ok, latched := 0, enables := 0, pointer := 0, buffer := List.replicate 256 0,
                     dataOut := 0 }
        ∧ t.pending = s.pending

/-- R24: the law of the pool is kept by every step. -/
def Obligations.AddressesStayInExactlyOnePlace : Prop :=
  ∀ (s t : State), s.Placed → step s = .next t →
    t.Placed

/-- R4, kept by every step. -/
def Obligations.RecordedIdentitiesStayValidAndDistinct : Prop :=
  ∀ (s t : State), s.Placed → s.Identified → step s = .next t →
    t.Identified

/-- R1, R2 and R13, kept by every step while the parameters and the probe context are in range. -/
def Obligations.RecordsKeepTheFieldsOfTheirState : Prop :=
  ∀ (s t : State), s.Shaped → s.Ranged → s.Probing → step s = .next t →
    t.Shaped

/-- R5, kept by every step. -/
def Obligations.RecordCountsStayWithinTheLimits : Prop :=
  ∀ (s t : State), s.Placed → s.WithinLimits → step s = .next t →
    t.WithinLimits

/-- R21, kept by every step. -/
def Obligations.LapseListStaysExact : Prop :=
  ∀ (s t : State), s.Placed → s.LapseListed → step s = .next t →
    t.LapseListed

/-- R18: REMOVED marks only addresses held by no record, the others only addresses held by one; kept by every step. -/
def Obligations.MarksStayTrueOfTheRecords : Prop :=
  ∀ (s t : State), s.Placed → s.Grouped → s.Marked → step s = .next t →
    t.Marked

/-- R132 and R133, kept by every step. -/
def Obligations.MemberListsStayBoundedAndHeld : Prop :=
  ∀ (s t : State), s.Placed → s.Grouped → step s = .next t →
    t.Grouped

/-- R150, R151 and R173, kept by every step. -/
def Obligations.TransmitQueueStaysWithinItsPlaces : Prop :=
  ∀ (s t : State), s.Queued → s.Ranged → s.Lined → step s = .next t →
    t.Queued

/-- R159, R161, R150 and R91, kept by every step of a queue that obeys R150 (kept in its turn, O12). -/
def Obligations.ReportsStayTiedToTheirOperations : Prop :=
  ∀ (s t : State), s.CommandAwaits → s.ProbeAwaits → s.Queued → step s = .next t →
    t.CommandAwaits ∧ t.ProbeAwaits

/-- R176, R38, R118 and R119, kept by every step. -/
def Obligations.ParametersClockAndModeStayInLaw : Prop :=
  ∀ (s t : State), s.Ranged → s.Timed → step s = .next t →
    t.Ranged ∧ t.Timed

/-- R143, R146, R155, R52, R157, R158, R160 and R174, kept by every step of a queue that obeys R150 (kept in its turn,
O12). -/
def Obligations.LineAndPortStayInForm : Prop :=
  ∀ (s t : State), s.Lined → s.Paced → s.Ported → s.Queued → step s = .next t →
    t.Lined ∧ t.Paced ∧ t.Ported

/-- R88, R101 and R103, kept by every step. -/
def Obligations.ProberStaysInForm : Prop :=
  ∀ (s t : State), s.Placed → s.Identified → s.Shaped → s.Ranged → s.Probing → step s = .next t →
    t.Probing

/-- R56 to R61: a JOIN from an identity with no record is offered the address the pool chooses; one whose identity is
recorded is offered its own record's address, or has its offer re-sent. -/
def Obligations.JoinOffersTheChosenOrItsOwnAddress : Prop :=
  (∀ (s : State) (p : BitVec 2) (i : Identity) (h : Byte) (term : Half) (a : Nat), s.Receives → s.HasReplyRoom →
       validIdentity i = true → s.census.mode = .serving → s.params.joinGate = .opened → s.Placed →
       s.recordOf i = none → s.directory.records.length < 192 → s.countIn .offered < 4 →
       s.chooseAddress h.toNat i = some a →
     ∃ t, exec (.join p i h term) s = .next t ∧
       s.Creates t { address := a, identity := i, state := .offered, pinned := false, term := 0, granted := none,
                     quiet := 0, attempts := 0, rival := none, offer :=
                       some { origin := .new, term := s.grantTerm term.toNat, wait := s.params.offerWait },
                     hold := none }
         ∧ t.pool = s.poolTaken a
         ∧ t.queue = s.joinAnswered (offerFrame i a (s.grantTerm term.toNat) s.params.epochPeriod)
         ∧ t = { s with directory := t.directory, pool := t.pool, queue := t.queue, line := t.line }
         ∧ s.LineAfter 254 true t.line)
  ∧ (∀ (s : State) (p : BitVec 2) (i : Identity) (h : Byte) (term : Half) (r : Record), s.Receives → s.HasReplyRoom →
         validIdentity i = true → s.census.mode = .serving → s.params.joinGate = .opened → s.Placed →
         s.recordOf i = some r → (r.state = .reserved ∨ r.state = .bound ∨ r.state = .lapsed) →
         s.countIn .offered < 4 →
       ∃ t, exec (.join p i h term) s = .next t ∧
         s.Alters t { r with state := .offered, attempts := 0,
                             offer := some { origin := if r.state = .reserved then .reserved else .rebind,
                                             term := s.grantTerm term.toNat, wait := s.params.offerWait } }
           ∧ t.queue = s.joinAnswered (offerFrame i r.address (s.grantTerm term.toNat) s.params.epochPeriod)
           ∧ t = { s with directory := t.directory, queue := t.queue, line := t.line }
           ∧ s.LineAfter 254 true t.line)
  ∧ (∀ (s : State) (p : BitVec 2) (i : Identity) (h : Byte) (term : Half) (r : Record) (o : OfferContext),
         s.Receives → s.HasReplyRoom → validIdentity i = true → s.census.mode = .serving →
         s.params.joinGate = .opened → s.Placed → s.recordOf i = some r → r.state = .offered → r.offer = some o →
       ∃ t, exec (.join p i h term) s = .next t ∧
         t.directory = { s.directory with records := replaceRecord { r with
                                                                       offer := some { o with wait :=
                                                                                                s.params.offerWait }
                                                                         } s.directory.records }
           ∧ t.queue = s.joinAnswered (offerFrame i r.address o.term s.params.epochPeriod)
           ∧ t = { s with directory := t.directory, queue := t.queue, line := t.line }
           ∧ s.LineAfter 254 true t.line)
  ∧ (∀ (s : State) (i : Identity) (h : Nat), s.Placed →
       (h ∈ s.pool.free → s.chooseAddress h i = some h)
         ∧ ((∃ q ∈ s.pool.quarantine, q.address = h ∧ q.lastIdentity = i) → s.chooseAddress h i = some h)
         ∧ (h ∉ s.pool.free → (¬ ∃ q ∈ s.pool.quarantine, q.address = h ∧ q.lastIdentity = i) →
              s.chooseAddress h i = s.pool.free.head?)
         ∧ (∀ a ∈ s.chooseAddress h i, a ∉ s.addresses ∧ leasable a = true))

/-- R56, R57, R58, R62: a JOIN that cannot be offered is answered with the first reason that holds, and its one other
effect is the POOL cause for FULL and POOL_EMPTY. -/
def Obligations.JoinIsRefusedForTheFirstReasonThatHolds : Prop :=
  ∀ (s : State) (p : BitVec 2) (i : Identity) (h : Byte) (term : Half) (q : RefusalReason), s.Receives →
      s.HasReplyRoom → validIdentity i = true → s.joinRefusal i h.toNat = some q →
    ∃ t, exec (.join p i h term) s = .next t ∧
      t.queue = s.joinAnswered (joinRefusedFrame i q)
        ∧ t.port = (if q = .full ∨ q = .poolEmpty then s.port.withCause .pool else s.port)
        ∧ t = { s with queue := t.queue, port := t.port, line := t.line } ∧ s.LineAfter 254 true t.line

/-- R63, R64 and R65. -/
def Obligations.AcceptBindsItsOfferOrEarnsARevoke : Prop :=
  (∀ (s : State) (p : BitVec 2) (a : Byte) (i : Identity) (r : Record) (o : OfferContext), s.Receives → s.Placed →
       s.LapseListed → leasable a.toNat = true → validIdentity i = true → s.recordAt a.toNat = some r →
       r.state = .offered → r.identity = i → r.offer = some o →
     ∃ t, exec (.accept p a i) s = .next t ∧
       t.directory.records = s.directory.records.map
           (fun q => if q.address = a.toNat then r.boundWith o.term 0 else if q.state = .disputed
              ∧ q.rival = some i then q.boundWith (s.grantedOf q) 0 else q)
         ∧ t.directory.lapseList = s.directory.lapseList ∧ t.directory.pacing = s.directory.pacing
         ∧ (∀ b : Nat, t.markOf b = if b = a.toNat ∨ s.directory.records.any
              (fun q => q.address == b && q.state == .disputed && q.rival == some i) = true
              then Mark.move .altered (s.markOf b) else s.markOf b)
         ∧ t = { s with directory := t.directory, line := t.line } ∧ s.LineAfter 254 true t.line)
  ∧ (∀ (s : State) (p : BitVec 2) (a : Byte) (i : Identity) (u : State), s.Receives → leasable a.toNat = true →
         validIdentity i = true → (s.recordAt a.toNat).all (fun r => r.state != .offered || r.identity != i) = true →
         s.Placed → u = s.heardState a.toNat false 0 →
       ∃ t, exec (.accept p a i) s = .next t ∧
         t = { u with queue := u.claimed .joinUnit (targetedRevoke a.toNat i) 0, line := t.line }
           ∧ s.LineAfter 254 true t.line)

/-- R66: what an offer's expiry does by origin. -/
def Obligations.OfferExpiryFollowsItsOrigin : Prop :=
  (∀ (s : State) (a : Byte) (r : Record) (o : OfferContext), s.recordAt a.toNat = some r → r.state = .offered →
       r.offer = some o → o.origin = .new →
     ∃ t, exec (.offerWaitExpiry a) s = .next t ∧
       s.Ends t a.toNat { s.pool with free := a.toNat :: s.pool.free } (Mark.move .removed (s.markOf a.toNat))
         ∧ t = { s with directory := t.directory, pool := t.pool, groups := t.groups })
  ∧ (∀ (s : State) (a : Byte) (r : Record) (o : OfferContext), s.Placed → s.LapseListed →
         s.recordAt a.toNat = some r → r.state = .offered → r.offer = some o → o.origin = .reserved →
       ∃ t, exec (.offerWaitExpiry a) s = .next t ∧
         s.Alters t { r with state := .reserved, term := 0, attempts := 0, offer := none }
           ∧ t = { s with directory := t.directory })
  ∧ (∀ (s : State) (a : Byte) (r : Record) (o : OfferContext), s.Placed → s.LapseListed →
         s.recordAt a.toNat = some r → r.state = .offered → r.offer = some o → o.origin = .rebind →
         r.pinned = false →
       ∃ t, exec (.offerWaitExpiry a) s = .next t ∧
         t.directory.records = replaceRecord r.lapsedNow s.directory.records
           ∧ t.directory.lapseList = (if s.isTarget r then s.directory.lapseList else s.directory.lapseList
                                        ++ [a.toNat])
           ∧ t.directory.pacing = s.directory.pacing
           ∧ s.MarkOnly t a.toNat (Mark.move .altered (s.markOf a.toNat))
           ∧ t = { s with directory := t.directory })
  ∧ (∀ (s : State) (a : Byte) (r : Record) (o : OfferContext), s.Placed → s.recordAt a.toNat = some r →
         r.state = .offered → r.offer = some o → o.origin = .rebind → r.pinned = true →
       ∃ t, exec (.offerWaitExpiry a) s = .next t ∧
         s.Alters t (r.boundWith (s.grantedOf r) r.quiet) ∧ t = { s with directory := t.directory })

/-- R73 and R74: a RENEW by the recorded identity of a BOUND or LAPSED record. -/
def Obligations.RenewGrantsItsRecordTheTerm : Prop :=
  (∀ (s : State) (p : BitVec 2) (a : Byte) (i : Identity) (term : Half) (r : Record), s.Receives → s.HasReplyRoom →
       leasable a.toNat = true → validIdentity i = true → s.recordAt a.toNat = some r → r.identity = i →
       r.state = .bound →
     ∃ t, exec (.renew p a i term) s = .next t ∧
       t.directory = { s.directory with records := replaceRecord { r with term := s.grantTerm term.toNat,
                                                                          granted := some (s.grantTerm term.toNat),
                                                                          quiet := 0, attempts := 0 }
                                          s.directory.records }
         ∧ t.queue = s.replied (renewReply a.toNat .ok (s.grantTerm term.toNat))
         ∧ t = { s with directory := t.directory, queue := t.queue, line := t.line } ∧ s.LineAfter 254 true t.line)
  ∧ (∀ (s : State) (p : BitVec 2) (a : Byte) (i : Identity) (term : Half) (r : Record), s.Receives → s.HasReplyRoom →
         leasable a.toNat = true → validIdentity i = true → s.recordAt a.toNat = some r → r.identity = i →
         r.state = .lapsed →
       ∃ t, exec (.renew p a i term) s = .next t ∧
         s.Alters t (r.boundWith (s.grantTerm term.toNat) 0)
           ∧ t.queue = s.replied (renewReply a.toNat .ok (s.grantTerm term.toNat))
           ∧ t = { s with directory := t.directory, queue := t.queue, line := t.line }
           ∧ s.LineAfter 254 true t.line)
  ∧ (∀ (s : State) (n : Nat),
       s.grantTerm n = min (if n = 0 then s.params.defaultTerm else n) s.params.maximumTerm)

/-- R73's rows without a grant, and the dispute a RENEW raises under each policy, R75, R108 to R110. The place set
aside for the reply is not the REVOKE's (R72). -/
def Obligations.RenewWithoutAGrantIsAnsweredByTheRecord : Prop :=
  (∀ (s : State) (p : BitVec 2) (a : Byte) (i : Identity) (term : Half) (u : State), s.Receives → s.HasReplyRoom →
       leasable a.toNat = true → validIdentity i = true → s.Placed → u = s.heardState a.toNat false 1 →
       s.renewOutcome a.toNat i ≠ .ok →
       (s.renewOutcome a.toNat i ≠ .disputed ∨ (s.recordAt a.toNat).any
          (fun r => r.state == .disputed && (r.identity == i || r.rival.isSome)) = true) →
     ∃ t, exec (.renew p a i term) s = .next t ∧
       t = { u with queue := u.replied (renewReply a.toNat (s.renewOutcome a.toNat i) 0), line := t.line }
         ∧ s.LineAfter 254 true t.line)
  ∧ (∀ (s : State) (p : BitVec 2) (a : Byte) (i : Identity) (term : Half) (r : Record), s.Receives → s.HasReplyRoom →
         leasable a.toNat = true → validIdentity i = true → s.recordAt a.toNat = some r → r.state = .disputed →
         r.identity ≠ i → r.rival = none →
       ∃ t, exec (.renew p a i term) s = .next t ∧
         t.directory = { s.directory with records := replaceRecord { r with rival := some i,
                                                                            quiet := 0 } s.directory.records,
                                          marks := t.directory.marks }
           ∧ s.MarkOnly t a.toNat (Mark.move .altered (s.markOf a.toNat))
           ∧ t.queue = s.replied (renewReply a.toNat .disputed 0)
           ∧ t = { s with directory := t.directory, queue := t.queue, line := t.line }
           ∧ s.LineAfter 254 true t.line)
  ∧ (∀ (s : State) (p : BitVec 2) (a : Byte) (i : Identity) (term : Half) (r : Record), s.Receives → s.HasReplyRoom →
         leasable a.toNat = true → validIdentity i = true → s.recordAt a.toNat = some r →
         (r.state = .bound ∨ r.state = .lapsed) → r.identity ≠ i → s.params.disputePolicy = .hold →
       ∃ t, exec (.renew p a i term) s = .next t ∧
         s.Alters t (s.disputedRecord { r with quiet := 0 } (some i)) ∧ t.port = s.port.withCause .dispute
           ∧ t.queue = s.replied (renewReply a.toNat .disputed 0)
           ∧ t = { s with directory := t.directory, port := t.port, queue := t.queue, line := t.line }
           ∧ s.LineAfter 254 true t.line)
  ∧ (∀ (s : State) (p : BitVec 2) (a : Byte) (i : Identity) (term : Half) (r : Record), s.Receives → s.HasReplyRoom →
         leasable a.toNat = true → validIdentity i = true → s.recordAt a.toNat = some r →
         (r.state = .bound ∨ r.state = .lapsed) → r.identity ≠ i → s.params.disputePolicy = .revoke →
       ∃ t, exec (.renew p a i term) s = .next t ∧
         s.Ends t a.toNat (s.poolRetired r) (Mark.move .removed (Mark.move .altered (s.markOf a.toNat)))
           ∧ t.queue.entries = (s.claimed .dispute (untargetedRevoke a.toNat) 1).entries
               ++ [s.entryOf .reply .reply (renewReply a.toNat .disputed 0)]
           ∧ t.queue = { s.queue with entries := t.queue.entries }
           ∧ t = { s with directory := t.directory, pool := t.pool, groups := t.groups, queue := t.queue,
                          line := t.line }
           ∧ s.LineAfter 254 true t.line)

/-- R76 and R14. -/
def Obligations.LeaveRetiresTheRecordOfItsSender : Prop :=
  (∀ (s : State) (p : BitVec 2) (a : Byte) (i : Identity) (r : Record), s.Receives → leasable a.toNat = true →
       validIdentity i = true → s.recordAt a.toNat = some r → r.identity = i →
       (r.state = .bound ∨ r.state = .lapsed ∨ r.state = .disputed) →
     ∃ t, exec (.leave p a i) s = .next t ∧
       s.Ends t a.toNat (s.poolRetired r) (Mark.move .removed (s.markOf a.toNat))
         ∧ t = { s with directory := t.directory, pool := t.pool, groups := t.groups, line := t.line }
         ∧ s.LineAfter 254 true t.line)
  ∧ (∀ (s : State) (p : BitVec 2) (a : Byte) (i : Identity) (u : State), s.Receives → leasable a.toNat = true →
         validIdentity i = true →
         (s.recordAt a.toNat).all (fun r => r.identity != i || r.state == .offered || r.state == .reserved) = true →
         s.Placed → u = s.heardState a.toNat false 0 →
       ∃ t, exec (.leave p a i) s = .next t ∧
         t = { u with line := t.line } ∧ s.LineAfter 254 true t.line)

/-- R77, R78 and R79: the answer is worked out on the state that the request's heard event leaves. -/
def Obligations.ResolutionIsAnsweredFromTheIndexes : Prop :=
  (∀ (s : State) (p : BitVec 2) (a : Byte) (i : Identity) (u : State), s.Receives → s.HasReplyRoom →
       (leasable a.toNat = true ∨ fixedAddress a.toNat = true) → validIdentity i = true → s.Placed →
       u = s.heardState a.toNat s.params.passiveRenewal 1 →
     ∃ t, exec (.resolveIdentity p a i) s = .next t ∧
       t = { u with line := t.line, queue := u.replied (resolvedReply a.toNat (u.recordOf i) 0 i) }
         ∧ s.LineAfter 254 true t.line)
  ∧ (∀ (s : State) (p : BitVec 2) (a b : Byte) (u : State), s.Receives → s.HasReplyRoom →
         (leasable a.toNat = true ∨ fixedAddress a.toNat = true) → s.Placed →
         u = s.heardState a.toNat s.params.passiveRenewal 1 →
       ∃ t, exec (.resolveAddress p a b) s = .next t ∧
         t = { u with line := t.line, queue := u.replied (resolvedReply a.toNat (u.recordAt b.toNat) b.toNat 0) }
           ∧ s.LineAfter 254 true t.line)

/-- R107 and R108 to R110. -/
def Obligations.ClashReportIsEvidence : Prop :=
  (∀ (s : State) (p : BitVec 2) (a : Byte) (i : Identity) (r : Record), s.Receives → leasable a.toNat = true →
       validIdentity i = true → s.recordAt a.toNat = some r → (r.state = .bound ∨ r.state = .lapsed) →
       s.params.disputePolicy = .hold →
     ∃ t, exec (.clashReport p a i) s = .next t ∧
       s.Alters t (s.disputedRecord { r with quiet := 0 } (if r.identity = i then none else some i))
         ∧ t.port = s.port.withCause .dispute
         ∧ t = { s with directory := t.directory, port := t.port, line := t.line } ∧ s.LineAfter 254 true t.line)
  ∧ (∀ (s : State) (p : BitVec 2) (a : Byte) (i : Identity) (r : Record), s.Receives → leasable a.toNat = true →
         validIdentity i = true → s.recordAt a.toNat = some r → (r.state = .bound ∨ r.state = .lapsed) →
         s.params.disputePolicy = .revoke →
       ∃ t, exec (.clashReport p a i) s = .next t ∧
         s.Ends t a.toNat (s.poolRetired r) (Mark.move .removed (Mark.move .altered (s.markOf a.toNat)))
           ∧ t.queue = s.claimed .dispute (untargetedRevoke a.toNat) 0
           ∧ t = { s with directory := t.directory, pool := t.pool, groups := t.groups, queue := t.queue,
                          line := t.line }
           ∧ s.LineAfter 254 true t.line)
  ∧ (∀ (s : State) (p : BitVec 2) (a : Byte) (i : Identity) (u : State), s.Receives → leasable a.toNat = true →
         validIdentity i = true →
         (s.recordAt a.toNat).all (fun r => r.state == .reserved || r.state == .offered ||
                                     (r.state == .disputed && (r.identity == i || r.rival.isSome))) = true →
         s.Placed → u = s.heardState a.toNat false 0 →
       ∃ t, exec (.clashReport p a i) s = .next t ∧
         t = { u with line := t.line } ∧ s.LineAfter 254 true t.line)
  ∧ (∀ (s : State) (p : BitVec 2) (a : Byte) (i : Identity) (r : Record), s.Receives → leasable a.toNat = true →
         validIdentity i = true → s.recordAt a.toNat = some r → r.state = .disputed → r.identity ≠ i →
         r.rival = none →
       ∃ t, exec (.clashReport p a i) s = .next t ∧
         t.directory = { s.directory with records := replaceRecord { r with rival := some i,
                                                                            quiet := 0 } s.directory.records,
                                          marks := t.directory.marks }
           ∧ s.MarkOnly t a.toNat (Mark.move .altered (s.markOf a.toNat))
           ∧ t = { s with directory := t.directory, line := t.line } ∧ s.LineAfter 254 true t.line)

/-- R92, R94, R95, R97 and R98. -/
def Obligations.ProbeReplyEndsTheAttempt : Prop :=
  (∀ (s : State) (p : BitVec 2) (a : Byte) (i : Identity) (r : Record) (c : ProbeContext), s.Receives →
       leasable a.toNat = true → validIdentity i = true → s.prober.context = some c → c.target = a.toNat →
       s.recordAt a.toNat = some r → r.identity = c.identity → r.identity = i → r.state = .lapsed → c.kind = .lapse →
     ∃ t, exec (.probeReply p a i) s = .next t ∧
       s.Alters t (r.boundWith (s.grantedOf r) 0) ∧ t.prober = { s.prober with context := none }
         ∧ t.queue = s.detached
         ∧ t = { s with directory := t.directory, prober := t.prober, queue := t.queue, line := t.line }
         ∧ s.LineAfter 254 true t.line)
  ∧ (∀ (s : State) (p : BitVec 2) (a : Byte) (i : Identity) (r : Record) (c : ProbeContext), s.Receives →
         leasable a.toNat = true → validIdentity i = true → s.prober.context = some c → c.target = a.toNat →
         s.recordAt a.toNat = some r → r.identity = c.identity → r.identity = i → r.state = .bound →
         c.kind = .sweep →
       ∃ t, exec (.probeReply p a i) s = .next t ∧
         t.directory = { s.directory with records := replaceRecord { r with term := s.grantedOf r,
                                                                            granted := some (s.grantedOf r),
                                                                            quiet := 0 } s.directory.records }
           ∧ t.prober = { s.prober with context := none } ∧ t.queue = s.detached
           ∧ t = { s with directory := t.directory, prober := t.prober, queue := t.queue, line := t.line }
           ∧ s.LineAfter 254 true t.line)
  ∧ (∀ (s : State) (p : BitVec 2) (a : Byte) (i : Identity) (r : Record) (c : ProbeContext), s.Receives →
         leasable a.toNat = true → validIdentity i = true → s.prober.context = some c → c.target = a.toNat →
         s.recordAt a.toNat = some r → r.identity = c.identity → r.identity ≠ i → r.state = c.kind.expected →
         s.params.disputePolicy = .hold →
       ∃ t, exec (.probeReply p a i) s = .next t ∧
         s.Alters t (s.disputedRecord { r with quiet := 0 } (some i)) ∧ t.port = s.port.withCause .dispute
           ∧ t.prober = { s.prober with context := none } ∧ t.queue = s.detached
           ∧ t = { s with directory := t.directory, prober := t.prober, port := t.port, queue := t.queue,
                          line := t.line }
           ∧ s.LineAfter 254 true t.line)
  ∧ (∀ (s : State) (p : BitVec 2) (a : Byte) (i : Identity) (c : ProbeContext) (u : State), s.Receives →
         leasable a.toNat = true → validIdentity i = true → s.prober.context = some c → c.target = a.toNat →
         (s.recordAt a.toNat).all (fun r => (r.identity != c.identity || r.state != c.kind.expected) &&
                                     (r.identity != c.identity || r.state != .lapsed)) = true →
         s.Placed → u = s.heardState a.toNat false 0 →
       ∃ t, exec (.probeReply p a i) s = .next t ∧
         t = { u with prober := { s.prober with context := none }, queue := u.detached, line := t.line }
           ∧ s.LineAfter 254 true t.line)
  ∧ (∀ (s : State) (p : BitVec 2) (a : Byte) (i : Identity) (r : Record) (c : ProbeContext) (u : State), s.Receives →
         leasable a.toNat = true → validIdentity i = true → s.prober.context = some c → c.target = a.toNat →
         s.recordAt a.toNat = some r → r.identity = c.identity → r.state = .lapsed → c.kind = .sweep → s.Placed →
         u = s.heardState a.toNat false 0 →
       ∃ t, exec (.probeReply p a i) s = .next t ∧
         t = { u with directory := { u.directory with lapseList := s.directory.lapseList ++ [a.toNat] },
                      prober := { s.prober with context := none }, queue := u.detached, line := t.line }
           ∧ s.LineAfter 254 true t.line)
  ∧ (∀ (s : State) (p : BitVec 2) (a : Byte) (i : Identity) (u : State), s.Receives → leasable a.toNat = true →
         validIdentity i = true → s.prober.context.all (fun c => c.target != a.toNat) = true → s.Placed →
         u = s.heardState a.toNat false 0 →
       ∃ t, exec (.probeReply p a i) s = .next t ∧
         t = { u with line := t.line } ∧ s.LineAfter 254 true t.line)
  ∧ (∀ (s : State) (p : BitVec 2) (a : Byte) (i : Identity) (r : Record) (c : ProbeContext), s.Receives →
         leasable a.toNat = true → validIdentity i = true → s.prober.context = some c → c.target = a.toNat →
         s.recordAt a.toNat = some r → r.identity = c.identity → r.identity ≠ i → r.state = c.kind.expected →
         s.params.disputePolicy = .revoke →
       ∃ t, exec (.probeReply p a i) s = .next t ∧
         s.Ends t a.toNat (s.poolRetired r) (Mark.move .removed (Mark.move .altered (s.markOf a.toNat)))
           ∧ t.prober = { s.prober with context := none }
           ∧ t.queue = State.claimed { s with queue := s.detached } .dispute (untargetedRevoke a.toNat) 0
           ∧ t = { s with directory := t.directory, pool := t.pool, groups := t.groups, prober := t.prober,
                          queue := t.queue, line := t.line }
           ∧ s.LineAfter 254 true t.line)

/-- R93, and what the outcome does, R94, R96, R97 and R98. That the row changes nothing while no probe wait runs is
the model's choice (log 3). -/
def Obligations.ProbeWithoutAnswerCountsLapsesOrRetires : Prop :=
  (∀ (s : State) (c : ProbeContext) (w : Nat) (r : Record), s.prober.context = some c → c.phase = .waiting w →
       s.recordAt c.target = some r → r.identity = c.identity → r.state = .lapsed → c.kind = .lapse →
       c.attempt < s.params.probeAttempts →
     ∃ t, exec .probeWaitExpiry s = .next t ∧
       t.directory = { s.directory with records := replaceRecord { r with attempts := c.attempt }
                                          s.directory.records, lapseList := s.directory.lapseList ++ [r.address] }
         ∧ t.prober = { s.prober with context := none } ∧ t.queue = s.detached
         ∧ t = { s with directory := t.directory, prober := t.prober, queue := t.queue })
  ∧ (∀ (s : State) (c : ProbeContext) (w : Nat) (r : Record), s.prober.context = some c → c.phase = .waiting w →
         s.recordAt c.target = some r → r.identity = c.identity → r.state = .lapsed → c.kind = .lapse →
         s.params.probeAttempts ≤ c.attempt →
       ∃ t, exec .probeWaitExpiry s = .next t ∧
         s.Ends t r.address (s.poolRetired r) (Mark.move .removed (s.markOf r.address))
           ∧ t.prober = { s.prober with context := none } ∧ t.queue = s.detached
           ∧ t = { s with directory := t.directory, pool := t.pool, groups := t.groups, prober := t.prober,
                          queue := t.queue })
  ∧ (∀ (s : State) (c : ProbeContext) (w : Nat) (r : Record), s.prober.context = some c → c.phase = .waiting w →
         s.recordAt c.target = some r → r.identity = c.identity → r.state = .bound → r.pinned = false →
         c.kind = .sweep →
       ∃ t, exec .probeWaitExpiry s = .next t ∧
         t.directory.records = replaceRecord r.lapsedNow s.directory.records
           ∧ t.directory.lapseList = s.directory.lapseList ++ [r.address]
           ∧ t.directory.pacing = s.directory.pacing
           ∧ s.MarkOnly t r.address (Mark.move .altered (s.markOf r.address))
           ∧ t.prober = { s.prober with context := none } ∧ t.queue = s.detached
           ∧ t = { s with directory := t.directory, prober := t.prober, queue := t.queue })
  ∧ (∀ (s : State) (c : ProbeContext) (w : Nat), s.prober.context = some c → c.phase = .waiting w →
         (s.recordAt c.target).all (fun r => r.identity != c.identity ||
                                      (r.state != c.kind.expected && r.state != .lapsed) ||
                                      (c.kind == .sweep && r.pinned && r.state == .bound)) = true →
       ∃ t, exec .probeWaitExpiry s = .next t ∧
         t.prober = { s.prober with context := none } ∧ t.queue = s.detached
           ∧ t = { s with prober := t.prober, queue := t.queue })
  ∧ (∀ (s : State) (c : ProbeContext) (w : Nat) (r : Record), s.prober.context = some c → c.phase = .waiting w →
         s.recordAt c.target = some r → r.identity = c.identity → r.state = .lapsed → c.kind = .sweep →
       ∃ t, exec .probeWaitExpiry s = .next t ∧
         t.directory = { s.directory with lapseList := s.directory.lapseList ++ [r.address] }
           ∧ t.prober = { s.prober with context := none } ∧ t.queue = s.detached
           ∧ t = { s with directory := t.directory, prober := t.prober, queue := t.queue })
  ∧ (∀ (s : State), s.prober.context.all (fun c => c.phase == .queued) = true →
       exec .probeWaitExpiry s = .next s)

/-- R90, R101, R102, R103 and R104. That the row changes nothing where the Prober has nothing to choose is log 3. -/
def Obligations.ProberChoosesLapsedFirstThenSweeps : Prop :=
  (∀ (s : State) (r : Record) (rest : List Nat), s.prober.context = none → s.line.state = .online →
       s.hasFreeEntry = true → s.LapseListed → s.directory.lapseList = r.address :: rest →
       s.recordAt r.address = some r →
     exec .probeChoose s = .next { s with directory := { s.directory with lapseList := rest },
                                          prober := { s.prober with context := some { target := r.address,
                                                                                      identity := r.identity,
                                                                                      kind := .lapse,
                                                                                      attempt := r.attempts + 1,
                                                                                      phase := .queued } },
                                          queue := s.queueWith (s.entryOf .directory (.prober true)
                                                                  (probeFrame r.address)) })
  ∧ (∀ (s : State) (w : Sweep) (r : Record), s.prober.context = none → s.line.state = .online →
         s.hasFreeEntry = true → s.Placed → s.directory.lapseList = [] → s.prober.sweep = some w →
         w.scanning = true → s.census.mode = .serving → r ∈ s.directory.records → w.candidate r = true →
         (∀ q ∈ s.directory.records, w.candidate q = true → r.address ≤ q.address) →
       exec .probeChoose s = .next { s with prober :=
                                              { context := some { target := r.address, identity := r.identity,
                                                                  kind := .sweep, attempt := 1, phase := .queued },
                                                sweep := some { w with cursor := r.address + 1 } },
                                            queue := s.queueWith (s.entryOf .directory (.prober true)
                                                                    (probeFrame r.address)) })
  ∧ (∀ (s : State) (w : Sweep), s.prober.context = none → s.line.state = .online → s.hasFreeEntry = true →
         s.directory.lapseList = [] → s.prober.sweep = some w → w.scanning = true → s.census.mode = .serving →
         (∀ q ∈ s.directory.records, w.candidate q = false) →
       exec .probeChoose s = .next { s with prober :=
                                              { s.prober with sweep := if w.mode = .once then none
                                                                else some { w with scanning := false,
                                                                                   cursor := w.first,
                                                                                   passes := (w.passes + 1) % 65536 }
                                                                }, port := if w.mode = .once ∨ w.notice = .everyPass
                                              ∨ (w.passes + 1) % 65536 % 4 = 0 then s.port.withCause .sweep
                                              else s.port })
  ∧ (∀ (s : State),
         (s.prober.context ≠ none ∨ s.line.state ≠ .online ∨ s.hasFreeEntry = false
            ∨ (s.directory.lapseList = [] ∧ (s.prober.sweep.all (fun w => !w.scanning) = true
                                               ∨ s.census.mode = .census))) →
       exec .probeChoose s = .next s)

/-- R125 to R129: a granted CLAIM; first for one that lists no groups, then what the groups listed add to it. -/
def Obligations.ClaimBindsAnAddressInCensus : Prop :=
  (∀ (s : State) (p : BitVec 2) (a : Byte) (i : Identity) (term : Half), s.Receives → s.HasReplyRoom →
       leasable a.toNat = true → validIdentity i = true → s.census.mode = .census → s.Placed → s.recordOf i = none →
       s.recordAt a.toNat = none → s.directory.records.length < 192 →
     ∃ t, exec (.claim p a i term []) s = .next t ∧
       s.Creates t { address := a.toNat, identity := i, state := .bound, pinned := false,
                     term := s.grantTerm term.toNat, granted := some (s.grantTerm term.toNat), quiet := 0,
                     attempts := 0, rival := none, offer := none, hold := none }
         ∧ t.pool = s.poolTaken a.toNat
         ∧ t.queue = s.replied (claimReply a.toNat .granted 0 (s.grantTerm term.toNat))
         ∧ t = { s with directory := t.directory, pool := t.pool, queue := t.queue, line := t.line }
         ∧ s.LineAfter 254 true t.line)
  ∧ (∀ (s : State) (p : BitVec 2) (a : Byte) (i : Identity) (term : Half) (r : Record), s.Receives → s.HasReplyRoom →
         leasable a.toNat = true → validIdentity i = true → s.census.mode = .census → s.Identified → s.Placed →
         s.recordAt a.toNat = some r → r.identity = i →
         (r.state = .reserved ∨ r.state = .offered ∨ r.state = .lapsed) →
       ∃ t, exec (.claim p a i term []) s = .next t ∧
         s.Alters t (r.boundWith (s.grantTerm term.toNat) 0)
           ∧ t.queue = s.replied (claimReply a.toNat .granted 0 (s.grantTerm term.toNat))
           ∧ t = { s with directory := t.directory, queue := t.queue, line := t.line }
           ∧ s.LineAfter 254 true t.line)
  ∧ (∀ (s : State) (p : BitVec 2) (a : Byte) (i : Identity) (term : Half) (r : Record), s.Receives → s.HasReplyRoom →
         leasable a.toNat = true → validIdentity i = true → s.census.mode = .census → s.Identified → s.Placed →
         s.recordAt a.toNat = some r → r.identity = i → r.state = .bound →
       ∃ t, exec (.claim p a i term []) s = .next t ∧
         t.directory = { s.directory with records := replaceRecord { r with term := s.grantTerm term.toNat,
                                                                            granted := some (s.grantTerm term.toNat),
                                                                            quiet := 0, attempts := 0 }
                                            s.directory.records }
           ∧ t.queue = s.replied (claimReply a.toNat .granted 0 (s.grantTerm term.toNat))
           ∧ t = { s with directory := t.directory, queue := t.queue, line := t.line }
           ∧ s.LineAfter 254 true t.line)
  ∧ (∀ (s : State) (p : BitVec 2) (a : Byte) (i : Identity) (term : Half) (r : Record) (o : OfferContext),
         s.Receives → s.HasReplyRoom → leasable a.toNat = true → validIdentity i = true → s.census.mode = .census →
         s.Placed → s.recordAt a.toNat = some r → r.identity ≠ i → s.recordOf i = none → r.state = .offered →
         r.offer = some o → o.origin ≠ .rebind →
       ∃ t, exec (.claim p a i term []) s = .next t ∧
         t.recordAt a.toNat = some { address := a.toNat, identity := i, state := .bound, pinned := false,
                                     term := s.grantTerm term.toNat, granted := some (s.grantTerm term.toNat),
                                     quiet := 0, attempts := 0, rival := none, offer := none, hold := none }
           ∧ removeRecord a.toNat t.directory.records = removeRecord a.toNat s.directory.records
           ∧ t.directory.lapseList = s.directory.lapseList.filter (fun b => b != a.toNat)
           ∧ t.directory.pacing = s.directory.pacing
           ∧ s.MarkOnly t a.toNat (Mark.move .created (Mark.move .removed (s.markOf a.toNat)))
           ∧ t.groups = struck a.toNat s.groups
           ∧ t.queue = s.replied (claimReply a.toNat .granted 0 (s.grantTerm term.toNat))
           ∧ t = { s with directory := t.directory, groups := t.groups, queue := t.queue, line := t.line }
           ∧ s.LineAfter 254 true t.line)
  ∧ (∀ (s : State) (p : BitVec 2) (a : Byte) (i : Identity) (term : Half) (gs : List Byte) (v : State), s.Receives →
         s.HasReplyRoom → leasable a.toNat = true → validIdentity i = true → s.census.mode = .census →
         gs.length ≤ 8 → s.claimOutcome a.toNat i = .granted → exec (.claim p a i term []) s = .next v →
       ∃ t, exec (.claim p a i term gs) s = .next t ∧
         t.groups = (v.addClaimGroups a.toNat (gs.map (fun g => g.toNat))).1.groups
           ∧ t.directory = (v.addClaimGroups a.toNat (gs.map (fun g => g.toNat))).1.directory
           ∧ t.queue = s.replied (claimReply a.toNat .granted
                                    (v.addClaimGroups a.toNat (gs.map (fun g => g.toNat))).2
                                    (s.grantTerm term.toNat))
           ∧ t = { v with groups := t.groups, directory := t.directory, queue := t.queue, line := t.line }
           ∧ s.LineAfter 254 true t.line)
  ∧ (∀ (s : State) (a : Nat) (gs : List Nat), s.Grouped →
       (s.addClaimGroups a gs).2 ≤ gs.length
         ∧ memberTotal (s.addClaimGroups a gs).1.groups = memberTotal s.groups + (s.addClaimGroups a gs).2
         ∧ (∀ g ∈ List.range' 1 32, ((s.addClaimGroups a gs).1.group g).mode = (s.group g).mode
              ∧ (((s.addClaimGroups a gs).1.group g).members = (s.group g).members
                   ∨ (g ∈ gs ∧ a ∉ (s.group g).members ∧ (s.group g).members.length < 16
                        ∧ ((s.addClaimGroups a gs).1.group g).members = (s.group g).members ++ [a])))
         ∧ (∀ b : Nat, (s.addClaimGroups a gs).1.markOf b = if b = a
              ∧ 0 < (s.addClaimGroups a gs).2 then Mark.move .altered (s.markOf a) else s.markOf b)
         ∧ (memberTotal s.groups + gs.length ≤ 256 → ∀ g ∈ gs,
            groupNumber g = true → (s.group g).members.length < 16 → a ∈ ((s.addClaimGroups a gs).1.group g).members))
  ∧ (∀ (s : State) (a g : Nat) (gs : List Nat),
         (groupNumber g = false ∨ a ∈ (s.group g).members ∨ 16 ≤ (s.group g).members.length) →
       s.addClaimGroups a (g :: gs) = s.addClaimGroups a gs)
  ∧ (∀ (s : State) (a g : Nat) (gs : List Nat), groupNumber g = true → a ∉ (s.group g).members →
         (s.group g).members.length < 16 → 256 ≤ memberTotal s.groups →
       s.addClaimGroups a (g :: gs) = (s, 0))
  ∧ (∀ (s : State) (a g : Nat) (gs : List Nat) (u : State), groupNumber g = true → a ∉ (s.group g).members →
         (s.group g).members.length < 16 → memberTotal s.groups < 256 →
         u = { s with groups := s.groups.set (g - 1) { s.group g with members := (s.group g).members ++ [a] },
                      directory := { s.directory with marks := setMark a (Mark.move .altered (s.markOf a))
                                                        s.directory.marks } } →
       s.addClaimGroups a (g :: gs) = ((u.addClaimGroups a gs).1, (u.addClaimGroups a gs).2 + 1))

/-- R125, R126 and R129: the answers without a grant; the heard event acts first. -/
def Obligations.ClaimThatIsNotGrantedIsAnsweredByItsCase : Prop :=
  (∀ (s : State) (p : BitVec 2) (a : Byte) (i : Identity) (term : Half) (gs : List Byte) (u : State), s.Receives →
       s.HasReplyRoom → leasable a.toNat = true → validIdentity i = true → gs.length ≤ 8 →
       s.claimOutcome a.toNat i ≠ .granted →
       (s.claimOutcome a.toNat i ≠ .disputed ∨ (s.recordAt a.toNat).any
          (fun r => r.state == .disputed && (r.identity == i || r.rival.isSome)) = true) →
       s.Placed → u = s.heardState a.toNat false 1 →
     ∃ t, exec (.claim p a i term gs) s = .next t ∧
       t = { u with queue := u.replied (claimReply a.toNat (s.claimOutcome a.toNat i) 0 0), line := t.line }
         ∧ s.LineAfter 254 true t.line)
  ∧ (∀ (s : State) (p : BitVec 2) (a : Byte) (i : Identity) (term : Half) (r : Record) (gs : List Byte), s.Receives →
         s.HasReplyRoom → leasable a.toNat = true → validIdentity i = true → s.census.mode = .census →
         gs.length ≤ 8 → s.recordAt a.toNat = some r → s.claimOutcome a.toNat i = .disputed → r.state ≠ .disputed →
         s.params.disputePolicy = .hold → s.Placed →
       ∃ t, exec (.claim p a i term gs) s = .next t ∧
         s.Alters t (s.disputedRecord { r with quiet := if r.state = .bound
                                                 ∨ r.state = .lapsed then 0 else r.quiet } (some i))
           ∧ t.port = s.port.withCause .dispute ∧ t.queue = s.replied (claimReply a.toNat .disputed 0 0)
           ∧ t = { s with directory := t.directory, port := t.port, queue := t.queue, line := t.line }
           ∧ s.LineAfter 254 true t.line)
  ∧ (∀ (s : State) (p : BitVec 2) (a : Byte) (i : Identity) (term : Half) (r : Record) (gs : List Byte), s.Receives →
         s.HasReplyRoom → leasable a.toNat = true → validIdentity i = true → s.census.mode = .census →
         gs.length ≤ 8 → s.recordAt a.toNat = some r → s.claimOutcome a.toNat i = .disputed → r.state ≠ .disputed →
         s.params.disputePolicy = .revoke → s.Placed →
       ∃ t, exec (.claim p a i term gs) s = .next t ∧
         s.Ends t a.toNat (s.poolRetired r) (Mark.move .removed (Mark.move .altered (s.markOf a.toNat)))
           ∧ t.queue.entries = (s.claimed .dispute (untargetedRevoke a.toNat) 1).entries
               ++ [s.entryOf .reply .reply (claimReply a.toNat .disputed 0 0)]
           ∧ t.queue = { s.queue with entries := t.queue.entries }
           ∧ t = { s with directory := t.directory, pool := t.pool, groups := t.groups, queue := t.queue,
                          line := t.line }
           ∧ s.LineAfter 254 true t.line)
  ∧ (∀ (s : State) (p : BitVec 2) (a : Byte) (i : Identity) (term : Half) (r : Record) (gs : List Byte), s.Receives →
         s.HasReplyRoom → leasable a.toNat = true → validIdentity i = true → s.census.mode = .census →
         gs.length ≤ 8 → s.recordAt a.toNat = some r → s.recordOf i = none → r.identity ≠ i → r.state = .disputed →
         r.rival = none →
       ∃ t, exec (.claim p a i term gs) s = .next t ∧
         t.directory = { s.directory with records := replaceRecord { r with rival := some i,
                                                                            quiet := 0 } s.directory.records,
                                          marks := t.directory.marks }
           ∧ s.MarkOnly t a.toNat (Mark.move .altered (s.markOf a.toNat))
           ∧ t.queue = s.replied (claimReply a.toNat .disputed 0 0)
           ∧ t = { s with directory := t.directory, queue := t.queue, line := t.line }
           ∧ s.LineAfter 254 true t.line)

/-- R134 to R137: each request acts on the state that its heard event leaves. -/
def Obligations.GroupRequestsAreDecidedByTheirChecks : Prop :=
  (∀ (s : State) (p : BitVec 2) (a g : Byte) (u : State), s.Receives → s.HasReplyRoom → leasable a.toNat = true →
       s.groupJoinOutcome a.toNat g.toNat = .ok → s.groups.length = 32 → s.Placed →
       u = s.heardState a.toNat s.params.passiveRenewal 1 →
     ∃ t, exec (.groupJoin p a g) s = .next t ∧
       t.groups = s.groups.set (g.toNat - 1) { s.group g.toNat with
                                                 members := (s.group g.toNat).members ++ [a.toNat] }
         ∧ t.directory = { u.directory with marks := t.directory.marks }
         ∧ u.MarkOnly t a.toNat (Mark.move .altered (u.markOf a.toNat))
         ∧ t.queue = u.replied (groupReply a.toNat g.toNat .ok ((s.group g.toNat).members ++ [a.toNat]))
         ∧ t = { u with directory := t.directory, groups := t.groups, queue := t.queue, line := t.line }
         ∧ s.LineAfter 254 true t.line)
  ∧ (∀ (s : State) (p : BitVec 2) (a g : Byte) (u : State), s.Receives → s.HasReplyRoom → leasable a.toNat = true →
         s.groupJoinOutcome a.toNat g.toNat ≠ .ok → s.Placed → u = s.heardState a.toNat s.params.passiveRenewal 1 →
       ∃ t, exec (.groupJoin p a g) s = .next t ∧
         t = { u with queue := u.replied (groupReply a.toNat g.toNat (s.groupJoinOutcome a.toNat g.toNat)
                                            (if groupNumber g.toNat then (s.group g.toNat).members else [])),
                      line := t.line }
           ∧ s.LineAfter 254 true t.line)
  ∧ (∀ (s : State) (p : BitVec 2) (a g : Byte) (u : State), s.Receives → s.HasReplyRoom → leasable a.toNat = true →
         groupNumber g.toNat = true ∧ a.toNat ∈ (s.group g.toNat).members
         ∧ (s.recordAt a.toNat).any (fun r => r.state == .bound || r.state == .lapsed) = true →
         s.groups.length = 32 → s.Placed → u = s.heardState a.toNat s.params.passiveRenewal 1 →
       ∃ t, exec (.groupLeave p a g) s = .next t ∧
         t.groups = s.groups.set (g.toNat - 1) { s.group g.toNat with
                                                   members := (s.group g.toNat).members.filter
                                                     (fun b => b != a.toNat) }
           ∧ t.directory = { u.directory with marks := t.directory.marks }
           ∧ u.MarkOnly t a.toNat (Mark.move .altered (u.markOf a.toNat))
           ∧ t.queue = u.replied (groupReply a.toNat g.toNat .ok
                                    ((s.group g.toNat).members.filter (fun b => b != a.toNat)))
           ∧ t = { u with directory := t.directory, groups := t.groups, queue := t.queue, line := t.line }
           ∧ s.LineAfter 254 true t.line)
  ∧ (∀ (s : State) (p : BitVec 2) (a g : Byte) (u : State), s.Receives → s.HasReplyRoom → leasable a.toNat = true →
         ¬ (groupNumber g.toNat = true ∧ a.toNat ∈ (s.group g.toNat).members
              ∧ (s.recordAt a.toNat).any (fun r => r.state == .bound || r.state == .lapsed) = true) →
         s.Placed → u = s.heardState a.toNat s.params.passiveRenewal 1 →
       ∃ t, exec (.groupLeave p a g) s = .next t ∧
         t = { u with queue := u.replied (groupReply a.toNat g.toNat .notMember
                                            (if groupNumber g.toNat then (s.group g.toNat).members else [])),
                      line := t.line }
           ∧ s.LineAfter 254 true t.line)
  ∧ (∀ (s : State) (p : BitVec 2) (a g : Byte) (u : State), s.Receives → s.HasReplyRoom →
         (fixedAddress a.toNat = true ∨ leasable a.toNat = true) → s.Placed →
         u = s.heardState a.toNat s.params.passiveRenewal 1 →
       ∃ t, exec (.groupExpand p a g) s = .next t ∧
         t = { u with queue := u.replied (if groupNumber g.toNat
                                            then groupReply a.toNat g.toNat .ok (s.group g.toNat).members
                                            else groupReply a.toNat g.toNat .badGroup []), line := t.line }
           ∧ s.LineAfter 254 true t.line)

/-- R47 to R49, R80, R81, R52 and R148: a valid frame that no request is admitted from, and frames that cannot be
received. That the reading of the destination takes the Pass parameter afresh (LineAfter) is log 13. The runs are
those of the frame, its slot and its end mark (R144); the level of a slot that the DL416 does not drive is free (log
9). -/
def Obligations.ValidFramesAreHeardAndNoMoreUnlessAdmitted : Prop :=
  (∀ (s : State) (f : Frame) (u : State), s.Receives → f.payload.length ≤ 24 → f.source.toNat ≠ 254 →
       s.admission f = none → s.Placed →
       u = s.heardState f.source.toNat (s.params.passiveRenewal && !limitedHeard f) 0 →
     ∃ t, exec (.frameHeard f) s = .next t ∧
       t = { u with line := t.line, chance := t.chance } ∧ s.LineAfter f.destination.toNat false t.line
         ∧ (∃ b : Bool, (t.line.recessiveRun, t.line.dominantRun) =
              runsOver true 0 (f.lineBits ++ [b, true, true, true])))
  ∧ (∀ (s : State) (f : Frame), (s.line.state ≠ .online ∨ s.line.phase = .transmitting ∨ s.line.phase = .stopped) →
       exec (.frameHeard f) s = .next s)
  ∧ (∀ f : Frame, limitedHeard f = true ↔ f.destination = 0xFE
     ∧ f.kind ∈ ([0x02, 0x03, 0x04, 0x05, 0x06, 0x07] : List (BitVec 6)))

/-- R148, and section 12.2: each request command is its frame received (that the row is FRAME_HEARD of its frame is
the model's choice, log 12), and a frame to FEh is admitted by the five checks, is acknowledged, and leaves the runs
of its bits to its end mark (R144). -/
def Obligations.RequestsAreTheirFramesAdmittedByTheirChecks : Prop :=
  (∀ (s : State) (p : BitVec 2) (a : Byte) (i : Identity) (h : Byte) (term : Half) (b : Byte) (gs : List Byte),
     exec (.join p i h term) s = exec (.frameHeard (requestFrame .join p 0 i (h :: bytesOfHalf term.toNat))) s
       ∧ exec (.accept p a i) s = exec (.frameHeard (requestFrame .accept p a 0 (bytesOfIdentity i))) s
       ∧ exec (.renew p a i term) s = exec (.frameHeard
                                              (requestFrame .renew p a 0 (bytesOfIdentity i
                                                                            ++ bytesOfHalf term.toNat))) s
       ∧ exec (.leave p a i) s = exec (.frameHeard (requestFrame .leave p a 0 (bytesOfIdentity i))) s
       ∧ exec (.clashReport p a i) s = exec (.frameHeard (requestFrame .clashReport p a 0 (bytesOfIdentity i))) s
       ∧ exec (.probeReply p a i) s = exec (.frameHeard (requestFrame .probeReply p a 0 (bytesOfIdentity i))) s
       ∧ exec (.resolveIdentity p a i) s = exec (.frameHeard
                                                   (requestFrame .resolveIdentity p a 0 (bytesOfIdentity i))) s
       ∧ exec (.resolveAddress p a b) s = exec (.frameHeard (requestFrame .resolveAddress p a 0 [b])) s
       ∧ exec (.claim p a i term gs) s = exec (.frameHeard
                                                 (requestFrame .claim p a 0 (bytesOfIdentity i
                                                                               ++ bytesOfHalf term.toNat
                                                                               ++ [byteOf gs.length] ++ gs))) s
       ∧ exec (.groupJoin p a b) s = exec (.frameHeard (requestFrame .groupJoin p a 0 [b])) s
       ∧ exec (.groupLeave p a b) s = exec (.frameHeard (requestFrame .groupLeave p a 0 [b])) s
       ∧ exec (.groupExpand p a b) s = exec (.frameHeard (requestFrame .groupExpand p a 0 [b])) s)
  ∧ (∀ (s : State) (f : Frame) (k : RequestKind),
       s.admission f = some k ↔ f.destination.toNat = 254 ∧ f.kind = k.code ∧ k.lengthPasses f ∧ k.sourcePasses f
       ∧ k.identityPasses f ∧ (k.needsReply = true → s.HasReplyRoom))
  ∧ (∀ (s : State) (f : Frame) (k : RequestKind), s.Receives → f.source.toNat ≠ 254 → s.admission f = some k →
       ∃ t, exec (.frameHeard f) s = .next t ∧
         t.line.acknowledged = true ∧ t.chance = s.chance
           ∧ (t.line.recessiveRun, t.line.dominantRun) = runsOver true 0 (f.lineBits ++ [false, true, true, true]))

/-- R147, R154, R155 and R144. That the reading of a destination takes the Pass or Receive parameter afresh is log 13;
that a reception ended early with no destination told keeps Pass is log 26; that a frame of 32 payload bytes or more,
which no length field spells, ends like one of 25 to 31 is log 24; the bits before a length field and the level of a
slot that the DL416 does not drive are free (log 9); a row whose event cannot arise changes nothing (log 3), and a
frame with its own check is that frame heard (log 12). -/
def Obligations.InvalidAndForeignFramesReachNoRecord : Prop :=
  (∀ (s : State) (v : InvalidReception), s.Receives → endsEarly v = true →
     ∃ t, exec (.frameInvalid v) s = .next t ∧
       t = { s with line := t.line, chance := t.chance } ∧ t.line.phase = .stopped
         ∧ t.line.acknowledged = false ∧ t.line.state = s.line.state ∧ t.line.bitRate = s.line.bitRate
         ∧ t.line.segmentEnd = s.line.segmentEnd ∧ t.line.foreign = s.line.foreign
         ∧ t.line.termination = (if s.line.segmentEnd = false then .openCircuit else if s.line.phase = .idle
                                   ∨ s.line.phase = .afterFrame then s.params.pass else s.line.termination))
  ∧ (∀ (s : State) (l : Bool), s.Receives →
       ∃ t, exec (.frameInvalid (.stuffError l)) s = .next t ∧
         t.line.recessiveRun = (if l then 8 else 0) ∧ t.line.dominantRun = (if l then 0 else 8)
           ∧ t.chance = s.chance)
  ∧ (∀ (s : State) (n : BitVec 5), s.Receives → 25 ≤ n.toNat →
       ∃ t, exec (.frameInvalid (.badLength n)) s = .next t ∧
         ∃ p ∈ priorRuns, (t.line.recessiveRun, t.line.dominantRun) = runsOver p.1 p.2 (stuffFrom p.1 p.2 (bitsOf n)))
  ∧ (∀ (s : State) (f : Frame) (k : Half), s.Receives → f.payload.length ≤ 24 → k ≠ f.check →
       ∃ t, exec (.frameInvalid (.badCheck f k)) s = .next t ∧
         t = { s with line := t.line, chance := t.chance } ∧ s.LineAfter f.destination.toNat false t.line
           ∧ (∃ b : Bool, (t.line.recessiveRun, t.line.dominantRun) =
                runsOver true 0 (f.checkedBits k ++ [b, true, true, true])))
  ∧ (∀ (s : State) (p : BitVec 2) (d : Byte) (kind : BitVec 6) (payload : List Byte), s.Receives →
         payload.length ≤ 24 →
       ∃ t, exec (.foreignDirectoryFrame p d kind payload) s = .next t ∧
         State.LineAfter { s with line := { s.line with foreign := true } } d.toNat false t.line
           ∧ t = { s with line := t.line, chance := t.chance, port := s.port.withCause .line }
           ∧ (∃ b : Bool, (t.line.recessiveRun, t.line.dominantRun) =
                runsOver true 0 (Frame.lineBits { priority := p, source := 0xFE, identity := 0, destination := d,
                                                  kind := kind, payload := payload } ++ [b, true, true, true])))
  ∧ (∀ (s : State) (f : Frame), s.Receives → 25 ≤ f.payload.length →
       ∃ t, exec (.frameHeard f) s = .next t ∧
         t = { s with line := t.line } ∧ t.line.phase = .stopped ∧ t.line.acknowledged = false
           ∧ t.line.state = s.line.state ∧ t.line.bitRate = s.line.bitRate ∧ t.line.segmentEnd = s.line.segmentEnd
           ∧ t.line.foreign = s.line.foreign
           ∧ t.line.termination = (if s.line.segmentEnd = false then .openCircuit
                                     else if s.line.phase = addressedPhase f.destination.toNat
                                     then s.line.termination else if f.destination = 0xFE then s.params.receive
                                     else s.params.pass)
           ∧ (t.line.recessiveRun, t.line.dominantRun) = runsOver true 0 (stuffFrom true 0 (false :: f.headBits)))
  ∧ (∀ (s : State) (f : Frame) (k : Half), (k = f.check ∨ 25 ≤ f.payload.length) →
       exec (.frameInvalid (.badCheck f k)) s = exec (.frameHeard f) s)
  ∧ (∀ (s : State) (p : BitVec 2) (d : Byte) (kind : BitVec 6) (payload : List Byte),
       exec (.foreignDirectoryFrame p d kind payload) s =
           exec (.frameHeard { priority := p, source := 0xFE, identity := 0, destination := d, kind := kind,
                               payload := payload }) s)
  ∧ (∀ (s : State) (v : InvalidReception),
         (s.line.state ≠ .online ∨ s.line.phase = .transmitting ∨ s.line.phase = .stopped) →
       exec (.frameInvalid v) s = .next s)
  ∧ (∀ (s : State) (n : BitVec 5), n.toNat ≤ 24 →
       exec (.frameInvalid (.badLength n)) s = .next s)

/-- R149 and R150: the entry sent next. That the row changes nothing where no sending can begin is the model's choice
(log 3). -/
def Obligations.TransmissionTakesTheFirstOfTheLowestPriority : Prop :=
  (∀ (s : State) (pre : List TxEntry) (e : TxEntry) (post : List TxEntry), s.line.state = .online →
       s.line.phase = .idle → s.queue.entries = pre ++ e :: post →
       (∀ x ∈ pre, e.frame.priority.toNat < x.frame.priority.toNat) →
       (∀ x ∈ post, e.frame.priority.toNat ≤ x.frame.priority.toNat) →
     ∃ t, exec .transmitBegin s = .next t ∧
       t.queue = { s.queue with entries := pre ++ { e with sending := true } :: post }
         ∧ t.line.phase = .transmitting
         ∧ t.line.termination = (if s.line.segmentEnd = false then .openCircuit else s.params.drive)
         ∧ t.line.state = s.line.state ∧ t.line.bitRate = s.line.bitRate ∧ t.line.segmentEnd = s.line.segmentEnd
         ∧ t.line.foreign = s.line.foreign ∧ t = { s with queue := t.queue, line := t.line })
  ∧ (∀ (s : State),
         (s.queue.entries = [] ∨ s.line.state ≠ .online ∨ (s.line.phase ≠ .idle ∧ s.line.phase ≠ .afterFrame)) →
       exec .transmitBegin s = .next s)

/-- R149, R150, R151, R153, R155 and R144: how an attempt ends, for an entry whose originator does nothing on its
report, what the freed entry is for, the termination and the runs. That ACKNOWLEDGE_SLOT ends the frame, its end mark
included, is log 8; that the rows change nothing with no frame in transmission is log 3; both are the model's choice,
and at which bit arbitration is lost or the echo differs is free (log 9). -/
def Obligations.SendAttemptsAreSettled : Prop :=
  (∀ (s : State) (pre : List TxEntry) (e : TxEntry) (post : List TxEntry) (d : Bool),
       s.queue.entries = pre ++ e :: post → e.sending = true → (∀ x ∈ pre ++ post, x.sending = false) →
       (e.originator = .joinUnit ∨ e.originator = .reply ∨ e.originator = .stray ∨ e.originator = .dispute
          ∨ e.originator = .censusUnit ∨ e.originator = .command false ∨ e.originator = .prober false) →
       (d = true ∨ e.frame.destination.toNat = 0 ∨ e.frame.destination.toNat = 255 ∨ e.lastTry = true
          ∨ e.limit ≤ e.used + 1) →
     ∃ t, exec (.acknowledgeSlot d) s = .next t ∧
       t.queue = s.freed (pre ++ post)
         ∧ t.line = { s.line with phase := .afterFrame,
                                  termination := (if s.line.segmentEnd = false then .openCircuit
                                                    else s.line.termination), recessiveRun := t.line.recessiveRun,
                                  dominantRun := t.line.dominantRun }
         ∧ t = { s with queue := t.queue, line := t.line }
         ∧ (t.line.recessiveRun, t.line.dominantRun) =
             runsOver true 0 ((e.frame.checkedBits e.check) ++ [!d, true, true, true]))
  ∧ (∀ (s : State) (pre : List TxEntry) (e : TxEntry) (post : List TxEntry), s.queue.entries = pre ++ e :: post →
         e.sending = true → (∀ x ∈ pre ++ post, x.sending = false) → e.frame.destination.toNat ≠ 0 →
         e.frame.destination.toNat ≠ 255 → e.lastTry = false → e.used + 1 < e.limit →
       ∃ t, exec (.acknowledgeSlot false) s = .next t ∧
         t.queue = { s.queue with entries := pre ++ { e with used := e.used + 1, sending := false } :: post }
           ∧ t.line = { s.line with phase := .afterFrame,
                                    termination := (if s.line.segmentEnd = false then .openCircuit
                                                      else s.line.termination), recessiveRun := t.line.recessiveRun,
                                    dominantRun := t.line.dominantRun }
           ∧ t = { s with queue := t.queue, line := t.line }
           ∧ (t.line.recessiveRun, t.line.dominantRun) =
               runsOver true 0 ((e.frame.checkedBits e.check) ++ [true, true, true, true]))
  ∧ (∀ (s : State) (pre : List TxEntry) (e : TxEntry) (post : List TxEntry), s.queue.entries = pre ++ e :: post →
         e.sending = true → (∀ x ∈ pre ++ post, x.sending = false) → e.lastTry = false → e.used + 1 < e.limit →
       ∃ t, exec .echoDifference s = .next t ∧
         t.queue = { s.queue with entries := pre ++ { e with used := e.used + 1, sending := false } :: post }
           ∧ t.line = { s.line with phase := .stopped, termination :=
                                      (if s.line.segmentEnd = false then .openCircuit else s.line.termination),
                                    recessiveRun := t.line.recessiveRun, dominantRun := t.line.dominantRun }
           ∧ t = { s with queue := t.queue, line := t.line, chance := t.chance })
  ∧ (∀ (s : State) (pre : List TxEntry) (e : TxEntry) (post : List TxEntry), s.queue.entries = pre ++ e :: post →
         e.sending = true → (∀ x ∈ pre ++ post, x.sending = false) →
         (e.originator = .joinUnit ∨ e.originator = .reply ∨ e.originator = .stray ∨ e.originator = .dispute
            ∨ e.originator = .censusUnit ∨ e.originator = .command false ∨ e.originator = .prober false) →
         (e.lastTry = true ∨ e.limit ≤ e.used + 1) →
       ∃ t, exec .echoDifference s = .next t ∧
         t.queue = s.freed (pre ++ post)
           ∧ t.line = { s.line with phase := .stopped, termination :=
                                      (if s.line.segmentEnd = false then .openCircuit else s.line.termination),
                                    recessiveRun := t.line.recessiveRun, dominantRun := t.line.dominantRun }
           ∧ t = { s with queue := t.queue, line := t.line, chance := t.chance })
  ∧ (∀ (s : State) (pre : List TxEntry) (e : TxEntry) (post : List TxEntry), s.queue.entries = pre ++ e :: post →
         e.sending = true → (∀ x ∈ pre ++ post, x.sending = false) → e.lastTry = false →
       ∃ t, exec .arbitrationLost s = .next t ∧
         t.queue = { s.queue with entries := pre ++ { e with sending := false } :: post }
           ∧ t.line = { s.line with phase := .receiving,
                                    termination := (if s.line.segmentEnd = false then .openCircuit
                                                      else s.params.pass), recessiveRun := t.line.recessiveRun,
                                    dominantRun := t.line.dominantRun }
           ∧ t = { s with queue := t.queue, line := t.line, chance := t.chance })
  ∧ (∀ (s : State) (c : Instr), (∀ e ∈ s.queue.entries, e.sending = false) →
         (c = .acknowledgeSlot true ∨ c = .acknowledgeSlot false ∨ c = .echoDifference ∨ c = .arbitrationLost) →
       exec c s = .next s)
  ∧ (∀ (s : State) (pre : List TxEntry) (e : TxEntry) (post : List TxEntry), s.queue.entries = pre ++ e :: post →
         e.sending = true → (∀ x ∈ pre ++ post, x.sending = false) →
         (e.originator = .joinUnit ∨ e.originator = .reply ∨ e.originator = .stray ∨ e.originator = .dispute
            ∨ e.originator = .censusUnit ∨ e.originator = .command false ∨ e.originator = .prober false) →
         e.lastTry = true →
       ∃ t, exec .arbitrationLost s = .next t ∧
         t.queue = s.freed (pre ++ post)
           ∧ t.line = { s.line with phase := .receiving,
                                    termination := (if s.line.segmentEnd = false then .openCircuit
                                                      else s.params.pass), recessiveRun := t.line.recessiveRun,
                                    dominantRun := t.line.dominantRun }
           ∧ t = { s with queue := t.queue, line := t.line, chance := t.chance })
  ∧ (∀ (s : State) (pre : List TxEntry) (e : TxEntry) (post : List TxEntry), s.queue.entries = pre ++ e :: post →
         e.sending = true → (∀ x ∈ pre ++ post, x.sending = false) → e.frame.source = 0xFE →
       ∃ t, exec .arbitrationLost s = .next t ∧
         ∃ k ∈ List.range e.frame.arbitrationBits.length,
             e.frame.arbitrationBits.getD k false = true ∧ (t.line.recessiveRun, t.line.dominantRun) =
             runsOver true 0 (e.frame.arbitrationBits.take k ++ [false]))
  ∧ (∀ (s : State) (pre : List TxEntry) (e : TxEntry) (post : List TxEntry), s.queue.entries = pre ++ e :: post →
         e.sending = true → (∀ x ∈ pre ++ post, x.sending = false) → e.frame.source = 0xFE →
       ∃ t, exec .echoDifference s = .next t ∧
         ∃ k ∈ List.range (e.frame.checkedBits e.check).length,
             e.frame.arbitrationBits.length ≤ k ∧ (t.line.recessiveRun, t.line.dominantRun) =
             runsOver true 0 ((e.frame.checkedBits e.check).take k ++ [!(e.frame.checkedBits e.check).getD k true]))

/-- R91, R151, R161 and R150: what the reports of a PROBE and of a command's REVOKE do, and when a waiting claim is
granted. WAITING_CLAIM_GRANTED as a grant by itself is log 6; its granting clause speaks of states in which a claim
waits beside a free entry, and CommandAwaits (O13) holds in none of them; its clause without effect is log 3. -/
def Obligations.ReportsReachTheProberAndTheCommand : Prop :=
  (∀ (s : State) (pre : List TxEntry) (e : TxEntry) (post : List TxEntry) (c : ProbeContext),
       s.queue.entries = pre ++ e :: post → e.sending = true → (∀ x ∈ pre ++ post, x.sending = false) →
       e.originator = .prober true → e.frame.destination.toNat ≠ 0 → e.frame.destination.toNat ≠ 255 →
       s.prober.context = some c → c.phase = .queued →
     ∃ t, exec (.acknowledgeSlot true) s = .next t ∧
       t.prober = { s.prober with context := some { c with phase := .waiting s.params.probeWait } }
         ∧ t.queue = s.freed (pre ++ post) ∧ t = { s with prober := t.prober, queue := t.queue, line := t.line })
  ∧ (∀ (s : State) (pre : List TxEntry) (e : TxEntry) (post : List TxEntry) (c : ProbeContext) (r : Record),
         s.queue.entries = pre ++ e :: post → e.sending = true → (∀ x ∈ pre ++ post, x.sending = false) →
         e.originator = .prober true → e.frame.destination.toNat ≠ 0 → e.frame.destination.toNat ≠ 255 →
         e.limit ≤ e.used + 1 → s.prober.context = some c → c.phase = .queued → s.recordAt c.target = some r →
         r.identity = c.identity → r.state = .lapsed → c.kind = .lapse → c.attempt < s.params.probeAttempts →
       ∃ t, exec (.acknowledgeSlot false) s = .next t ∧
         t.directory = { s.directory with records := replaceRecord { r with attempts := c.attempt }
                                            s.directory.records, lapseList := s.directory.lapseList ++ [r.address] }
           ∧ t.prober = { s.prober with context := none }
           ∧ t.queue = { s.freed (pre ++ post) with entries := (s.freed (pre ++ post)).entries.map detachProbe }
           ∧ t = { s with directory := t.directory, prober := t.prober, queue := t.queue, line := t.line })
  ∧ (∀ (s : State) (pre : List TxEntry) (e : TxEntry) (post : List TxEntry) (d : Bool),
         s.queue.entries = pre ++ e :: post → e.sending = true → (∀ x ∈ pre ++ post, x.sending = false) →
         e.originator = .command true → e.frame.destination.toNat ≠ 0 → e.frame.destination.toNat ≠ 255 →
         (d = true ∨ e.lastTry = true ∨ e.limit ≤ e.used + 1) →
       ∃ t, exec (.acknowledgeSlot d) s = .next t ∧
         t.queue = s.freed (pre ++ post)
           ∧ t.port = { s.port with outcome := if d then .ok else .undelivered, error := !d, state := .ready,
                                    latched := s.port.latched ||| Cause.bit .done }
           ∧ t = { s with queue := t.queue, line := t.line, port := t.port })
  ∧ (∀ (s : State) (v : Frame), s.queue.waiting = some v → s.hasFreeEntry = true →
       exec .waitingClaimGranted s = .next { s with queue :=
                                                      { s.queueWith (s.entryOf .directory (.command true) v) with
                                                          waiting := none } })
  ∧ (∀ (s : State), (s.queue.waiting = none ∨ s.hasFreeEntry = false) →
       exec .waitingClaimGranted s = .next s)
  ∧ (∀ (s : State) (pre : List TxEntry) (e : TxEntry) (post : List TxEntry) (c : ProbeContext) (r : Record),
         s.queue.entries = pre ++ e :: post → e.sending = true → (∀ x ∈ pre ++ post, x.sending = false) →
         e.originator = .prober true → e.frame.destination.toNat ≠ 0 → e.frame.destination.toNat ≠ 255 →
         e.limit ≤ e.used + 1 → s.prober.context = some c → c.phase = .queued → s.recordAt c.target = some r →
         r.identity = c.identity → r.state = .lapsed → c.kind = .lapse → s.params.probeAttempts ≤ c.attempt →
       ∃ t, exec (.acknowledgeSlot false) s = .next t ∧
         s.Ends t r.address (s.poolRetired r) (Mark.move .removed (s.markOf r.address))
           ∧ t.prober = { s.prober with context := none }
           ∧ t.queue = { s.freed (pre ++ post) with entries := (s.freed (pre ++ post)).entries.map detachProbe }
           ∧ t = { s with directory := t.directory, pool := t.pool, groups := t.groups, prober := t.prober,
                          queue := t.queue, line := t.line })
  ∧ (∀ (s : State) (pre : List TxEntry) (e : TxEntry) (post : List TxEntry) (c : ProbeContext) (r : Record),
         s.queue.entries = pre ++ e :: post → e.sending = true → (∀ x ∈ pre ++ post, x.sending = false) →
         e.originator = .prober true → e.frame.destination.toNat ≠ 0 → e.frame.destination.toNat ≠ 255 →
         e.limit ≤ e.used + 1 → s.prober.context = some c → c.phase = .queued → s.recordAt c.target = some r →
         r.identity = c.identity → r.state = .bound → r.pinned = false → c.kind = .sweep →
       ∃ t, exec (.acknowledgeSlot false) s = .next t ∧
         t.directory.records = replaceRecord r.lapsedNow s.directory.records
           ∧ t.directory.lapseList = s.directory.lapseList ++ [r.address]
           ∧ t.directory.pacing = s.directory.pacing
           ∧ s.MarkOnly t r.address (Mark.move .altered (s.markOf r.address))
           ∧ t.prober = { s.prober with context := none }
           ∧ t.queue = { s.freed (pre ++ post) with entries := (s.freed (pre ++ post)).entries.map detachProbe }
           ∧ t = { s with directory := t.directory, prober := t.prober, queue := t.queue, line := t.line })
  ∧ (∀ (s : State) (pre : List TxEntry) (e : TxEntry) (post : List TxEntry) (c : ProbeContext),
         s.queue.entries = pre ++ e :: post → e.sending = true → (∀ x ∈ pre ++ post, x.sending = false) →
         e.originator = .prober true → e.frame.destination.toNat ≠ 0 → e.frame.destination.toNat ≠ 255 →
         e.limit ≤ e.used + 1 → s.prober.context = some c → c.phase = .queued →
         (s.recordAt c.target).all (fun r => r.identity != c.identity ||
                                      (r.state != c.kind.expected && r.state != .lapsed) ||
                                      (c.kind == .sweep && r.pinned && r.state == .bound)) = true →
       ∃ t, exec (.acknowledgeSlot false) s = .next t ∧
         t.prober = { s.prober with context := none }
           ∧ t.queue = { s.freed (pre ++ post) with entries := (s.freed (pre ++ post)).entries.map detachProbe }
           ∧ t = { s with prober := t.prober, queue := t.queue, line := t.line })
  ∧ (∀ (s : State) (pre : List TxEntry) (e : TxEntry) (post : List TxEntry) (c : ProbeContext) (r : Record),
         s.queue.entries = pre ++ e :: post → e.sending = true → (∀ x ∈ pre ++ post, x.sending = false) →
         e.originator = .prober true → e.frame.destination.toNat ≠ 0 → e.frame.destination.toNat ≠ 255 →
         e.limit ≤ e.used + 1 → s.prober.context = some c → c.phase = .queued → s.recordAt c.target = some r →
         r.identity = c.identity → r.state = .lapsed → c.kind = .sweep →
       ∃ t, exec (.acknowledgeSlot false) s = .next t ∧
         t.directory = { s.directory with lapseList := s.directory.lapseList ++ [r.address] }
           ∧ t.prober = { s.prober with context := none }
           ∧ t.queue = { s.freed (pre ++ post) with entries := (s.freed (pre ++ post)).entries.map detachProbe }
           ∧ t = { s with directory := t.directory, prober := t.prober, queue := t.queue, line := t.line })
  ∧ (∀ (s : State) (pre : List TxEntry) (e : TxEntry) (post : List TxEntry) (u : State),
         s.queue.entries = pre ++ e :: post → e.sending = true → (∀ x ∈ pre ++ post, x.sending = false) →
         e.frame.destination.toNat ≠ 0 → e.frame.destination.toNat ≠ 255 →
         exec (.acknowledgeSlot false) s = .next u →
       ∃ t, exec .echoDifference s = .next t ∧
         t.line.phase = .stopped ∧ t.line.state = s.line.state ∧ t.line.bitRate = s.line.bitRate
           ∧ t.line.segmentEnd = s.line.segmentEnd ∧ t.line.foreign = s.line.foreign
           ∧ t = { u with line := t.line, chance := t.chance })

/-- R143, R144, R39, R119, R121 and R152. That Park is taken afresh at SETTLING to ONLINE, SETTLING to FAULT and FAULT
to SETTLING is log 13; that the runs are 24 and 0 in ONLINE and 0 in FAULT and SETTLING, and the phase idle, is log
22; that both CENSUS frames are brought up to date should two wait is log 14; that an expiry of which a row has taken
a part is finished in the order of R41 is log 5; that the rows change nothing outside their line state is log 3. -/
def Obligations.LineStatesChangeAsTheTableGives : Prop :=
  (∀ (s : State), s.line.state = .settling → s.census.autostart = false → s.census.mode = .serving →
     ∃ t, exec .lineOnline s = .next t ∧
       t.line = { s.line with state := .online, phase := .idle, recessiveRun := 24, dominantRun := 0,
                              termination := (if s.line.segmentEnd = false then .openCircuit else s.params.park) }
         ∧ t.clock.epoch = some { period := s.params.epochPeriod, left := 20 * s.params.epochPeriod }
         ∧ t.port = s.port.withCause .line ∧ t = { s with line := t.line, clock := t.clock, port := t.port })
  ∧ (∀ (s : State), s.line.state = .settling → s.census.autostart = true →
         s.queue.entries.any TxEntry.waitingCensus = false →
       ∃ t, exec .lineOnline s = .next t ∧
         t.line = { s.line with state := .online, phase := .idle, recessiveRun := 24, dominantRun := 0,
                                termination := (if s.line.segmentEnd = false then .openCircuit else s.params.park) }
           ∧ t.census = { mode := .census, window := s.params.censusWindow, autostart := false }
           ∧ t.queue = s.claimed .censusUnit (censusFrame s.params.censusWindow s.params.epochPeriod) 0
           ∧ t.clock.epoch = some { period := s.params.epochPeriod, left := 20 * s.params.epochPeriod }
           ∧ t.port = s.port.withCause .line
           ∧ t = { s with line := t.line, census := t.census, queue := t.queue, clock := t.clock, port := t.port })
  ∧ (∀ (s : State), (s.line.state = .settling ∨ s.line.state = .online) →
         (∀ e ∈ s.queue.entries, e.sending = false) → (s.line.state ≠ .online ∨ s.clock.taken = PartsTaken.none) →
       ∃ t, exec .lineFault s = .next t ∧
         t.line = { s.line with state := .fault, phase := .idle, recessiveRun := 0, dominantRun := 0,
                                termination := (if s.line.segmentEnd = false then .openCircuit else s.params.park) }
           ∧ t.clock.epoch = none ∧ t.port = s.port.withCause .line
           ∧ t = { s with line := t.line, clock := t.clock, port := t.port })
  ∧ (∀ (s : State) (pre : List TxEntry) (e : TxEntry) (post : List TxEntry), s.line.state = .online →
         s.queue.entries = pre ++ e :: post → e.sending = true → (∀ x ∈ pre ++ post, x.sending = false) →
         e.lastTry = false → e.used + 1 < e.limit → s.clock.taken = PartsTaken.none →
       ∃ t, exec .lineFault s = .next t ∧
         t.queue = { s.queue with entries := pre ++ { e with used := e.used + 1, sending := false } :: post }
           ∧ t.line = { s.line with state := .fault, phase := .idle, recessiveRun := 0, dominantRun := 0,
                                    termination := (if s.line.segmentEnd = false then .openCircuit
                                                      else s.params.park) }
           ∧ t.clock.epoch = none ∧ t.port = s.port.withCause .line
           ∧ t = { s with queue := t.queue, line := t.line, clock := t.clock, port := t.port })
  ∧ (∀ (s : State), s.line.state = .fault →
       ∃ t, exec .faultRecovery s = .next t ∧
         t.line = { s.line with state := .settling, phase := .idle, recessiveRun := 0, dominantRun := 0,
                                termination := (if s.line.segmentEnd = false then .openCircuit else s.params.park) }
           ∧ t.port = s.port.withCause .line ∧ t = { s with line := t.line, port := t.port })
  ∧ (∀ (s : State), s.line.state = .settling → s.census.autostart = false → s.census.mode = .census →
         s.queue.entries.any TxEntry.waitingCensus = false →
       ∃ t, exec .lineOnline s = .next t ∧
         t.line = { s.line with state := .online, phase := .idle, recessiveRun := 24, dominantRun := 0,
                                termination := (if s.line.segmentEnd = false then .openCircuit else s.params.park) }
           ∧ t.queue = s.claimed .censusUnit (censusFrame s.census.window s.params.epochPeriod) 0
           ∧ t.clock.epoch = some { period := s.params.epochPeriod, left := 20 * s.params.epochPeriod }
           ∧ t.port = s.port.withCause .line
           ∧ t = { s with line := t.line, queue := t.queue, clock := t.clock, port := t.port })
  ∧ (∀ (s : State) (pre : List TxEntry) (e : TxEntry) (post : List TxEntry), s.line.state = .online →
         s.queue.entries = pre ++ e :: post → e.sending = true → (∀ x ∈ pre ++ post, x.sending = false) →
         (e.originator = .joinUnit ∨ e.originator = .reply ∨ e.originator = .stray ∨ e.originator = .dispute
            ∨ e.originator = .censusUnit ∨ e.originator = .command false ∨ e.originator = .prober false) →
         (e.lastTry = true ∨ e.limit ≤ e.used + 1) → s.clock.taken = PartsTaken.none →
       ∃ t, exec .lineFault s = .next t ∧
         t.queue = s.freed (pre ++ post)
           ∧ t.line = { s.line with state := .fault, phase := .idle, recessiveRun := 0, dominantRun := 0,
                                    termination := (if s.line.segmentEnd = false then .openCircuit
                                                      else s.params.park) }
           ∧ t.clock.epoch = none ∧ t.port = s.port.withCause .line
           ∧ t = { s with queue := t.queue, line := t.line, clock := t.clock, port := t.port })
  ∧ (∀ (s : State) (c : Instr),
         (c = .lineOnline ∧ s.line.state ≠ .settling ∨ c = .lineFault
            ∧ (s.line.state = .disabled ∨ s.line.state = .fault) ∨ c = .faultRecovery ∧ s.line.state ≠ .fault) →
       exec c s = .next s)
  ∧ (∀ (s : State), s.line.state = .settling → s.census.autostart = true →
         s.queue.entries.any TxEntry.waitingCensus = true →
       ∃ t, exec .lineOnline s = .next t ∧
         t.line = { s.line with state := .online, phase := .idle, recessiveRun := 24, dominantRun := 0,
                                termination := (if s.line.segmentEnd = false then .openCircuit else s.params.park) }
           ∧ t.census = { mode := .census, window := s.params.censusWindow, autostart := false }
           ∧ t.queue = s.censusUpdated (censusFrame s.params.censusWindow s.params.epochPeriod)
           ∧ t.clock.epoch = some { period := s.params.epochPeriod, left := 20 * s.params.epochPeriod }
           ∧ t.port = s.port.withCause .line
           ∧ t = { s with line := t.line, census := t.census, queue := t.queue, clock := t.clock, port := t.port })
  ∧ (∀ (s : State), s.line.state = .settling → s.census.autostart = false → s.census.mode = .census →
         s.queue.entries.any TxEntry.waitingCensus = true →
       ∃ t, exec .lineOnline s = .next t ∧
         t.line = { s.line with state := .online, phase := .idle, recessiveRun := 24, dominantRun := 0,
                                termination := (if s.line.segmentEnd = false then .openCircuit else s.params.park) }
           ∧ t.queue = s.censusUpdated (censusFrame s.census.window s.params.epochPeriod)
           ∧ t.clock.epoch = some { period := s.params.epochPeriod, left := 20 * s.params.epochPeriod }
           ∧ t.port = s.port.withCause .line
           ∧ t = { s with line := t.line, queue := t.queue, clock := t.clock, port := t.port })
  ∧ (∀ (s : State) (pre : List TxEntry) (e : TxEntry) (post : List TxEntry) (u : State), s.line.state = .online →
         s.clock.taken = PartsTaken.none → s.queue.entries = pre ++ e :: post → e.sending = true →
         (∀ x ∈ pre ++ post, x.sending = false) → e.frame.destination.toNat ≠ 0 → e.frame.destination.toNat ≠ 255 →
         exec (.acknowledgeSlot false) s = .next u →
       ∃ t, exec .lineFault s = .next t ∧
         t.line = { s.line with state := .fault, phase := .idle, recessiveRun := 0, dominantRun := 0,
                                termination := (if s.line.segmentEnd = false then .openCircuit else s.params.park) }
           ∧ t.clock.epoch = none ∧ t.port = u.port.withCause .line
           ∧ t = { u with line := t.line, clock := t.clock, port := t.port })
  ∧ (∀ (s u : State), s.line.state = .online → s.clock.taken ≠ PartsTaken.none → exec (.epochExpiry []) s = .next u →
       exec .lineFault s = exec .lineFault u)

/-- R155: the phases of reception, and the runs of R144. That the reading of a destination other than FEh takes the
Pass parameter afresh is log 13; the bits before the destination, and those of a frame that went on after an early
end, are free (log 9). -/
def Obligations.LinePhasesSetTheTermination : Prop :=
  (∀ (s : State), s.line.state = .online → (s.line.phase = .afterFrame ∨ s.line.phase = .stopped) →
     ∃ t, exec .lineIdle s = .next t ∧
       t.line.phase = .idle
         ∧ t.line.termination = (if s.line.segmentEnd = false then .openCircuit else s.params.park)
         ∧ 3 ≤ t.line.recessiveRun
         ∧ (s.line.phase = .afterFrame → t.line.recessiveRun =
              (if 3 ≤ s.line.recessiveRun then s.line.recessiveRun + 3 else 3) ∧ t.chance = s.chance)
         ∧ (s.line.phase = .stopped → t.line.recessiveRun ≤ 14) ∧ t.line.dominantRun = 0
         ∧ t.line.state = s.line.state ∧ t.line.bitRate = s.line.bitRate ∧ t.line.segmentEnd = s.line.segmentEnd
         ∧ t.line.foreign = s.line.foreign ∧ t = { s with line := t.line, chance := t.chance })
  ∧ (∀ (s : State), s.line.state = .online → s.line.phase = .idle →
       ∃ t, exec .startMarkReceived s = .next t ∧
         t.line.phase = .receiving
           ∧ t.line.termination = (if s.line.segmentEnd = false then .openCircuit else s.params.pass)
           ∧ t.line.recessiveRun = 0 ∧ t.line.dominantRun = 1 ∧ t.line.state = s.line.state
           ∧ t.line.bitRate = s.line.bitRate ∧ t.line.segmentEnd = s.line.segmentEnd
           ∧ t.line.foreign = s.line.foreign ∧ t = { s with line := t.line })
  ∧ (∀ (s : State) (d : Byte), s.line.state = .online → s.line.phase = .receiving →
       ∃ t, exec (.destinationFieldRead d) s = .next t ∧
         t.line.phase = (if d = 0xFE then .receivingDirectory else .receivingOther)
           ∧ t.line.termination = (if s.line.segmentEnd = false then .openCircuit else if d = 0xFE
                                     then s.params.receive else s.params.pass)
           ∧ t.line.state = s.line.state ∧ t.line.bitRate = s.line.bitRate ∧ t.line.segmentEnd = s.line.segmentEnd
           ∧ t.line.foreign = s.line.foreign ∧ t = { s with line := t.line, chance := t.chance })
  ∧ (∀ (s : State) (d : Byte), s.line.state = .online → s.line.phase = .receiving →
       ∃ t, exec (.destinationFieldRead d) s = .next t ∧
         ∃ p ∈ priorRuns, (t.line.recessiveRun, t.line.dominantRun) = runsOver p.1 p.2 (stuffFrom p.1 p.2 (bitsOf d)))

/-- R145 and R39: Line Enable, Line Disable and Set Bit Rate. That the runs are 0 and the phase is idle in DISABLED is
log 22, that Set Bit Rate checks the range first is log 25, and that an expiry of which a row has taken a part is
finished in the order of R41 is log 5. -/
def Obligations.LineCommandsEnableDisableAndSetTheRate : Prop :=
  (∀ (s : State), s.port.state ≠ .busy → s.line.state = .disabled →
     exec .lineEnable s = .next { s with line := { s.line with state := .settling, phase := .idle, recessiveRun := 0,
                                                               dominantRun := 0, termination :=
                                                                 (if s.line.segmentEnd = false then .openCircuit
                                                                    else s.params.park) }, port :=
                                           (s.port.withCause .line).completed 0x50 .ok })
  ∧ (∀ (s : State), s.port.state ≠ .busy → s.line.state ≠ .disabled →
       exec .lineEnable s = .next { s with port := s.port.completed 0x50 .ok })
  ∧ (∀ (s : State), s.port.state ≠ .busy → s.prober.context = none →
         (s.line.state ≠ .online ∨ s.clock.taken = PartsTaken.none) →
       ∃ t, exec .lineDisable s = .next t ∧
         t.queue = { s.queue with entries := [], setAside := 0 } ∧ t.clock.epoch = none
           ∧ t.line = { s.line with state := .disabled, phase := .idle, recessiveRun := 0, dominantRun := 0,
                                    termination := .openCircuit }
           ∧ t.port = (if s.line.state = .disabled then s.port else s.port.withCause .line).completed 0x51 .ok
           ∧ t = { s with queue := t.queue, clock := t.clock, line := t.line, port := t.port })
  ∧ (∀ (s : State) (c : ProbeContext) (r : Record), s.port.state ≠ .busy → s.prober.context = some c →
         s.recordAt c.target = some r → r.identity = c.identity → r.state = .lapsed →
         (s.line.state ≠ .online ∨ s.clock.taken = PartsTaken.none) →
       ∃ t, exec .lineDisable s = .next t ∧
         t.queue = { s.queue with entries := [], setAside := 0 }
           ∧ t.prober = { s.prober with context := none }
           ∧ t.directory = { s.directory with lapseList := r.address :: s.directory.lapseList }
           ∧ t.clock = { epoch := none, taken := PartsTaken.none }
           ∧ t.line = { s.line with state := .disabled, phase := .idle, recessiveRun := 0, dominantRun := 0,
                                    termination := .openCircuit }
           ∧ t.port = (if s.line.state = .disabled then s.port else s.port.withCause .line).completed 0x51 .ok
           ∧ t = { s with queue := t.queue, prober := t.prober, directory := t.directory, clock := t.clock,
                          line := t.line, port := t.port })
  ∧ (∀ (s : State), s.port.state ≠ .busy →
       exec .setBitRate s = .next (if 3 < s.p 0 then { s with port := s.port.completed 0x52 .badValue }
                                     else if s.line.state ≠ .disabled then { s with
                                                                               port := s.port.completed 0x52
                                                                                 .wrongState } else { s with
                                                                                                        line :=
                                                                                                          { s.line
                                                                                                                          with bitRate := s.p 0 }, port := s.port.completed 0x52 .ok }))
  ∧ (∀ (s : State) (c : ProbeContext), s.port.state ≠ .busy → s.prober.context = some c →
         (s.recordAt c.target).all (fun r => r.identity != c.identity || r.state != .lapsed) = true →
         (s.line.state ≠ .online ∨ s.clock.taken = PartsTaken.none) →
       ∃ t, exec .lineDisable s = .next t ∧
         t.queue = { s.queue with entries := [], setAside := 0 }
           ∧ t.prober = { s.prober with context := none } ∧ t.clock = { epoch := none, taken := PartsTaken.none }
           ∧ t.line = { s.line with state := .disabled, phase := .idle, recessiveRun := 0, dominantRun := 0,
                                    termination := .openCircuit }
           ∧ t.port = (if s.line.state = .disabled then s.port else s.port.withCause .line).completed 0x51 .ok
           ∧ t = { s with queue := t.queue, prober := t.prober, clock := t.clock, line := t.line, port := t.port })
  ∧ (∀ (s u : State), s.port.state ≠ .busy → s.line.state = .online → s.clock.taken ≠ PartsTaken.none →
         exec (.epochExpiry []) s = .next u →
       exec .lineDisable s = exec .lineDisable u)

/-- R41, R44, R46, R28, R52, R122, R121, R103 and R38: an expiry at which no dispute hold runs out, then R111 where
holds do; no part of it has been taken by a row of its own (log 5), both CENSUS frames are brought up to date should
two wait (log 14), and outside ONLINE the row changes nothing (log 3). -/
def Obligations.EpochExpiryAgesEveryOwnersState : Prop :=
  (∀ (s : State) (order : List EpochOwner), s.line.state = .online → s.Placed → s.clock.taken = PartsTaken.none →
       (∀ r ∈ s.directory.records, r.hold ≠ some 0 ∧ r.hold ≠ some 1) →
     ∃ t, exec (.epochExpiry order) s = .next t ∧
       t.directory.records = s.directory.records.map (fun r => r.epochAged)
         ∧ t.directory.lapseList = s.directory.lapseList
             ++ (s.directory.records.filter (fun r => r.lapsesNow && !s.isTarget r)).map (fun r => r.address)
         ∧ (∀ b : Nat, t.markOf b = if s.directory.records.any (fun r => r.address == b && r.lapsesNow) = true
              then Mark.move .altered (s.markOf b) else s.markOf b)
         ∧ t.directory.pacing = []
         ∧ t.pool.quarantine = (s.pool.quarantine.map (fun q => { q with hold := q.hold - 1 })).filter
             (fun q => q.hold != 0)
         ∧ t.pool.free = s.pool.free ++ (s.pool.quarantine.filter (fun q => q.hold - 1 == 0)).map
             (fun q => q.address)
         ∧ t.clock.epoch = some { period := s.params.epochPeriod, left := 20 * s.params.epochPeriod }
         ∧ t.params = s.params ∧ t.groups = s.groups ∧ t.line = s.line ∧ t.prober.context = s.prober.context
         ∧ (s.census.mode = .serving → t.census = s.census ∧ t.port = s.port ∧ t.queue = s.queue
              ∧ t.prober.sweep = s.prober.sweep.map (fun w => { w with scanning := true }))
         ∧ (s.census.mode = .census → s.census.window ≤ 1 →
              t.census = { s.census with mode := .serving, window := 0 } ∧ t.port = s.port.withCause .census
              ∧ t.queue = s.queue)
         ∧ (s.census.mode = .census → 2 ≤ s.census.window → s.queue.entries.any TxEntry.waitingCensus = false →
              t.census = { s.census with window := s.census.window - 1 } ∧ t.port = s.port
              ∧ t.queue = s.claimed .censusUnit (censusFrame (s.census.window - 1) s.params.epochPeriod) 0)
         ∧ (s.census.mode = .census → 2 ≤ s.census.window → s.queue.entries.any TxEntry.waitingCensus = true →
              t.census = { s.census with window := s.census.window - 1 } ∧ t.port = s.port
              ∧ t.queue = s.censusUpdated (censusFrame (s.census.window - 1) s.params.epochPeriod))
         ∧ (s.census.mode = .census → 2 ≤ s.census.window → t.prober.sweep = s.prober.sweep)
         ∧ (s.census.mode = .census → s.census.window ≤ 1 →
              t.prober.sweep = if order.find? (fun o => o == .prober || o == .censusUnit) = some .censusUnit
              then s.prober.sweep.map (fun w => { w with scanning := true }) else s.prober.sweep)
         ∧ t.clock.taken = PartsTaken.none ∧ t.chance = s.chance ∧ t.pending = s.pending)
  ∧ (∀ (s : State) (order : List EpochOwner), s.line.state ≠ .online →
       exec (.epochExpiry order) s = .next s)
  ∧ (∀ (s : State) (order : List EpochOwner) (r : Record), s.line.state = .online → s.Placed → s.Shaped →
         s.clock.taken = PartsTaken.none → r ∈ s.heldOut →
       ∃ t, exec (.epochExpiry order) s = .next t ∧
         t.recordAt r.address = none
           ∧ t.directory.records = (s.directory.records.filter (fun q => !q.holdRunsOut)).map (fun q => q.epochAged)
           ∧ t.directory.lapseList = (s.directory.lapseList
                                        ++ (s.directory.records.filter (fun q => q.lapsesNow && !s.isTarget q)).map
                                        (fun q => q.address)).filter (fun b =>
                                                                        s.heldOut.all (fun q => q.address != b))
           ∧ (∀ b : Nat, t.markOf b = if s.heldOut.any (fun q => q.address == b) = true
                then Mark.move .removed (s.markOf b) else if s.directory.records.any
                (fun q => q.address == b && q.lapsesNow) = true then Mark.move .altered (s.markOf b) else s.markOf b)
           ∧ t.directory.pacing = []
           ∧ t.groups = s.groups.map (fun (g : Group) =>
                                        { g with members := g.members.filter (fun b =>
                                                                                s.heldOut.all (fun q =>
                                                                                                 q.address != b)) })
           ∧ t.pool = (if order.find? (fun o => o == .leaseDirectory || o == .addressPool) = some .addressPool
                         then s.poolWithHolds s.pool.epochAged else (s.poolWithHolds s.pool).epochAged)
           ∧ (s.census.mode = .serving → t.queue = s.queueAfterHolds ∧ t.census = s.census ∧ t.port = s.port
                ∧ t.prober.sweep = s.prober.sweep.map (fun w => { w with scanning := true }))
           ∧ (s.census.mode = .census → s.census.window ≤ 1 → t.queue = s.queueAfterHolds
                ∧ t.census = { s.census with mode := .serving, window := 0 } ∧ t.port = s.port.withCause .census)
           ∧ (s.census.mode = .census → 2 ≤ s.census.window → s.queue.entries.any TxEntry.waitingCensus = true →
                t.queue = State.censusUpdated { s with queue := s.queueAfterHolds }
                (censusFrame (s.census.window - 1) s.params.epochPeriod)
                ∧ t.census = { s.census with window := s.census.window - 1 } ∧ t.port = s.port)
           ∧ (s.census.mode = .census → 2 ≤ s.census.window → s.queue.entries.any TxEntry.waitingCensus = false →
                t.queue = (if order.find? (fun o => o == .leaseDirectory || o == .censusUnit) = some .censusUnit
                             then State.queueAfterHolds { s with queue :=
                                                                   s.claimed .censusUnit (censusFrame
                                                                                            (s.census.window - 1)
                                                                                            s.params.epochPeriod) 0 }
                             else State.claimed { s with queue := s.queueAfterHolds } .censusUnit
                             (censusFrame (s.census.window - 1) s.params.epochPeriod) 0)
                ∧ t.census = { s.census with window := s.census.window - 1 } ∧ t.port = s.port)
           ∧ (s.census.mode = .census → 2 ≤ s.census.window → t.prober.sweep = s.prober.sweep)
           ∧ (s.census.mode = .census → s.census.window ≤ 1 →
                t.prober.sweep = if order.find? (fun o => o == .prober || o == .censusUnit) = some .censusUnit
                then s.prober.sweep.map (fun w => { w with scanning := true }) else s.prober.sweep)
           ∧ t.clock = { epoch := some { period := s.params.epochPeriod, left := 20 * s.params.epochPeriod },
                         taken := PartsTaken.none }
           ∧ t.prober.context = s.prober.context ∧ t.params = s.params ∧ t.line = s.line ∧ t.chance = s.chance
           ∧ t.pending = s.pending)

/-- R44, R111, R28 and R122 as the rows that name them, with R41, R45, R46, R51 and R52 for the rest of the Lease
Directory's part; that each row runs its owner's whole part, once, is the model's choice, log 5, and that it changes
nothing outside ONLINE is log 3. -/
def Obligations.ExpiryRowsRunTheirOwnersPart : Prop :=
  (∀ (s : State) (a : Byte) (r : Record), s.line.state = .online → s.Placed → s.clock.taken.leaseDirectory = false →
       s.recordAt a.toNat = some r → r.state = .bound → r.pinned = false → r.hold = none → r.term ≤ 1 →
     ∃ t, exec (.lapse a) s = .next t ∧
       t.recordAt a.toNat = some { r.lapsedNow with quiet := min (r.quiet + 1) 65535 }
         ∧ t.directory.pacing = [] ∧ t.clock.taken = { s.clock.taken with leaseDirectory := true }
         ∧ t.clock.epoch = s.clock.epoch ∧ t.params = s.params ∧ t.census = s.census ∧ t.line = s.line)
  ∧ (∀ (s : State) (a : Byte) (r : Record), s.line.state = .online → s.Placed →
         s.clock.taken.leaseDirectory = false → s.recordAt a.toNat = some r → r.state = .disputed → r.hold = some 1 →
       ∃ t, exec (.disputeHoldExpiry a) s = .next t ∧
         t.recordAt a.toNat = none
           ∧ (if s.params.quarantineHold = 0 then a.toNat ∈ t.pool.free
                else { address := a.toNat, lastIdentity := r.identity,
                       hold := s.params.quarantineHold } ∈ t.pool.quarantine)
           ∧ t.markOf a.toNat = Mark.move .removed (s.markOf a.toNat) ∧ (∀ g ∈ t.groups, a.toNat ∉ g.members)
           ∧ t.clock.taken = { s.clock.taken with leaseDirectory := true } ∧ t.params = s.params
           ∧ t.census = s.census ∧ t.line = s.line ∧ t.port = s.port ∧ t.queue = s.queueAfterHolds)
  ∧ (∀ (s : State), s.line.state = .online → s.clock.taken.addressPool = false →
         (∃ q ∈ s.pool.quarantine, q.hold = 1) →
       exec .quarantineHoldExpiry s = .next { s with
                                                pool := { free := s.pool.free ++ (s.pool.quarantine.filter
                                                                                    (fun q => q.hold - 1 == 0)).map
                                                            (fun q => q.address), quarantine :=
                                                            (s.pool.quarantine.map (fun q =>
                                                                                      { q with hold :=
                                                                                                 q.hold - 1
                                                                                                 })).filter
                                                            (fun q => q.hold != 0) }, clock :=
                                                  { s.clock with taken := { s.clock.taken with addressPool := true }
                                                                   } })
  ∧ (∀ (s : State), s.line.state = .online → s.clock.taken.censusUnit = false → s.census.mode = .census →
         s.census.window = 1 →
       exec .censusWindowEnd s = .next { s with census := { s.census with mode := .serving, window := 0 },
                                                port := s.port.withCause .census, clock :=
                                                  { s.clock with taken := { s.clock.taken with censusUnit := true } }
                                                  })
  ∧ (∀ (s : State) (a : Byte) (c : Instr), s.line.state = .online → s.Placed → s.Shaped →
         s.clock.taken.leaseDirectory = false →
         ((c = .lapse a ∧ (s.recordAt a.toNat).any (fun r => r.lapsesNow) = true)
            ∨ (c = .disputeHoldExpiry a ∧ (s.recordAt a.toNat).any
                 (fun r => r.state == .disputed && r.hold == some 1) = true)) →
       ∃ t, exec c s = .next t ∧
         t.directory.records = (s.directory.records.filter (fun q => !q.holdRunsOut)).map (fun q => q.epochAged)
           ∧ t.directory.lapseList = (s.directory.lapseList
                                        ++ (s.directory.records.filter (fun q => q.lapsesNow && !s.isTarget q)).map
                                        (fun q => q.address)).filter (fun b =>
                                                                        s.heldOut.all (fun q => q.address != b))
           ∧ (∀ b : Nat, t.markOf b = if s.heldOut.any (fun q => q.address == b) = true
                then Mark.move .removed (s.markOf b) else if s.directory.records.any
                (fun q => q.address == b && q.lapsesNow) = true then Mark.move .altered (s.markOf b) else s.markOf b)
           ∧ t.directory.pacing = [] ∧ t.pool = s.poolWithHolds s.pool
           ∧ t.groups = s.groups.map (fun (g : Group) =>
                                        { g with members := g.members.filter (fun b =>
                                                                                s.heldOut.all (fun q =>
                                                                                                 q.address != b)) })
           ∧ t.queue = s.queueAfterHolds
           ∧ t.clock = { s.clock with taken := { s.clock.taken with leaseDirectory := true } }
           ∧ t = { s with directory := t.directory, pool := t.pool, groups := t.groups, queue := t.queue,
                          clock := t.clock })
  ∧ (∀ (s : State) (a : Byte) (c : Instr),
         (((c = .lapse a ∨ c = .disputeHoldExpiry a) ∧ s.clock.taken.leaseDirectory = true)
            ∨ (c = .quarantineHoldExpiry ∧ s.clock.taken.addressPool = true)
            ∨ (c = .censusWindowEnd ∧ s.clock.taken.censusUnit = true)
            ∨ ((c = .lapse a ∨ c = .disputeHoldExpiry a ∨ c = .quarantineHoldExpiry ∨ c = .censusWindowEnd)
                 ∧ s.line.state ≠ .online)) →
       exec c s = .next s)
  ∧ (∀ (s : State) (a : Byte) (c : Instr) (order : List EpochOwner) (u : State), s.line.state = .online →
         ((c = .lapse a ∧ (s.recordAt a.toNat).any (fun r => r.lapsesNow) = true)
            ∨ (c = .disputeHoldExpiry a ∧ (s.recordAt a.toNat).any
                 (fun r => r.state == .disputed && r.hold == some 1) = true)) →
         exec c s = .next u →
       exec (.epochExpiry order) u = exec (.epochExpiry (.leaseDirectory :: order)) s)

/-- R162, R175 and R176: Set Parameter and Read Parameters. -/
def Obligations.ParametersAreWrittenWithinTheirRanges : Prop :=
  (∀ (s : State) (lh : Nat × Nat), s.port.state ≠ .busy → parameterRange (s.p 0) = some lh →
       lh.1 ≤ 256 * s.p 1 + s.p 2 → 256 * s.p 1 + s.p 2 ≤ lh.2 →
     ∃ t, exec .setParameter s = .next t ∧
       t.params.values = s.params.values.set (s.p 0 - 1) (256 * s.p 1 + s.p 2)
         ∧ t = { s with params := t.params, port := s.port.completed 0x01 .ok })
  ∧ (∀ (s : State), s.port.state ≠ .busy → s.p 0 ≠ 0x12 →
         (∀ lh ∈ parameterRange (s.p 0), 256 * s.p 1 + s.p 2 < lh.1 ∨ lh.2 < 256 * s.p 1 + s.p 2) →
       exec .setParameter s = .next { s with port := s.port.completed 0x01 .badValue })
  ∧ (∀ (s : State), s.port.state ≠ .busy → s.p 0 = 0x12 →
       exec .setParameter s = .next (if 256 * s.p 1 + s.p 2 ≤ 0x7F
                                       then { s with port := { s.port.completed 0x01 .ok with
                                                                 enables := byteOf (s.p 2) } }
                                       else { s with port := s.port.completed 0x01 .badValue }))
  ∧ (∀ (s : State), s.port.state ≠ .busy →
       exec .readParameters s = .next { s with port :=
                                                 s.port.shown 0x02 [18] (padded ((s.params.values
                                                                                    ++
                                                                                    [s.port.enables.toNat]).flatMap
                                                                                   (fun v => [byteOf (v / 256),
                                                                                              byteOf v]))) })

/-- R164, R32 and R6: Reserve, Load Reservations and Release Reservation. That Load Reservations sets the buffer
pointer to 0 is log 15. -/
def Obligations.ReservationsAreMadeAndReleasedByTheirChecks : Prop :=
  (∀ (s : State), s.port.state ≠ .busy → s.Placed → leasable (s.p 0) = true → validIdentity s.pIdentity = true →
       s.p 7 ≤ 1 → s.p 0 ∉ s.addresses → s.recordOf s.pIdentity = none → s.directory.records.length < 192 →
     ∃ t, exec .reserve s = .next t ∧
       s.Creates t { address := s.p 0, identity := s.pIdentity, state := .reserved, pinned := s.p 7 == 1, term := 0,
                     granted := none, quiet := 0, attempts := 0, rival := none, offer := none, hold := none }
         ∧ t.pool = s.poolTaken (s.p 0)
         ∧ t = { s with directory := t.directory, pool := t.pool, port := s.port.completed 0x10 .ok })
  ∧ (∀ (s : State), s.port.state ≠ .busy → s.Placed → s.reserveOutcome (s.p 0) s.pIdentity (s.p 7) ≠ .ok →
       exec .reserve s = .next { s with port := s.port.completed 0x10 (s.reserveOutcome (s.p 0) s.pIdentity (s.p 7))
                                          })
  ∧ (∀ (s : State), s.port.state ≠ .busy → s.Placed → 1 ≤ s.p 0 → s.p 0 ≤ 32 → s.port.buffer.length = 256 →
         s.port.parameters.length = 8 →
       ∃ t, exec .loadReservations s = .next t ∧
         t.directory = (s.afterEntries (s.p 0)).directory ∧ t.pool = (s.afterEntries (s.p 0)).pool
           ∧ t.port = { s.port.answered 0x11 [byteOf (s.entriesReserved (s.p 0)),
                                              byteOf (s.p 0 - s.entriesReserved (s.p 0))] with
                          buffer := t.port.buffer, pointer := 0 }
           ∧ t.port.buffer.length = 256
           ∧ (∀ k ∈ List.range 256, t.port.buffer.getD k 0 = if k % 8 = 7
                ∧ k < 8 * s.p 0 then byteOf (s.entryOutcome (k / 8)).code else s.port.buffer.getD k 0)
           ∧ t = { s with directory := t.directory, pool := t.pool, port := t.port })
  ∧ (∀ (s : State), s.port.state ≠ .busy → (s.p 0 = 0 ∨ 32 < s.p 0) →
       exec .loadReservations s = .next { s with port := s.port.completed 0x11 .badValue })
  ∧ (∀ (s : State) (r : Record), s.port.state ≠ .busy → leasable (s.p 0) = true → s.recordAt (s.p 0) = some r →
         r.state = .reserved →
       ∃ t, exec .releaseReservation s = .next t ∧
         s.Ends t (s.p 0) { s.pool with free := s.pool.free ++ [s.p 0] } (Mark.move .removed (s.markOf (s.p 0)))
           ∧ t = { s with directory := t.directory, pool := t.pool, groups := t.groups,
                          port := s.port.completed 0x12 .ok })
  ∧ (∀ (s : State), s.port.state ≠ .busy → s.recordOutcome (s.p 0) (fun st => st == .reserved) ≠ .ok →
       exec .releaseReservation s = .next { s with port :=
                                                     s.port.completed 0x12 (s.recordOutcome (s.p 0)
                                                                              (fun st => st == .reserved)) })

/-- R12 and R8: Pin and Unpin. -/
def Obligations.PinAndUnpinMoveOnlyTheFlagAndALapse : Prop :=
  (∀ (s : State) (r : Record), s.port.state ≠ .busy → s.Placed → s.LapseListed → leasable (s.p 0) = true →
       s.recordAt (s.p 0) = some r → (r.state = .reserved ∨ r.state = .bound ∨ r.state = .disputed) →
       r.pinned = false →
     ∃ t, exec .pin s = .next t ∧
       s.Alters t { r with pinned := true }
         ∧ t = { s with directory := t.directory, port := s.port.completed 0x22 .ok })
  ∧ (∀ (s : State) (r : Record), s.port.state ≠ .busy → leasable (s.p 0) = true → s.recordAt (s.p 0) = some r →
         r.state = .lapsed → r.pinned = false →
       ∃ t, exec .pin s = .next t ∧
         s.Alters t { r with pinned := true, state := .bound, quiet := 0, attempts := 0, offer := none,
                             rival := none, hold := none }
           ∧ t = { s with directory := t.directory, port := s.port.completed 0x22 .ok })
  ∧ (∀ (s : State) (r : Record), s.port.state ≠ .busy → leasable (s.p 0) = true → s.recordAt (s.p 0) = some r →
         r.state ≠ .offered → r.pinned = true →
       exec .pin s = .next { s with port := s.port.completed 0x22 .ok })
  ∧ (∀ (s : State), s.port.state ≠ .busy → s.recordOutcome (s.p 0) (fun st => st != .offered) ≠ .ok →
       exec .pin s = .next { s with port := s.port.completed 0x22
                                      (s.recordOutcome (s.p 0) (fun st => st != .offered)) })
  ∧ (∀ (s : State) (r : Record), s.port.state ≠ .busy → s.Placed → s.LapseListed → s.Shaped →
         leasable (s.p 0) = true → s.recordAt (s.p 0) = some r → r.state ≠ .offered → r.pinned = true →
       ∃ t, exec .unpin s = .next t ∧
         s.Alters t { r with pinned := false }
           ∧ t = { s with directory := t.directory, port := s.port.completed 0x23 .ok })
  ∧ (∀ (s : State) (r : Record), s.port.state ≠ .busy → leasable (s.p 0) = true → s.recordAt (s.p 0) = some r →
         r.state ≠ .offered → r.pinned = false →
       exec .unpin s = .next { s with port := s.port.completed 0x23 .ok })
  ∧ (∀ (s : State), s.port.state ≠ .busy → s.recordOutcome (s.p 0) (fun st => st != .offered) ≠ .ok →
       exec .unpin s = .next { s with port := s.port.completed 0x23
                                        (s.recordOutcome (s.p 0) (fun st => st != .offered)) })

/-- R165 and R161. -/
def Obligations.EvictEndsTheRecordAndAwaitsItsRevoke : Prop :=
  (∀ (s : State) (r : Record), s.port.state ≠ .busy → leasable (s.p 0) = true → s.recordAt (s.p 0) = some r →
       (r.state = .bound ∨ r.state = .lapsed ∨ r.state = .disputed
          ∨ r.offer.any (fun o => o.origin == .rebind) = true) →
       (r.state = .offered ∨ r.offer = none) → r.state ≠ .reserved → s.line.state ≠ .disabled →
       s.hasFreeEntry = true →
     ∃ t, exec .evict s = .next t ∧
       s.Ends t (s.p 0) (s.poolRetired r) (Mark.move .removed (s.markOf (s.p 0)))
         ∧ t.queue = s.queueWith (s.entryOf .directory (.command true)
                                    (if r.state = .disputed then untargetedRevoke (s.p 0)
                                       else targetedRevoke (s.p 0) r.identity))
         ∧ t = { s with directory := t.directory, pool := t.pool, groups := t.groups, queue := t.queue,
                        port := s.port.awaiting 0x21 })
  ∧ (∀ (s : State) (r : Record), s.port.state ≠ .busy → leasable (s.p 0) = true → s.recordAt (s.p 0) = some r →
         (r.state = .bound ∨ r.state = .lapsed ∨ r.state = .disputed
            ∨ r.offer.any (fun o => o.origin == .rebind) = true) →
         (r.state = .offered ∨ r.offer = none) → r.state ≠ .reserved → s.line.state ≠ .disabled →
         s.hasFreeEntry = false →
       ∃ t, exec .evict s = .next t ∧
         s.Ends t (s.p 0) (s.poolRetired r) (Mark.move .removed (s.markOf (s.p 0)))
           ∧ t.queue = { s.queue with waiting := some (if r.state = .disputed then untargetedRevoke (s.p 0)
                                                         else targetedRevoke (s.p 0) r.identity) }
           ∧ t = { s with directory := t.directory, pool := t.pool, groups := t.groups, queue := t.queue,
                          port := s.port.awaiting 0x21 })
  ∧ (∀ (s : State) (r : Record), s.port.state ≠ .busy → leasable (s.p 0) = true → s.recordAt (s.p 0) = some r →
         (r.state = .bound ∨ r.state = .lapsed ∨ r.state = .disputed
            ∨ r.offer.any (fun o => o.origin == .rebind) = true) →
         (r.state = .offered ∨ r.offer = none) → r.state ≠ .reserved → s.line.state = .disabled →
       ∃ t, exec .evict s = .next t ∧
         s.Ends t (s.p 0) (s.poolRetired r) (Mark.move .removed (s.markOf (s.p 0)))
           ∧ t = { s with directory := t.directory, pool := t.pool, groups := t.groups,
                          port := s.port.completed 0x21 .undelivered })
  ∧ (∀ (s : State) (r : Record), s.port.state ≠ .busy → leasable (s.p 0) = true → s.recordAt (s.p 0) = some r →
         r.state = .offered → r.offer.all (fun o => o.origin != .rebind) = true →
       ∃ t, exec .evict s = .next t ∧
         s.Ends t (s.p 0) { s.pool with free := s.p 0 :: s.pool.free } (Mark.move .removed (s.markOf (s.p 0)))
           ∧ t = { s with directory := t.directory, pool := t.pool, groups := t.groups,
                          port := s.port.completed 0x21 .ok })
  ∧ (∀ (s : State), s.port.state ≠ .busy → s.recordOutcome (s.p 0) (fun st => st != .reserved) ≠ .ok →
       exec .evict s = .next { s with port := s.port.completed 0x21
                                        (s.recordOutcome (s.p 0) (fun st => st != .reserved)) })

/-- R112 to R115. -/
def Obligations.AwardGivesTheAddressToOneParty : Prop :=
  (∀ (s : State) (r : Record), s.port.state ≠ .busy → s.Placed → s.LapseListed → leasable (s.p 0) = true →
       s.recordAt (s.p 0) = some r → r.state = .disputed → s.p 1 = 0 → r.rival = none →
     ∃ t, exec .award s = .next t ∧
       s.Alters t (r.boundWith (s.grantedOf r) 0)
         ∧ t = { s with directory := t.directory, port := s.port.completed 0x24 .ok })
  ∧ (∀ (s : State) (r : Record) (i : Identity), s.port.state ≠ .busy → s.Placed → s.LapseListed →
         leasable (s.p 0) = true → s.recordAt (s.p 0) = some r → r.state = .disputed → s.p 1 = 0 → r.rival = some i →
         s.line.state ≠ .disabled → s.hasFreeEntry = true →
       ∃ t, exec .award s = .next t ∧
         s.Alters t (r.boundWith (s.grantedOf r) 0)
           ∧ t.queue = s.queueWith (s.entryOf .directory (.command true) (targetedRevoke (s.p 0) i))
           ∧ t = { s with directory := t.directory, queue := t.queue, port := s.port.awaiting 0x24 })
  ∧ (∀ (s : State) (r : Record) (i : Identity), s.port.state ≠ .busy → s.Placed → s.LapseListed →
         leasable (s.p 0) = true → s.recordAt (s.p 0) = some r → r.state = .disputed → s.p 1 = 1 → r.rival = some i →
         (s.recordOf i).all (fun q => q.address == r.address) = true → s.line.state ≠ .disabled →
         s.hasFreeEntry = true →
       ∃ t, exec .award s = .next t ∧
         s.Alters t ({ r with identity := i, pinned := false }.boundWith (s.grantTerm 0) 0)
           ∧ t.groups = struck (s.p 0) s.groups
           ∧ t.queue = s.queueWith (s.entryOf .directory (.command true) (targetedRevoke (s.p 0) r.identity))
           ∧ t = { s with directory := t.directory, groups := t.groups, queue := t.queue,
                          port := s.port.awaiting 0x24 })
  ∧ (∀ (s : State) (r : Record) (i : Identity), s.port.state ≠ .busy → s.Placed → s.LapseListed →
         leasable (s.p 0) = true → s.recordAt (s.p 0) = some r → r.state = .disputed → s.p 1 = 1 → r.rival = some i →
         (s.recordOf i).all (fun q => q.address == r.address) = true → s.line.state = .disabled →
       ∃ t, exec .award s = .next t ∧
         s.Alters t ({ r with identity := i, pinned := false }.boundWith (s.grantTerm 0) 0)
           ∧ t.groups = struck (s.p 0) s.groups
           ∧ t = { s with directory := t.directory, groups := t.groups, port := s.port.completed 0x24 .undelivered })
  ∧ (∀ (s : State), s.port.state ≠ .busy → s.awardOutcome (s.p 0) (s.p 1) ≠ .ok →
       exec .award s = .next { s with port := s.port.completed 0x24 (s.awardOutcome (s.p 0) (s.p 1)) })
  ∧ (∀ (s : State) (r : Record) (i : Identity), s.port.state ≠ .busy → s.Placed → s.LapseListed →
         leasable (s.p 0) = true → s.recordAt (s.p 0) = some r → r.state = .disputed → s.p 1 = 0 → r.rival = some i →
         s.line.state = .disabled →
       ∃ t, exec .award s = .next t ∧
         s.Alters t (r.boundWith (s.grantedOf r) 0)
           ∧ t = { s with directory := t.directory, port := s.port.completed 0x24 .undelivered })
  ∧ (∀ (s : State) (r : Record) (i : Identity), s.port.state ≠ .busy → s.Placed → s.LapseListed →
         leasable (s.p 0) = true → s.recordAt (s.p 0) = some r → r.state = .disputed → s.p 1 = 0 → r.rival = some i →
         s.line.state ≠ .disabled → s.hasFreeEntry = false →
       ∃ t, exec .award s = .next t ∧
         s.Alters t (r.boundWith (s.grantedOf r) 0)
           ∧ t = { s with directory := t.directory, queue :=
                            { s.queue with waiting := some (targetedRevoke (s.p 0) i) },
                          port := s.port.awaiting 0x24 })
  ∧ (∀ (s : State) (r : Record) (i : Identity), s.port.state ≠ .busy → s.Placed → s.LapseListed →
         leasable (s.p 0) = true → s.recordAt (s.p 0) = some r → r.state = .disputed → s.p 1 = 1 → r.rival = some i →
         (s.recordOf i).all (fun q => q.address == r.address) = true → s.line.state ≠ .disabled →
         s.hasFreeEntry = false →
       ∃ t, exec .award s = .next t ∧
         s.Alters t ({ r with identity := i, pinned := false }.boundWith (s.grantTerm 0) 0)
           ∧ t.groups = struck (s.p 0) s.groups
           ∧ t = { s with directory := t.directory, groups := t.groups,
                          queue := { s.queue with waiting := some (targetedRevoke (s.p 0) r.identity) },
                          port := s.port.awaiting 0x24 })

/-- R120, R121, R123, R101 and R104: Start Census, End Census, Start Sweep and Stop Sweep. That every CENSUS frame
waiting unsent is brought up to date, should two wait, is log 14. -/
def Obligations.CensusAndSweepCommandsSetTheirContexts : Prop :=
  (∀ (s : State), s.port.state ≠ .busy → s.line.state = .online → s.queue.entries.any TxEntry.waitingCensus = false →
     exec .startCensus s = .next { s with census :=
                                            { s.census with mode := .census, window := s.params.censusWindow },
                                          queue := s.claimed .censusUnit (censusFrame s.params.censusWindow
                                                                            s.params.epochPeriod) 0,
                                          port := s.port.completed 0x30 .ok })
  ∧ (∀ (s : State), s.port.state ≠ .busy → s.line.state = .online →
         s.queue.entries.any TxEntry.waitingCensus = true →
       ∃ t, exec .startCensus s = .next t ∧
         t.census = { s.census with mode := .census, window := s.params.censusWindow }
           ∧ t.queue = { s.queue with entries := s.queue.entries.map
                                        (fun e => if e.waitingCensus then { e with
                                                                              frame := censusFrame
                                                                                s.params.censusWindow
                                                                                s.params.epochPeriod,
                                                                              check := (censusFrame
                                                                                          s.params.censusWindow
                                                                                          s.params.epochPeriod).check
                                                                                } else e) }
           ∧ t = { s with census := t.census, queue := t.queue, port := s.port.completed 0x30 .ok })
  ∧ (∀ (s : State), s.port.state ≠ .busy → s.line.state ≠ .online →
       exec .startCensus s = .next { s with port := s.port.completed 0x30 .lineDown })
  ∧ (∀ (s : State), s.port.state ≠ .busy → s.census.mode = .census →
       exec .endCensus s = .next { s with census := { s.census with mode := .serving, window := 0 },
                                          port := (s.port.withCause .census).completed 0x31 .ok })
  ∧ (∀ (s : State), s.port.state ≠ .busy → s.census.mode = .serving →
       exec .endCensus s = .next { s with port := s.port.completed 0x31 .ok })
  ∧ (∀ (s : State), s.port.state ≠ .busy → leasable (s.p 0) = true → leasable (s.p 1) = true → s.p 0 ≤ s.p 1 →
         s.p 2 ≤ 1 → s.p 3 ≤ 1 →
       exec .startSweep s = .next { s with prober :=
                                             { s.prober with sweep := some { scanning := true, first := s.p 0,
                                                                             last := s.p 1, mode := if s.p 2 = 0
                                                                               then .once else .continuous,
                                                                             notice := if s.p 3 = 0 then .everyPass
                                                                               else .everyFourth, threshold := s.p 4,
                                                                             cursor := s.p 0, passes := 0 } },
                                           port := s.port.completed 0x32 .ok })
  ∧ (∀ (s : State), s.port.state ≠ .busy →
         (leasable (s.p 0) = false ∨ leasable (s.p 1) = false ∨ s.p 1 < s.p 0 ∨ 1 < s.p 2 ∨ 1 < s.p 3) →
       exec .startSweep s = .next { s with port := s.port.completed 0x32 .badValue })
  ∧ (∀ (s : State), s.port.state ≠ .busy →
       exec .stopSweep s = .next { s with prober := { s.prober with sweep := none },
                                          port := s.port.completed 0x33 .ok })

/-- R138 and R139: Group Assign, Group Remove, Read Group, Set Group Mode and Clear Group. -/
def Obligations.GroupCommandsEditTheListsByTheirChecks : Prop :=
  (∀ (s : State), s.port.state ≠ .busy → s.groups.length = 32 → s.groupAssignOutcome (s.p 0) (s.p 1) = .ok →
     ∃ t, exec .groupAssign s = .next t ∧
       t.groups = s.groups.set (s.p 0 - 1) { s.group (s.p 0) with members := (s.group (s.p 0)).members ++ [s.p 1] }
         ∧ t.directory = { s.directory with marks := t.directory.marks }
         ∧ s.MarkOnly t (s.p 1) (Mark.move .altered (s.markOf (s.p 1)))
         ∧ t = { s with directory := t.directory, groups := t.groups, port := s.port.completed 0x40 .ok })
  ∧ (∀ (s : State), s.port.state ≠ .busy → s.groupAssignOutcome (s.p 0) (s.p 1) ≠ .ok →
       exec .groupAssign s = .next { s with port := s.port.completed 0x40 (s.groupAssignOutcome (s.p 0) (s.p 1)) })
  ∧ (∀ (s : State), s.port.state ≠ .busy → groupNumber (s.p 0) = true → leasable (s.p 1) = true →
         s.p 1 ∈ (s.group (s.p 0)).members → s.groups.length = 32 →
       ∃ t, exec .groupRemove s = .next t ∧
         t.groups = s.groups.set (s.p 0 - 1) { s.group (s.p 0) with
                                                 members := (s.group (s.p 0)).members.filter (fun b => b != s.p 1) }
           ∧ t.directory = { s.directory with marks := t.directory.marks }
           ∧ s.MarkOnly t (s.p 1) (Mark.move .altered (s.markOf (s.p 1)))
           ∧ t = { s with directory := t.directory, groups := t.groups, port := s.port.completed 0x41 .ok })
  ∧ (∀ (s : State), s.port.state ≠ .busy → groupNumber (s.p 0) = true → leasable (s.p 1) = true →
         s.p 1 ∉ (s.group (s.p 0)).members →
       exec .groupRemove s = .next { s with port := s.port.completed 0x41 .notMember })
  ∧ (∀ (s : State), s.port.state ≠ .busy → (groupNumber (s.p 0) = false ∨ leasable (s.p 1) = false) →
       exec .groupRemove s = .next { s with port := s.port.completed 0x41 .badValue })
  ∧ (∀ (s : State), s.port.state ≠ .busy → groupNumber (s.p 0) = true → (s.group (s.p 0)).members.length ≤ 16 →
         memberTotal s.groups ≤ 256 →
       exec .readGroup s = .next { s with port := s.port.shown 0x42 [byteOf (s.group (s.p 0)).members.length,
                                                                     if (s.group (s.p 0)).mode = .opened then 0
                                                                       else 1, byteOf ((256 - memberTotal s.groups) /
                                                                                         256), byteOf (256 -
                                                                                                         memberTotal
                                                                                                         s.groups)]
                                            (padded ((s.group (s.p 0)).members.map byteOf)) })
  ∧ (∀ (s : State), s.port.state ≠ .busy → groupNumber (s.p 0) = true → s.p 1 ≤ 1 →
       exec .setGroupMode s = .next { s with groups :=
                                               s.groups.set (s.p 0 - 1) { s.group (s.p 0) with
                                                                            mode := if s.p 1 = 0 then .opened
                                                                              else .closed }, port :=
                                               s.port.completed 0x43 .ok })
  ∧ (∀ (s : State), s.port.state ≠ .busy → (groupNumber (s.p 0) = false ∨ 1 < s.p 1) →
       exec .setGroupMode s = .next { s with port := s.port.completed 0x43 .badValue })
  ∧ (∀ (s : State), s.port.state ≠ .busy → groupNumber (s.p 0) = true → s.Grouped →
       ∃ t, exec .clearGroup s = .next t ∧
         t.groups = s.groups.set (s.p 0 - 1) { s.group (s.p 0) with members := [] }
           ∧ t.directory = { s.directory with marks := t.directory.marks }
           ∧ (∀ b ∈ List.range 256, t.markOf b = if b ∈ (s.group (s.p 0)).members
                then Mark.move .altered (s.markOf b) else s.markOf b)
           ∧ t = { s with directory := t.directory, groups := t.groups, port := s.port.completed 0x44 .ok })
  ∧ (∀ (s : State), s.port.state ≠ .busy → groupNumber (s.p 0) = false →
       exec .readGroup s = .next { s with port := s.port.completed 0x42 .badValue })
  ∧ (∀ (s : State), s.port.state ≠ .busy → groupNumber (s.p 0) = false →
       exec .clearGroup s = .next { s with port := s.port.completed 0x44 .badValue })

/-- R35. -/
def Obligations.ReadFreeListShowsTheWholeList : Prop :=
  ∀ (s : State), s.port.state ≠ .busy → s.pool.free.length ≤ 239 →
    exec .readFreeList s = .next { s with port :=
                                            s.port.shown 0x63 [byteOf s.pool.free.length]
                                            (padded (s.pool.free.map byteOf)) }

/-- R36. -/
def Obligations.ReadQuarantineShowsEntriesFromAnIndex : Prop :=
  ∀ (s : State), s.port.state ≠ .busy → s.pool.quarantine.length ≤ 239 →
    ∃ t, exec .readQuarantine s = .next t ∧
      t.port = s.port.shown 0x64 [byteOf ((s.pool.quarantine.drop (s.p 0)).take 32).length,
                                  byteOf s.pool.quarantine.length] (padded (((s.pool.quarantine.drop (s.p 0)).take
                                                                               32).flatMap (fun q =>
                                                                                              [byteOf q.address]
                                                                                              ++ bytesOfIdentity
                                                                                              q.lastIdentity
                                                                                              ++ [byteOf q.hold])))
        ∧ (s.pool.quarantine.length ≤ s.p 0 → t.p 0 = 0 ∧ t.port.buffer = List.replicate 256 0)
        ∧ t = { s with port := t.port }

/-- R167 and R20. -/
def Obligations.CollectChangesTakesTheFirstThirtyTwoMarks : Prop :=
  ∀ (s : State), s.port.state ≠ .busy → s.Marked → s.Placed → s.port.parameters.length = 8 →
    ∃ t, exec .collectChanges s = .next t ∧
      t.directory = { s.directory with marks := s.directory.marks.drop 32 }
        ∧ (∀ a ∈ List.range 256, a ∈ (s.directory.marks.take 32).map (fun m => m.1) → t.markOf a = .clean)
        ∧ (∀ a ∈ List.range 256, a ∉ (s.directory.marks.take 32).map (fun m => m.1) → t.markOf a = s.markOf a)
        ∧ t.p 0 = (s.directory.marks.take 32).length ∧ t.p 1 = (if t.directory.marks = [] then 0 else 1)
        ∧ t.port.buffer = padded ((s.directory.marks.take 32).flatMap
                                    (fun m => [byteOf m.1] ++ bytesOfIdentity
                                       (if m.2 = .removed then 0 else ((s.recordAt m.1).map
                                                                         (fun r => r.identity)).getD 0)
                                       ++ [byteOf m.2.code]))
        ∧ t.changes = !(s.directory.marks.drop 32).isEmpty
        ∧ t.port = { t.port with code := 0x62, outcome := .ok, error := false, collide := false, state := .result,
                                 pointer := 0, latched := s.port.latched ||| Cause.bit .done,
                                 enables := s.port.enables }
        ∧ t = { s with directory := t.directory, port := t.port }

/-- R166 and section 12.3: Read Record and Read Directory, and the layout of the record view. -/
def Obligations.RecordReadsShowTheRecordView : Prop :=
  (∀ (s : State) (found : Option Record) (r : Record), s.port.state ≠ .busy →
       found = (if s.p 0 = 0 then s.recordAt (s.p 1) else s.recordOf s.pIdentity) →
       ((s.p 0 = 0 ∧ leasable (s.p 1) = true) ∨ (s.p 0 = 1 ∧ validIdentity s.pIdentity = true)) → found = some r →
     ∃ t, exec .readRecord s = .next t ∧
       t.port = { s.port.answered 0x60 [byteOf r.address] with
                    buffer := (s.recordView r ++ s.port.buffer.drop 24).take 256, pointer := 0 }
         ∧ t = { s with port := t.port })
  ∧ (∀ (s : State), s.port.state ≠ .busy →
         (1 < s.p 0 ∨ (s.p 0 = 0 ∧ leasable (s.p 1) = false) ∨ (s.p 0 = 1 ∧ validIdentity s.pIdentity = false)
            ∨ (if s.p 0 = 0 then s.recordAt (s.p 1) else s.recordOf s.pIdentity) = none) →
       exec .readRecord s = .next { s with port := s.port.completed 0x60 (if 1 < s.p 0
                                                                            ∨ (s.p 0 = 0 ∧ leasable (s.p 1) = false)
                                                                            ∨ (s.p 0 = 1 ∧ validIdentity s.pIdentity
                                                                                 = false) then OutcomeCode.badValue
                                                                            else .notFound) })
  ∧ (∀ (s : State) (above : List Record), s.port.state ≠ .busy → s.Placed → leasable (s.p 0) = true → 1 ≤ s.p 1 →
         s.p 1 ≤ 10 → above = s.directory.records.filter (fun r => s.p 0 ≤ r.address) →
       ∃ t, exec .readDirectory s = .next t ∧
         t.port.buffer = ((above.take (s.p 1)).flatMap s.recordView
                            ++ List.replicate (240 - 24 * (above.take (s.p 1)).length) 0
                            ++ s.port.buffer.drop 240).take 256
           ∧ t.port.parameters.take 2 = [byteOf (above.take (s.p 1)).length,
                                         byteOf (if above.length ≤ s.p 1 then 0
                                                   else ((above.take (s.p 1)).getLast?.map
                                                           (fun r => r.address + 1)).getD 0)]
           ∧ t.port.state = .result ∧ t.port.outcome = .ok ∧ t.port.pointer = 0 ∧ t = { s with port := t.port })
  ∧ (∀ (s : State), s.port.state ≠ .busy → (leasable (s.p 0) = false ∨ s.p 1 = 0 ∨ 10 < s.p 1) →
       exec .readDirectory s = .next { s with port := s.port.completed 0x61 .badValue })
  ∧ (∀ (s : State) (r : Record), r.inRange = true → leasable r.address = true → s.groups.length = 32 →
       (s.recordView r).length = 24 ∧ (s.recordView r)[0]? = some (byteOf r.address)
         ∧ (s.recordView r)[1]? = some (byteOf r.state.code)
         ∧ identityOfBytes (((s.recordView r).drop 3).take 6) = r.identity
         ∧ natOfBytes (((s.recordView r).drop 15).take 2) = r.term
         ∧ natOfBytes (((s.recordView r).drop 17).take 2) = r.granted.getD 0
         ∧ natOfBytes (((s.recordView r).drop 19).take 2) = r.quiet
         ∧ natOfBytes (((s.recordView r).drop 21).take 1) = r.attempts
         ∧ natOfBytes (((s.recordView r).drop 22).take 1) =
             (s.groups.filter (fun g => g.members.contains r.address)).length
         ∧ natOfBytes (((s.recordView r).drop 23).take 1) = r.hold.getD 0
         ∧ ((s.recordView r).getD 2 0).getLsbD 0 = r.pinned
         ∧ ((s.recordView r).getD 2 0).getLsbD 1 = r.rival.isSome
         ∧ ((s.recordView r).getD 2 0).getLsbD 2 = s.prober.context.any
             (fun c => c.target == r.address && c.identity == r.identity)
         ∧ ((s.recordView r).getD 2 0).toNat / 8 = (r.offer.map (fun o => o.origin.code)).getD 0
         ∧ (r.offer = none → ((s.recordView r).drop 9).take 6 = bytesOfIdentity (r.rival.getD 0))
         ∧ (r.offer ≠ none → natOfBytes (((s.recordView r).drop 9).take 2) = (r.offer.map (fun o => o.term)).getD 0
              ∧ ((s.recordView r).drop 11).take 4 = [0, 0, 0, 0]))
  ∧ ([Origin.new, .reserved, .rebind].map Origin.code = [1, 2, 3]
     ∧ [RecordState.reserved, .offered, .bound, .lapsed, .disputed].map RecordState.code = [1, 2, 3, 4, 5])

/-- R163 and section 12.5; the cursor and the pass counter with no sweep are free values (log 10) and nothing is said
of them. -/
def Obligations.ReadSummaryCountsAddUp : Prop :=
  ∀ (s : State), s.port.state ≠ .busy → s.Sound →
    ∃ t, exec .readSummary s = .next t ∧
      (t.port.buffer.take 17).map (fun b => b.toNat) =
          [s.countIn .reserved, s.countIn .offered, s.countIn .bound, s.countIn .lapsed, s.countIn .disputed,
           s.directory.records.length, s.pool.free.length, s.pool.quarantine.length, s.directory.marks.length,
           (256 - memberTotal s.groups) / 256, (256 - memberTotal s.groups) % 256, s.line.state.code, s.line.bitRate,
           s.line.termination.code, s.census.mode.code, s.census.window,
           s.prober.sweep.elim 0 (fun w => if w.scanning then 1 else 2)]
        ∧ (s.prober.sweep.all (fun w => (t.port.buffer.drop 17).take 3 == [byteOf w.cursor, byteOf (w.passes / 256),
                                                                           byteOf w.passes]) = true)
        ∧ ((t.port.buffer.drop 20).take 3).map (fun b => b.toNat) =
            s.prober.context.elim [0, 0] (fun c => [if c.kind = .lapse then 1 else 2, c.target])
            ++ [s.line.foreign.toNat]
        ∧ t.port.buffer.drop 23 = List.replicate 233 0
        ∧ (t.port.buffer.getD 5 0).toNat + (t.port.buffer.getD 6 0).toNat + (t.port.buffer.getD 7 0).toNat = 239
        ∧ (t.port.buffer.getD 1 0).toNat ≤ 4
        ∧ t.port = { s.port.answered 0x03 [] with buffer := t.port.buffer, pointer := 0 }
        ∧ t = { s with port := t.port, chance := t.chance }

/-- R168, R23, R37, R105, R131, R140 and R153. -/
def Obligations.ClearDirectoryEmptiesThePartButForTheLine : Prop :=
  ∀ (s : State), s.port.state ≠ .busy →
    exec .clearDirectory s = .next { s with directory :=
                                              { records := [], marks := [], lapseList := [], pacing := [] },
                                            pool := { free := List.range' 1 239, quarantine := [] },
                                            prober := { context := none, sweep := none },
                                            census := { s.census with mode := .serving, window := 0 },
                                            groups := s.groups.map (fun (g : Group) => { g with members := [] }),
                                            queue := { s.queue with entries := (s.queue.entries.filter
                                                                                  (fun e => e.sending)).map
                                                                      (fun e => { detachProbe e with
                                                                                    lastTry := true }),
                                                                    setAside := 0 }, port :=
                                              s.port.completed 0x20 .ok }

/-- R171. -/
def Obligations.PortRestartEndsTheCommandAndNothingElse : Prop :=
  ∀ (s : State),
    exec .portRestart s = .next { s with port := { s.port with code := 0xFF,
                                                               outcome := if s.port.state = .busy then .aborted
                                                                 else .ok, error := s.port.state = .busy,
                                                               collide := false, state := .ready, pointer := 0,
                                                               latched := 0 }, queue := { s.queue with
                                                                                            entries :=
                                                                                              s.queue.entries.map
                                                                                              detachCommand,
                                                                                            waiting := none } }

/-- R159, R160, R170 and R174: BAD_COMMAND, COMMAND_WRITE_WHILE_BUSY, the codes of section 11.3 and Acknowledge
Attention. That a code written in any row that carries one does what the code does is log 11. -/
def Obligations.CodeWritesAreTakenOrCollide : Prop :=
  (∀ (s : State) (c : Byte), s.port.state ≠ .busy → commandCodes.contains c.toNat = false →
     exec (.badCommand c) s = .next { s with port := s.port.completed c .badCommand })
  ∧ (∀ (s : State) (c : Byte), s.port.state = .busy → c ≠ 0xFF →
       exec (.commandWriteWhileBusy c) s = .next { s with port := { s.port with collide := true } })
  ∧ (∀ (s : State) (c : Instr), s.port.state = .busy → c ∈ hostCommands →
       exec c s = .next { s with port := { s.port with collide := true } })
  ∧ (∀ (s : State), s.port.state ≠ .busy →
       exec .acknowledgeAttention s = .next { s with
                                                port := { s.port with code := 0x04,
                                                                      latched := s.port.latched &&& ~~~byteOf
                                                                        (s.p 0), outcome := .ok, error := false,
                                                                      collide := false, state := .ready } })
  ∧ (∀ (s : State) (x : Byte × Instr), s.port.state ≠ .busy → x ∈ codeRows →
       ∃ t, exec x.2 s = .next t ∧
         t.port.code = x.1 ∧ t.port.collide = false)
  ∧ (∀ (s : State) (x : Byte × Instr) (more : List Byte), x ∈ (0xFF, .portRestart) :: codeRows →
       exec (.registerWrite 0x88 (x.1 :: more)) s = exec x.2 s
         ∧ exec (.commandWriteWhileBusy x.1) s = exec x.2 s ∧ exec (.badCommand x.1) s = exec x.2 s)
  ∧ (∀ (s : State) (b : Byte),
       (∃ t, exec .bufferDataRead s = .next t ∧ t = { s with port := t.port })
         ∧ (∃ t, exec (.bufferDataWrite b) s = .next t ∧ t = { s with port := t.port })
         ∧ (∃ t, exec (.attentionEnablesWrite b) s = .next t ∧ t = { s with port := t.port }))
  ∧ (∀ (s : State) (h : Byte) (d : List Byte), (h.getLsbD 7 = false ∨ h.toNat % 128 ≠ 8) →
       ∃ t, exec (.registerWrite h d) s = .next t ∧
         t = { s with port := t.port })

/-- R157, R158, R169 and R174: the buffer data byte, the attention enables and whole transactions, their header's bit
7 telling a write from a read and bits 6 to 0 the offset. That REGISTER_WRITE is any transaction, a read included, is
log 27. -/
def Obligations.WindowAccessesActByteByByte : Prop :=
  (∀ (s : State), s.port.state ≠ .busy →
     exec .bufferDataRead s = .next { s with port :=
                                               { s.port with dataOut := s.port.buffer.getD s.port.pointer.toNat 0,
                                                             pointer := s.port.pointer + 1 } })
  ∧ (∀ (s : State), s.port.state = .busy →
       exec .bufferDataRead s = .next { s with port := { s.port with dataOut := 0 } })
  ∧ (∀ (s : State) (b : Byte), s.port.state ≠ .busy →
       exec (.bufferDataWrite b) s = .next { s with port :=
                                                      { s.port with buffer := s.port.buffer.set s.port.pointer.toNat
                                                                      b, pointer := s.port.pointer + 1 } })
  ∧ (∀ (s : State) (b : Byte), s.port.state = .busy →
       exec (.bufferDataWrite b) s = .next s)
  ∧ (∀ (s : State) (b : Byte),
       ∃ t, exec (.attentionEnablesWrite b) s = .next t ∧
         t = { s with port := { s.port with enables := b &&& 0x7F } }
           ∧ (t.attn = true ↔ (t.attentionPending &&& b &&& 0x7F) ≠ 0))
  ∧ (∀ (s : State) (b : Byte) (off : BitVec 7) (more : List Byte), off.toNat < 8 →
       exec (.registerWrite (byteOf (128 + off.toNat)) (b :: more)) s =
           .next { s with port := { s.port with parameters := s.port.parameters.set off.toNat b } })
  ∧ (∀ (s : State) (b : Byte) (more : List Byte), s.port.state ≠ .busy →
       exec (.registerWrite 0x8D (b :: more)) s = .next { s with port := { s.port with pointer := b } })
  ∧ (∀ (s : State) (b : Byte) (more : List Byte),
       exec (.registerWrite 0x8C (b :: more)) s = exec (.attentionEnablesWrite b) s
         ∧ exec (.registerWrite 0x8E [b]) s = exec (.bufferDataWrite b) s
         ∧ exec (.registerWrite 0x88 (b :: more)) s = exec (.commandWriteWhileBusy b) s)
  ∧ (∀ (s : State) (d : List Byte) (off : BitVec 7), (off = 0x09 ∨ off = 0x0A ∨ off = 0x0B ∨ 0x0F ≤ off.toNat) →
       exec (.registerWrite (byteOf (128 + off.toNat)) d) s = .next s)
  ∧ (∀ (s : State) (b : Byte) (more : List Byte), s.port.state = .busy →
       exec (.registerWrite 0x8D (b :: more)) s = .next s)
  ∧ (∀ (s : State) (b : Byte) (more : List Byte) (off : BitVec 7), off ≠ 0x0E →
       exec (.registerWrite (byteOf off.toNat) (b :: more)) s =
           .next { s with port := { s.port with dataOut := if off.toNat < 8 then s.port.parameters.getD off.toNat 0
                                                  else if off = 0x08 then s.port.code else if off = 0x09
                                                  then s.portStatus else if off = 0x0A
                                                  then byteOf s.port.outcome.code else if off = 0x0B
                                                  then s.attentionPending else if off = 0x0C then s.port.enables
                                                  else if off = 0x0D then s.port.pointer else 0 } })
  ∧ (∀ (s : State) (b : Byte) (more : List Byte) (u : State), exec (.bufferDataWrite b) s = .next u →
       exec (.registerWrite 0x8E (b :: more)) s = exec (.registerWrite 0x8E more) u)
  ∧ (∀ (s : State) (b : Byte) (more : List Byte) (u : State), exec .bufferDataRead s = .next u →
       exec (.registerWrite 0x0E (b :: more)) s = exec (.registerWrite 0x0E more) u)
  ∧ (∀ (s : State) (h : Byte),
       exec (.registerWrite h []) s = .next s)
  ∧ (∀ (s : State),
       s.portStatus.toNat % 4 = s.port.state.code ∧ s.portStatus.getLsbD 2 = s.port.error
         ∧ s.portStatus.getLsbD 3 = s.port.collide ∧ s.portStatus.toNat / 16 % 4 = s.line.state.code
         ∧ s.portStatus.toNat / 64 = s.census.mode.code)
  ∧ (∀ (s : State),
       s.attentionPending &&& 0x3F = s.port.latched &&& 0x3F ∧ s.attentionPending.getLsbD 7 = false
         ∧ (s.attn = true ↔ (s.attentionPending &&& s.port.enables) ≠ 0))
  ∧ (∀ (s : State), s.Marked →
       (s.attentionPending.getLsbD 6 = true ↔ ∃ a : Nat, s.markOf a ≠ .clean))
  ∧ (∀ (s : State),
       State.termOutputs { s with line := { s.line with termination := .openCircuit } } = (false, false)
         ∧ State.termOutputs { s with line := { s.line with termination := .high } } = (false, true)
         ∧ State.termOutputs { s with line := { s.line with termination := .mid } } = (true, false)
         ∧ State.termOutputs { s with line := { s.line with termination := .low } } = (true, true))
  ∧ ([OutcomeCode.ok, .badValue, .notFound, .wrongState, .addressHeld, .identityHeld, .full, .lineDown, .undelivered,
      .aborted, .badCommand, .already, .groupFull, .noEntries, .notMember].map OutcomeCode.code = List.range 15
     ∧ [Cause.done, .dispute, .line, .sweep, .census, .pool].map Cause.bit = [0x01, 0x02, 0x04, 0x08, 0x10, 0x20]
     ∧ [PortState.ready, .busy, .result].map PortState.code = [0, 1, 2]
     ∧ [LineState.disabled, .settling, .online, .fault].map LineState.code = [0, 1, 2, 3]
     ∧ [Mode.serving, .census].map Mode.code = [0, 1] ∧ [Gate.opened, .closed].map Gate.code = [0, 1]
     ∧ [DisputePolicy.hold, .revoke].map DisputePolicy.code = [0, 1]
     ∧ [Termination.openCircuit, .high, .mid, .low].map Termination.code = [0, 1, 2, 3]
     ∧ [Mark.added, .altered, .removed, .replaced].map Mark.code = [1, 2, 3, 4])

/-- R18's table, entry by entry, and the mark an event leaves. -/
def Obligations.MarksMoveAsTheTableGives : Prop :=
  (Mark.move .created .clean = .added ∧ Mark.move .created .removed = .replaced
   ∧ Mark.move .altered .clean = .altered ∧ Mark.move .altered .added = .added
   ∧ Mark.move .altered .altered = .altered ∧ Mark.move .altered .replaced = .replaced
   ∧ Mark.move .removed .clean = .removed ∧ Mark.move .removed .added = .clean
   ∧ Mark.move .removed .altered = .removed ∧ Mark.move .removed .replaced = .removed)
  ∧ (∀ (s : State) (e : MarkEvent) (a b : Nat),
       (s.note e a).markOf b = if b = a then Mark.move e (s.markOf a) else s.markOf b)

/-- R173 and R147: the register over bits followed by their own check is 0, and the empty frame's check is FFFFh; one
more bit shifts the register, and combines it with 5935h when the bit differs from bit 15; the bits a transmitter
sends hold no eight equal consecutive bits, and removing the stuff bits gives them back; and the fields of a frame in
the order sent, and the kind code, priority, destination and payload of every frame the DL416 sends, section 12.2,
R62, R72, R91, R121, R129, R134 and R150. That stuff bits count in runs and that none follows the last check bit is
log 17. -/
def Obligations.CheckAndStuffingLoseNoBit : Prop :=
  ((∀ bits : List Bool, crc (bits ++ bitsOf (crc bits)) = 0) ∧ crc [] = 0xFFFF)
  ∧ (∀ bits : List Bool, runsWithin 7 true 0 (stuffFrom true 0 bits) = true
     ∧ unstuff false true 0 (stuffFrom true 0 bits) = bits)
  ∧ (∀ (bits : List Bool) (b : Bool), crc (bits ++ [b]) = if b = (crc bits).getLsbD 15 then crc bits <<< 1
         else (crc bits <<< 1) ^^^ 0x5935)
  ∧ (∀ (f : Frame),
       f.fieldBits = bitsOf f.priority ++ bitsOf f.source ++ (if f.source = 0 then bitsOf f.identity else [])
           ++ bitsOf f.destination ++ bitsOf f.kind ++ bitsOf (BitVec.ofNat 5 f.payload.length)
           ++ f.payload.flatMap bitsOf
         ∧ f.check = crc f.fieldBits ∧ f.lineBits = stuffFrom true 0 (false :: (f.fieldBits ++ bitsOf f.check))
         ∧ f.arbitrationBits = stuffFrom true 0 (false :: (bitsOf f.priority ++ bitsOf f.source))
         ∧ (∀ k : Half, f.checkedBits k = stuffFrom true 0 (false :: (f.fieldBits ++ bitsOf k))))
  ∧ ((∀ (w : Nat) (v : BitVec w), bitsOf v = (List.range w).map (fun j => v.getLsbD (w - 1 - j)))
     ∧ (∀ i : Identity, bytesOfIdentity i = (List.range 6).map (fun j => i.extractLsb' (40 - 8 * j) 8))
     ∧ (∀ m : Nat, bytesOfHalf m = [BitVec.ofNat 8 (m / 256), BitVec.ofNat 8 m]))
  ∧ (∀ (i : Identity) (d m k : Nat),
       offerFrame i d m k = { priority := 1, source := 0xFE, identity := 0, destination := 0, kind := 0x20,
                              payload := bytesOfIdentity i ++ [byteOf d] ++ bytesOfHalf m ++ [byteOf k] }
         ∧ probeFrame d = { priority := 2, source := 0xFE, identity := 0, destination := byteOf d, kind := 0x24,
                            payload := [] }
         ∧ targetedRevoke d i = { priority := 0, source := 0xFE, identity := 0, destination := byteOf d,
                                  kind := 0x25, payload := bytesOfIdentity i }
         ∧ untargetedRevoke d = { priority := 0, source := 0xFE, identity := 0, destination := byteOf d,
                                  kind := 0x25, payload := [] }
         ∧ censusFrame d k = { priority := 2, source := 0xFE, identity := 0, destination := 0xFF, kind := 0x26,
                               payload := [byteOf d, byteOf k] })
  ∧ (∀ (i : Identity) (x : RefusalReason),
       joinRefusedFrame i x = { priority := 1, source := 0xFE, identity := 0, destination := 0, kind := 0x21,
                                payload := bytesOfIdentity i ++ [byteOf x.code] })
  ∧ (∀ (d m : Nat) (x : RenewOutcome),
       renewReply d x m = { priority := 1, source := 0xFE, identity := 0, destination := byteOf d, kind := 0x22,
                            payload := [byteOf x.code] ++ bytesOfHalf m })
  ∧ (∀ (d m k : Nat) (x : ClaimOutcome),
       claimReply d x k m = { priority := 1, source := 0xFE, identity := 0, destination := byteOf d, kind := 0x23,
                              payload := [byteOf x.code, byteOf k] ++ bytesOfHalf m })
  ∧ (∀ (i : Identity) (d k b : Nat) (x : ResolveOutcome),
       resolveReply d x b i k = { priority := 1, source := 0xFE, identity := 0, destination := byteOf d,
                                  kind := 0x27, payload := [byteOf x.code, byteOf b] ++ bytesOfIdentity i
                                    ++ [byteOf k] })
  ∧ (∀ (d k : Nat) (ms : List Nat) (x : GroupOutcome),
       groupReply d k x ms = { priority := 1, source := 0xFE, identity := 0, destination := byteOf d, kind := 0x28,
                               payload := [byteOf k, byteOf x.code, byteOf ms.length] ++ ms.map byteOf })
  ∧ ([RequestKind.join, .accept, .renew, .leave, .claim, .probeReply, .clashReport, .groupJoin, .groupLeave,
      .groupExpand, .resolveIdentity, .resolveAddress].map RequestKind.code =
         [0x01, 0x02, 0x03, 0x04, 0x05, 0x06, 0x07, 0x08, 0x09, 0x0A, 0x0B, 0x0C]
     ∧ [RefusalReason.census, .closed, .disputed, .full, .busy, .poolEmpty].map RefusalReason.code =
         [1, 2, 3, 4, 5, 6] ∧ [RenewOutcome.ok, .disputed, .notBound, .unknown].map RenewOutcome.code = [0, 1, 2, 3]
     ∧ [ClaimOutcome.granted, .disputed, .identityElsewhere, .full, .notCensus].map ClaimOutcome.code =
         [0, 1, 2, 3, 4] ∧ [ResolveOutcome.found, .held, .notFound].map ResolveOutcome.code = [0, 1, 2]
     ∧ [GroupOutcome.ok, .notBound, .badGroup, .closed, .already, .groupFull, .noEntries,
        .notMember].map GroupOutcome.code = [0, 1, 2, 3, 4, 5, 6, 7])
end

