-- ==== Sys2Proof/Laws/State.lean ====
section
/-! SUPPORT. Reading a block of the state after one of the block setters of Machine/Ops.lean, and after the two operations
of Operands.lean and the two of Flags.lean that write the port: one lemma for each block, so that no later proof unfolds
a record update. -/

namespace Sys2Proof.Machine

/-! ## setDirectory -/

@[simp] theorem State.setDirectory_directory (d : Directory) (s : State) : (s.setDirectory d).directory = d := rfl
@[simp] theorem State.setDirectory_pool (d : Directory) (s : State) : (s.setDirectory d).pool = s.pool := rfl
@[simp] theorem State.setDirectory_census (d : Directory) (s : State) : (s.setDirectory d).census = s.census := rfl
@[simp] theorem State.setDirectory_prober (d : Directory) (s : State) : (s.setDirectory d).prober = s.prober := rfl
@[simp] theorem State.setDirectory_groups (d : Directory) (s : State) : (s.setDirectory d).groups = s.groups := rfl
@[simp] theorem State.setDirectory_line (d : Directory) (s : State) : (s.setDirectory d).line = s.line := rfl
@[simp] theorem State.setDirectory_queue (d : Directory) (s : State) : (s.setDirectory d).queue = s.queue := rfl
@[simp] theorem State.setDirectory_clock (d : Directory) (s : State) : (s.setDirectory d).clock = s.clock := rfl
@[simp] theorem State.setDirectory_params (d : Directory) (s : State) : (s.setDirectory d).params = s.params := rfl
@[simp] theorem State.setDirectory_port (d : Directory) (s : State) : (s.setDirectory d).port = s.port := rfl
@[simp] theorem State.setDirectory_chance (d : Directory) (s : State) : (s.setDirectory d).chance = s.chance := rfl
@[simp] theorem State.setDirectory_pending (d : Directory) (s : State) : (s.setDirectory d).pending = s.pending := rfl

/-! ## setPool -/

@[simp] theorem State.setPool_directory (p : Pool) (s : State) : (s.setPool p).directory = s.directory := rfl
@[simp] theorem State.setPool_pool (p : Pool) (s : State) : (s.setPool p).pool = p := rfl
@[simp] theorem State.setPool_census (p : Pool) (s : State) : (s.setPool p).census = s.census := rfl
@[simp] theorem State.setPool_prober (p : Pool) (s : State) : (s.setPool p).prober = s.prober := rfl
@[simp] theorem State.setPool_groups (p : Pool) (s : State) : (s.setPool p).groups = s.groups := rfl
@[simp] theorem State.setPool_line (p : Pool) (s : State) : (s.setPool p).line = s.line := rfl
@[simp] theorem State.setPool_queue (p : Pool) (s : State) : (s.setPool p).queue = s.queue := rfl
@[simp] theorem State.setPool_clock (p : Pool) (s : State) : (s.setPool p).clock = s.clock := rfl
@[simp] theorem State.setPool_params (p : Pool) (s : State) : (s.setPool p).params = s.params := rfl
@[simp] theorem State.setPool_port (p : Pool) (s : State) : (s.setPool p).port = s.port := rfl
@[simp] theorem State.setPool_chance (p : Pool) (s : State) : (s.setPool p).chance = s.chance := rfl
@[simp] theorem State.setPool_pending (p : Pool) (s : State) : (s.setPool p).pending = s.pending := rfl

/-! ## setCensus -/

@[simp] theorem State.setCensus_directory (c : Census) (s : State) : (s.setCensus c).directory = s.directory := rfl
@[simp] theorem State.setCensus_pool (c : Census) (s : State) : (s.setCensus c).pool = s.pool := rfl
@[simp] theorem State.setCensus_census (c : Census) (s : State) : (s.setCensus c).census = c := rfl
@[simp] theorem State.setCensus_prober (c : Census) (s : State) : (s.setCensus c).prober = s.prober := rfl
@[simp] theorem State.setCensus_groups (c : Census) (s : State) : (s.setCensus c).groups = s.groups := rfl
@[simp] theorem State.setCensus_line (c : Census) (s : State) : (s.setCensus c).line = s.line := rfl
@[simp] theorem State.setCensus_queue (c : Census) (s : State) : (s.setCensus c).queue = s.queue := rfl
@[simp] theorem State.setCensus_clock (c : Census) (s : State) : (s.setCensus c).clock = s.clock := rfl
@[simp] theorem State.setCensus_params (c : Census) (s : State) : (s.setCensus c).params = s.params := rfl
@[simp] theorem State.setCensus_port (c : Census) (s : State) : (s.setCensus c).port = s.port := rfl
@[simp] theorem State.setCensus_chance (c : Census) (s : State) : (s.setCensus c).chance = s.chance := rfl
@[simp] theorem State.setCensus_pending (c : Census) (s : State) : (s.setCensus c).pending = s.pending := rfl

/-! ## setProber -/

@[simp] theorem State.setProber_directory (p : Prober) (s : State) : (s.setProber p).directory = s.directory := rfl
@[simp] theorem State.setProber_pool (p : Prober) (s : State) : (s.setProber p).pool = s.pool := rfl
@[simp] theorem State.setProber_census (p : Prober) (s : State) : (s.setProber p).census = s.census := rfl
@[simp] theorem State.setProber_prober (p : Prober) (s : State) : (s.setProber p).prober = p := rfl
@[simp] theorem State.setProber_groups (p : Prober) (s : State) : (s.setProber p).groups = s.groups := rfl
@[simp] theorem State.setProber_line (p : Prober) (s : State) : (s.setProber p).line = s.line := rfl
@[simp] theorem State.setProber_queue (p : Prober) (s : State) : (s.setProber p).queue = s.queue := rfl
@[simp] theorem State.setProber_clock (p : Prober) (s : State) : (s.setProber p).clock = s.clock := rfl
@[simp] theorem State.setProber_params (p : Prober) (s : State) : (s.setProber p).params = s.params := rfl
@[simp] theorem State.setProber_port (p : Prober) (s : State) : (s.setProber p).port = s.port := rfl
@[simp] theorem State.setProber_chance (p : Prober) (s : State) : (s.setProber p).chance = s.chance := rfl
@[simp] theorem State.setProber_pending (p : Prober) (s : State) : (s.setProber p).pending = s.pending := rfl

/-! ## setGroups -/

@[simp] theorem State.setGroups_directory (g : List Group) (s : State) :
    (s.setGroups g).directory = s.directory := rfl
@[simp] theorem State.setGroups_pool (g : List Group) (s : State) : (s.setGroups g).pool = s.pool := rfl
@[simp] theorem State.setGroups_census (g : List Group) (s : State) : (s.setGroups g).census = s.census := rfl
@[simp] theorem State.setGroups_prober (g : List Group) (s : State) : (s.setGroups g).prober = s.prober := rfl
@[simp] theorem State.setGroups_groups (g : List Group) (s : State) : (s.setGroups g).groups = g := rfl
@[simp] theorem State.setGroups_line (g : List Group) (s : State) : (s.setGroups g).line = s.line := rfl
@[simp] theorem State.setGroups_queue (g : List Group) (s : State) : (s.setGroups g).queue = s.queue := rfl
@[simp] theorem State.setGroups_clock (g : List Group) (s : State) : (s.setGroups g).clock = s.clock := rfl
@[simp] theorem State.setGroups_params (g : List Group) (s : State) : (s.setGroups g).params = s.params := rfl
@[simp] theorem State.setGroups_port (g : List Group) (s : State) : (s.setGroups g).port = s.port := rfl
@[simp] theorem State.setGroups_chance (g : List Group) (s : State) : (s.setGroups g).chance = s.chance := rfl
@[simp] theorem State.setGroups_pending (g : List Group) (s : State) : (s.setGroups g).pending = s.pending := rfl

/-! ## setLine -/

@[simp] theorem State.setLine_directory (l : Line) (s : State) : (s.setLine l).directory = s.directory := rfl
@[simp] theorem State.setLine_pool (l : Line) (s : State) : (s.setLine l).pool = s.pool := rfl
@[simp] theorem State.setLine_census (l : Line) (s : State) : (s.setLine l).census = s.census := rfl
@[simp] theorem State.setLine_prober (l : Line) (s : State) : (s.setLine l).prober = s.prober := rfl
@[simp] theorem State.setLine_groups (l : Line) (s : State) : (s.setLine l).groups = s.groups := rfl
@[simp] theorem State.setLine_line (l : Line) (s : State) : (s.setLine l).line = l := rfl
@[simp] theorem State.setLine_queue (l : Line) (s : State) : (s.setLine l).queue = s.queue := rfl
@[simp] theorem State.setLine_clock (l : Line) (s : State) : (s.setLine l).clock = s.clock := rfl
@[simp] theorem State.setLine_params (l : Line) (s : State) : (s.setLine l).params = s.params := rfl
@[simp] theorem State.setLine_port (l : Line) (s : State) : (s.setLine l).port = s.port := rfl
@[simp] theorem State.setLine_chance (l : Line) (s : State) : (s.setLine l).chance = s.chance := rfl
@[simp] theorem State.setLine_pending (l : Line) (s : State) : (s.setLine l).pending = s.pending := rfl

/-! ## setQueue -/

@[simp] theorem State.setQueue_directory (q : TxQueue) (s : State) : (s.setQueue q).directory = s.directory := rfl
@[simp] theorem State.setQueue_pool (q : TxQueue) (s : State) : (s.setQueue q).pool = s.pool := rfl
@[simp] theorem State.setQueue_census (q : TxQueue) (s : State) : (s.setQueue q).census = s.census := rfl
@[simp] theorem State.setQueue_prober (q : TxQueue) (s : State) : (s.setQueue q).prober = s.prober := rfl
@[simp] theorem State.setQueue_groups (q : TxQueue) (s : State) : (s.setQueue q).groups = s.groups := rfl
@[simp] theorem State.setQueue_line (q : TxQueue) (s : State) : (s.setQueue q).line = s.line := rfl
@[simp] theorem State.setQueue_queue (q : TxQueue) (s : State) : (s.setQueue q).queue = q := rfl
@[simp] theorem State.setQueue_clock (q : TxQueue) (s : State) : (s.setQueue q).clock = s.clock := rfl
@[simp] theorem State.setQueue_params (q : TxQueue) (s : State) : (s.setQueue q).params = s.params := rfl
@[simp] theorem State.setQueue_port (q : TxQueue) (s : State) : (s.setQueue q).port = s.port := rfl
@[simp] theorem State.setQueue_chance (q : TxQueue) (s : State) : (s.setQueue q).chance = s.chance := rfl
@[simp] theorem State.setQueue_pending (q : TxQueue) (s : State) : (s.setQueue q).pending = s.pending := rfl

/-! ## setClock -/

@[simp] theorem State.setClock_directory (c : Clock) (s : State) : (s.setClock c).directory = s.directory := rfl
@[simp] theorem State.setClock_pool (c : Clock) (s : State) : (s.setClock c).pool = s.pool := rfl
@[simp] theorem State.setClock_census (c : Clock) (s : State) : (s.setClock c).census = s.census := rfl
@[simp] theorem State.setClock_prober (c : Clock) (s : State) : (s.setClock c).prober = s.prober := rfl
@[simp] theorem State.setClock_groups (c : Clock) (s : State) : (s.setClock c).groups = s.groups := rfl
@[simp] theorem State.setClock_line (c : Clock) (s : State) : (s.setClock c).line = s.line := rfl
@[simp] theorem State.setClock_queue (c : Clock) (s : State) : (s.setClock c).queue = s.queue := rfl
@[simp] theorem State.setClock_clock (c : Clock) (s : State) : (s.setClock c).clock = c := rfl
@[simp] theorem State.setClock_params (c : Clock) (s : State) : (s.setClock c).params = s.params := rfl
@[simp] theorem State.setClock_port (c : Clock) (s : State) : (s.setClock c).port = s.port := rfl
@[simp] theorem State.setClock_chance (c : Clock) (s : State) : (s.setClock c).chance = s.chance := rfl
@[simp] theorem State.setClock_pending (c : Clock) (s : State) : (s.setClock c).pending = s.pending := rfl

/-! ## setParams -/

@[simp] theorem State.setParams_directory (p : Params) (s : State) : (s.setParams p).directory = s.directory := rfl
@[simp] theorem State.setParams_pool (p : Params) (s : State) : (s.setParams p).pool = s.pool := rfl
@[simp] theorem State.setParams_census (p : Params) (s : State) : (s.setParams p).census = s.census := rfl
@[simp] theorem State.setParams_prober (p : Params) (s : State) : (s.setParams p).prober = s.prober := rfl
@[simp] theorem State.setParams_groups (p : Params) (s : State) : (s.setParams p).groups = s.groups := rfl
@[simp] theorem State.setParams_line (p : Params) (s : State) : (s.setParams p).line = s.line := rfl
@[simp] theorem State.setParams_queue (p : Params) (s : State) : (s.setParams p).queue = s.queue := rfl
@[simp] theorem State.setParams_clock (p : Params) (s : State) : (s.setParams p).clock = s.clock := rfl
@[simp] theorem State.setParams_params (p : Params) (s : State) : (s.setParams p).params = p := rfl
@[simp] theorem State.setParams_port (p : Params) (s : State) : (s.setParams p).port = s.port := rfl
@[simp] theorem State.setParams_chance (p : Params) (s : State) : (s.setParams p).chance = s.chance := rfl
@[simp] theorem State.setParams_pending (p : Params) (s : State) : (s.setParams p).pending = s.pending := rfl

/-! ## setPort -/

@[simp] theorem State.setPort_directory (p : Port) (s : State) : (s.setPort p).directory = s.directory := rfl
@[simp] theorem State.setPort_pool (p : Port) (s : State) : (s.setPort p).pool = s.pool := rfl
@[simp] theorem State.setPort_census (p : Port) (s : State) : (s.setPort p).census = s.census := rfl
@[simp] theorem State.setPort_prober (p : Port) (s : State) : (s.setPort p).prober = s.prober := rfl
@[simp] theorem State.setPort_groups (p : Port) (s : State) : (s.setPort p).groups = s.groups := rfl
@[simp] theorem State.setPort_line (p : Port) (s : State) : (s.setPort p).line = s.line := rfl
@[simp] theorem State.setPort_queue (p : Port) (s : State) : (s.setPort p).queue = s.queue := rfl
@[simp] theorem State.setPort_clock (p : Port) (s : State) : (s.setPort p).clock = s.clock := rfl
@[simp] theorem State.setPort_params (p : Port) (s : State) : (s.setPort p).params = s.params := rfl
@[simp] theorem State.setPort_port (p : Port) (s : State) : (s.setPort p).port = p := rfl
@[simp] theorem State.setPort_chance (p : Port) (s : State) : (s.setPort p).chance = s.chance := rfl
@[simp] theorem State.setPort_pending (p : Port) (s : State) : (s.setPort p).pending = s.pending := rfl

/-! ## setResults -/

@[simp] theorem State.setResults_directory (bs : List Byte) (s : State) :
    (s.setResults bs).directory = s.directory := rfl
@[simp] theorem State.setResults_pool (bs : List Byte) (s : State) : (s.setResults bs).pool = s.pool := rfl
@[simp] theorem State.setResults_census (bs : List Byte) (s : State) : (s.setResults bs).census = s.census := rfl
@[simp] theorem State.setResults_prober (bs : List Byte) (s : State) : (s.setResults bs).prober = s.prober := rfl
@[simp] theorem State.setResults_groups (bs : List Byte) (s : State) : (s.setResults bs).groups = s.groups := rfl
@[simp] theorem State.setResults_line (bs : List Byte) (s : State) : (s.setResults bs).line = s.line := rfl
@[simp] theorem State.setResults_queue (bs : List Byte) (s : State) : (s.setResults bs).queue = s.queue := rfl
@[simp] theorem State.setResults_clock (bs : List Byte) (s : State) : (s.setResults bs).clock = s.clock := rfl
@[simp] theorem State.setResults_params (bs : List Byte) (s : State) : (s.setResults bs).params = s.params := rfl
@[simp] theorem State.setResults_chance (bs : List Byte) (s : State) : (s.setResults bs).chance = s.chance := rfl
@[simp] theorem State.setResults_pending (bs : List Byte) (s : State) : (s.setResults bs).pending = s.pending := rfl

/-! ## setBuffer -/

@[simp] theorem State.setBuffer_directory (bs : List Byte) (n : Nat) (s : State) :
    (s.setBuffer bs n).directory = s.directory := rfl
@[simp] theorem State.setBuffer_pool (bs : List Byte) (n : Nat) (s : State) : (s.setBuffer bs n).pool = s.pool := rfl
@[simp] theorem State.setBuffer_census (bs : List Byte) (n : Nat) (s : State) :
    (s.setBuffer bs n).census = s.census := rfl
@[simp] theorem State.setBuffer_prober (bs : List Byte) (n : Nat) (s : State) :
    (s.setBuffer bs n).prober = s.prober := rfl
@[simp] theorem State.setBuffer_groups (bs : List Byte) (n : Nat) (s : State) :
    (s.setBuffer bs n).groups = s.groups := rfl
@[simp] theorem State.setBuffer_line (bs : List Byte) (n : Nat) (s : State) : (s.setBuffer bs n).line = s.line := rfl
@[simp] theorem State.setBuffer_queue (bs : List Byte) (n : Nat) (s : State) :
    (s.setBuffer bs n).queue = s.queue := rfl
@[simp] theorem State.setBuffer_clock (bs : List Byte) (n : Nat) (s : State) :
    (s.setBuffer bs n).clock = s.clock := rfl
@[simp] theorem State.setBuffer_params (bs : List Byte) (n : Nat) (s : State) :
    (s.setBuffer bs n).params = s.params := rfl
@[simp] theorem State.setBuffer_chance (bs : List Byte) (n : Nat) (s : State) :
    (s.setBuffer bs n).chance = s.chance := rfl
@[simp] theorem State.setBuffer_pending (bs : List Byte) (n : Nat) (s : State) :
    (s.setBuffer bs n).pending = s.pending := rfl

/-! ## raise -/

@[simp] theorem State.raise_directory (c : Cause) (s : State) : (s.raise c).directory = s.directory := rfl
@[simp] theorem State.raise_pool (c : Cause) (s : State) : (s.raise c).pool = s.pool := rfl
@[simp] theorem State.raise_census (c : Cause) (s : State) : (s.raise c).census = s.census := rfl
@[simp] theorem State.raise_prober (c : Cause) (s : State) : (s.raise c).prober = s.prober := rfl
@[simp] theorem State.raise_groups (c : Cause) (s : State) : (s.raise c).groups = s.groups := rfl
@[simp] theorem State.raise_line (c : Cause) (s : State) : (s.raise c).line = s.line := rfl
@[simp] theorem State.raise_queue (c : Cause) (s : State) : (s.raise c).queue = s.queue := rfl
@[simp] theorem State.raise_clock (c : Cause) (s : State) : (s.raise c).clock = s.clock := rfl
@[simp] theorem State.raise_params (c : Cause) (s : State) : (s.raise c).params = s.params := rfl
@[simp] theorem State.raise_chance (c : Cause) (s : State) : (s.raise c).chance = s.chance := rfl
@[simp] theorem State.raise_pending (c : Cause) (s : State) : (s.raise c).pending = s.pending := rfl

/-! ## acknowledge -/

@[simp] theorem State.acknowledge_directory (m : Byte) (s : State) : (s.acknowledge m).directory = s.directory := rfl
@[simp] theorem State.acknowledge_pool (m : Byte) (s : State) : (s.acknowledge m).pool = s.pool := rfl
@[simp] theorem State.acknowledge_census (m : Byte) (s : State) : (s.acknowledge m).census = s.census := rfl
@[simp] theorem State.acknowledge_prober (m : Byte) (s : State) : (s.acknowledge m).prober = s.prober := rfl
@[simp] theorem State.acknowledge_groups (m : Byte) (s : State) : (s.acknowledge m).groups = s.groups := rfl
@[simp] theorem State.acknowledge_line (m : Byte) (s : State) : (s.acknowledge m).line = s.line := rfl
@[simp] theorem State.acknowledge_queue (m : Byte) (s : State) : (s.acknowledge m).queue = s.queue := rfl
@[simp] theorem State.acknowledge_clock (m : Byte) (s : State) : (s.acknowledge m).clock = s.clock := rfl
@[simp] theorem State.acknowledge_params (m : Byte) (s : State) : (s.acknowledge m).params = s.params := rfl
@[simp] theorem State.acknowledge_chance (m : Byte) (s : State) : (s.acknowledge m).chance = s.chance := rfl
@[simp] theorem State.acknowledge_pending (m : Byte) (s : State) : (s.acknowledge m).pending = s.pending := rfl

/-! ## Setting the block a state already has, and setting one twice -/

@[simp] theorem State.setDirectory_self (s : State) : s.setDirectory s.directory = s := rfl
@[simp] theorem State.setPool_self (s : State) : s.setPool s.pool = s := rfl
@[simp] theorem State.setCensus_self (s : State) : s.setCensus s.census = s := rfl
@[simp] theorem State.setProber_self (s : State) : s.setProber s.prober = s := rfl
@[simp] theorem State.setGroups_self (s : State) : s.setGroups s.groups = s := rfl
@[simp] theorem State.setLine_self (s : State) : s.setLine s.line = s := rfl
@[simp] theorem State.setQueue_self (s : State) : s.setQueue s.queue = s := rfl
@[simp] theorem State.setClock_self (s : State) : s.setClock s.clock = s := rfl
@[simp] theorem State.setParams_self (s : State) : s.setParams s.params = s := rfl
@[simp] theorem State.setPort_self (s : State) : s.setPort s.port = s := rfl

@[simp] theorem State.setDirectory_setDirectory (d d' : Directory) (s : State) :
    (s.setDirectory d').setDirectory d = s.setDirectory d := rfl
@[simp] theorem State.setPool_setPool (p p' : Pool) (s : State) : (s.setPool p').setPool p = s.setPool p := rfl
@[simp] theorem State.setCensus_setCensus (c c' : Census) (s : State) :
    (s.setCensus c').setCensus c = s.setCensus c := rfl
@[simp] theorem State.setProber_setProber (p p' : Prober) (s : State) :
    (s.setProber p').setProber p = s.setProber p := rfl
@[simp] theorem State.setGroups_setGroups (g g' : List Group) (s : State) :
    (s.setGroups g').setGroups g = s.setGroups g := rfl
@[simp] theorem State.setLine_setLine (l l' : Line) (s : State) : (s.setLine l').setLine l = s.setLine l := rfl
@[simp] theorem State.setQueue_setQueue (q q' : TxQueue) (s : State) :
    (s.setQueue q').setQueue q = s.setQueue q := rfl
@[simp] theorem State.setClock_setClock (c c' : Clock) (s : State) : (s.setClock c').setClock c = s.setClock c := rfl
@[simp] theorem State.setParams_setParams (p p' : Params) (s : State) :
    (s.setParams p').setParams p = s.setParams p := rfl
@[simp] theorem State.setPort_setPort (p p' : Port) (s : State) : (s.setPort p').setPort p = s.setPort p := rfl

end Sys2Proof.Machine
end

