-- ==== Sys2Proof/Laws/Records.lean ====
section
/-! SUPPORT. Lists of records and of marks: what replacing, removing, inserting, finding and marking do. -/

namespace Sys2Proof.Machine

/-! ## Records -/

@[simp] theorem map_address_replaceRecord (r : Record) (rs : List Record) :
    (replaceRecord r rs).map (fun q => q.address) = rs.map (fun q => q.address) := by
  simp only [replaceRecord, List.map_map]
  refine List.map_congr_left fun q _ => ?_
  by_cases h : q.address = r.address <;> simp [h]

@[simp] theorem length_replaceRecord (r : Record) (rs : List Record) : (replaceRecord r rs).length = rs.length := by
  simp [replaceRecord]

theorem mem_replaceRecord (r q : Record) (rs : List Record) :
    q ∈ replaceRecord r rs ↔ (q ∈ rs ∧ q.address ≠ r.address) ∨ (q = r ∧ ∃ p ∈ rs, p.address = r.address) := by
  simp only [replaceRecord, List.mem_map]
  constructor
  · rintro ⟨p, hp, rfl⟩
    by_cases h : p.address = r.address
    · exact .inr ⟨by simp [h], p, hp, h⟩
    · exact .inl ⟨by simpa [h] using hp, by simp [h]⟩
  · rintro (⟨hq, hne⟩ | ⟨rfl, p, hp, ha⟩)
    · exact ⟨q, hq, by simp [hne]⟩
    · exact ⟨p, hp, by simp [ha]⟩

theorem replaceRecord_replaceRecord (r q : Record) (rs : List Record) (h : q.address = r.address) :
    replaceRecord r (replaceRecord q rs) = replaceRecord r rs := by
  simp only [replaceRecord, List.map_map]
  refine List.map_congr_left fun p _ => ?_
  by_cases hp : p.address = q.address
  · simp [hp, h]
  · have : ¬ p.address = r.address := fun e => hp (e.trans h.symm)
    simp [this, hp]

theorem mem_removeRecord (a : Nat) (q : Record) (rs : List Record) :
    q ∈ removeRecord a rs ↔ q ∈ rs ∧ q.address ≠ a := by simp [removeRecord]

theorem perm_insertRecord (r : Record) (rs : List Record) : (insertRecord r rs).Perm (r :: rs) := by
  induction rs with
  | nil => exact .refl _
  | cons q qs ih =>
    unfold insertRecord
    split
    · exact .refl _
    · exact (ih.cons q).trans (.swap r q qs)

theorem mem_insertRecord (r q : Record) (rs : List Record) : q ∈ insertRecord r rs ↔ q = r ∨ q ∈ rs := by
  simpa using (perm_insertRecord r rs).mem_iff (a := q)

/-- Inserting keeps the address order when the address is new. -/
theorem pairwise_insertRecord (r : Record) (rs : List Record) (hs : rs.Pairwise (fun p q => p.address < q.address))
    (hn : ∀ q ∈ rs, q.address ≠ r.address) : (insertRecord r rs).Pairwise (fun p q => p.address < q.address) := by
  induction rs with
  | nil => simp [insertRecord]
  | cons q qs ih =>
    have hq := List.pairwise_cons.mp hs
    unfold insertRecord
    split
    · next h =>
      refine List.pairwise_cons.mpr ⟨fun p hp => ?_, hs⟩
      rcases List.mem_cons.mp hp with rfl | hp
      · exact h
      · exact h.trans (hq.1 p hp)
    · next h =>
      refine List.pairwise_cons.mpr ⟨fun p hp => ?_, ih hq.2 fun p hp => hn p (List.mem_cons_of_mem _ hp)⟩
      rcases (mem_insertRecord r p qs).mp hp with rfl | hp
      · have := hn q List.mem_cons_self
        omega
      · exact hq.1 p hp

/-- What is inserted at a new address is all that removing it takes away. -/
theorem removeRecord_insertRecord (r : Record) (rs : List Record) (hn : ∀ q ∈ rs, q.address ≠ r.address) :
    removeRecord r.address (insertRecord r rs) = rs := by
  induction rs with
  | nil => simp [insertRecord, removeRecord]
  | cons q qs ih =>
    have hq := hn q List.mem_cons_self
    have hqs : ∀ p ∈ qs, p.address ≠ r.address := fun p hp => hn p (List.mem_cons_of_mem _ hp)
    unfold insertRecord
    split
    · simp only [removeRecord, List.filter_cons, bne_self_eq_false, Bool.false_eq_true, if_false]
      rw [if_pos (by simpa using hq), List.filter_eq_self.mpr]
      exact fun p hp => by simpa using hqs p hp
    · have := ih hqs
      simp only [removeRecord] at this ⊢
      simp [hq, this]

/-! ## Finding -/

theorem State.mem_of_recordAt {s : State} {a : Nat} {r : Record} (h : s.recordAt a = some r) :
    r ∈ s.directory.records ∧ r.address = a :=
  ⟨List.mem_of_find?_eq_some h, by simpa using List.find?_some h⟩

theorem State.mem_of_recordOf {s : State} {i : Identity} {r : Record} (h : s.recordOf i = some r) :
    r ∈ s.directory.records ∧ r.identity = i :=
  ⟨List.mem_of_find?_eq_some h, by simpa using List.find?_some h⟩

theorem State.recordAt_eq_none {s : State} {a : Nat} :
    s.recordAt a = none ↔ ∀ r ∈ s.directory.records, r.address ≠ a := by simp [State.recordAt]

theorem State.recordOf_eq_none {s : State} {i : Identity} :
    s.recordOf i = none ↔ ∀ r ∈ s.directory.records, r.identity ≠ i := by simp [State.recordOf]

/-- Replacing the record found at an address puts the new one there. -/
theorem State.recordAt_putRecord {s : State} {r q : Record} (h : s.recordAt r.address = some q) :
    (s.putRecord r).recordAt r.address = some r := by
  have hm := State.mem_of_recordAt h
  simp only [State.recordAt, State.putRecord, State.setDirectory, replaceRecord]
  generalize s.directory.records = rs at hm
  induction rs with
  | nil => simp at hm
  | cons p ps ih =>
    by_cases hp : p.address = r.address
    · simp [hp]
    · rcases List.mem_cons.mp hm.1 with rfl | hq
      · exact absurd hm.2 hp
      · simpa [hp] using ih ⟨hq, hm.2⟩

/-- Replacing a record leaves the others where they are. -/
theorem State.recordAt_putRecord_of_ne {s : State} {r : Record} {a : Nat} (h : r.address ≠ a) :
    (s.putRecord r).recordAt a = s.recordAt a := by
  simp only [State.recordAt, State.putRecord, State.setDirectory, replaceRecord]
  induction s.directory.records with
  | nil => rfl
  | cons p ps ih =>
    by_cases hp : p.address = r.address
    · have h1 : (r.address == a) = false := by simpa using h
      simp only [List.map_cons, hp, if_true, List.find?_cons, h1, ih]
    · simp only [List.map_cons, hp, if_false, List.find?_cons, ih]

/-! ## Marks -/

theorem markIn_insertMark (a b : Nat) (m : Mark) (ms : List (Nat × Mark)) (hn : ∀ p ∈ ms, p.1 ≠ a) :
    markIn (insertMark a m ms) b = if b = a then m else markIn ms b := by
  induction ms with
  | nil =>
    by_cases h : b = a
    · simp [insertMark, markIn, h]
    · have : ¬ a = b := fun e => h e.symm
      simp [insertMark, markIn, h, this]
  | cons p ps ih =>
    have hp := hn p List.mem_cons_self
    have ih := ih fun q hq => hn q (List.mem_cons_of_mem _ hq)
    unfold insertMark
    split
    · by_cases h : b = a
      · simp [markIn, h]
      · have : ¬ a = b := fun e => h e.symm
        simp [markIn, List.find?_cons, h, this]
    · simp only [markIn, List.find?_cons] at ih ⊢
      by_cases hb : p.1 = b
      · have : ¬ b = a := fun e => hp (hb.trans e)
        simp [hb, this]
      · have h1 : (p.1 == b) = false := by simpa using hb
        simpa only [h1] using ih

theorem markIn_filter (a b : Nat) (ms : List (Nat × Mark)) :
    markIn (ms.filter (fun p => p.1 != a)) b = if b = a then .clean else markIn ms b := by
  induction ms with
  | nil => simp [markIn]
  | cons p ps ih =>
    simp only [markIn] at ih ⊢
    by_cases hp : p.1 = a
    · by_cases hb : b = a
      · simpa [List.filter_cons, hp, hb] using ih
      · have : ¬ a = b := fun e => hb e.symm
        simpa [List.filter_cons, List.find?_cons, hp, hb, this] using ih
    · by_cases hb : p.1 = b
      · have : ¬ b = a := fun e => hp (hb.trans e)
        simp [hb, this]
      · simpa [List.filter_cons, List.find?_cons, hp, hb] using ih

/-- What setting one address's mark does to every address's. -/
theorem markIn_setMark (a b : Nat) (m : Mark) (ms : List (Nat × Mark)) :
    markIn (setMark a m ms) b = if b = a then m else markIn ms b := by
  unfold setMark
  by_cases hm : m = .clean
  · simpa [hm] using markIn_filter a b ms
  · simp only [hm, if_false]
    rw [markIn_insertMark a b m _ (by simp), markIn_filter]
    by_cases hb : b = a <;> simp [hb]

/-- Setting one address's mark leaves the listing of the others. -/
theorem filter_setMark (a : Nat) (m : Mark) (ms : List (Nat × Mark)) :
    (setMark a m ms).filter (fun p => p.1 != a) = ms.filter (fun p => p.1 != a) := by
  have key : ∀ l : List (Nat × Mark), (insertMark a m l).filter (fun p => p.1 != a) = l.filter (fun p => p.1 != a) := by
    intro l
    induction l with
    | nil => simp [insertMark]
    | cons p ps ih =>
      unfold insertMark
      split
      · simp
      · simp only [List.filter_cons, ih]
  unfold setMark
  by_cases hm : m = .clean <;> simp [hm, key]

end Sys2Proof.Machine
end

