-- ==== Sys2Proof/Laws/Operations.lean ====
section
/-! SUPPORT. For each shared operation of Machine/Ops.lean, for those of the Line Interface and for the port's transactions,
one lemma that says once all it does: the state it answers, as one update of the state it is given. -/

namespace Sys2Proof.Machine

/-! ## Records, marks and the lapse list -/

theorem State.putRecord_eq (r : Record) (s : State) :
    s.putRecord r = { s with directory := { s.directory with records := replaceRecord r s.directory.records } } := rfl

theorem State.note_eq (e : MarkEvent) (a : Nat) (s : State) :
    s.note e a = { s with directory := { s.directory with
      marks := setMark a (Mark.move e (s.markOf a)) s.directory.marks } } := rfl

theorem State.createRecord_eq (r : Record) (s : State) :
    s.createRecord r = { s with directory := { s.directory with
      records := insertRecord r s.directory.records,
      marks := setMark r.address (Mark.move .created (s.markOf r.address)) s.directory.marks } } := rfl

/-- The end of a record: its address goes to its place, and it leaves the records, the lapse list and the member lists. -/
theorem State.endRecord_eq (place : Place) (r : Record) (s : State) :
    s.endRecord place r = { s with
      pool := (s.returnAddress place r).pool,
      directory := { s.directory with
        records := removeRecord r.address s.directory.records,
        lapseList := s.directory.lapseList.filter (fun b => b != r.address),
        marks := setMark r.address (Mark.move .removed (s.markOf r.address)) s.directory.marks },
      groups := s.groups.map (fun g => { g with members := g.members.filter (fun b => b != r.address) }) } := by
  cases place <;> simp only [State.endRecord, State.returnAddress] <;> first | rfl | (split <;> rfl)

theorem State.bindRecord_eq (r : Record) (s : State) :
    s.bindRecord r = { s with directory := { s.directory with
      records := replaceRecord { r with state := .bound, attempts := 0, offer := none, rival := none, hold := none }
        s.directory.records,
      lapseList := s.directory.lapseList.filter (fun b => b != r.address),
      marks := setMark r.address (Mark.move .altered (s.markOf r.address)) s.directory.marks } } := rfl

theorem State.lapseRecord_eq (r : Record) (s : State) :
    s.lapseRecord r = { s with directory := { s.directory with
      records := replaceRecord { r with state := .lapsed, term := 0, attempts := 0, offer := none } s.directory.records,
      lapseList := if s.isTarget r then s.directory.lapseList else s.directory.lapseList ++ [r.address],
      marks := setMark r.address (Mark.move .altered (s.markOf r.address)) s.directory.marks } } := by
  unfold State.lapseRecord
  split <;> rfl

/-! ## The pool -/

theorem State.takeAddress_eq (a : Nat) (s : State) :
    s.takeAddress a = { s with pool := { free := s.pool.free.filter (fun b => b != a),
                                         quarantine := s.pool.quarantine.filter (fun q => q.address != a) } } := rfl

/-- Only the pool changes when an address returns. -/
theorem State.returnAddress_eq (place : Place) (r : Record) (s : State) :
    s.returnAddress place r = { s with pool := (s.returnAddress place r).pool } := by
  cases place <;> simp only [State.returnAddress] <;> first | rfl | (split <;> rfl)

/-- A retired address: in quarantine under the record's identity, or free at the tail when the hold is 0. -/
theorem State.returnAddress_quarantineTail (r : Record) (s : State) :
    (s.returnAddress .quarantineTail r).pool =
      if s.params.quarantineHold = 0 then { s.pool with free := s.pool.free ++ [r.address] }
      else { s.pool with quarantine := s.pool.quarantine ++
        [{ address := r.address, lastIdentity := r.identity, hold := s.params.quarantineHold }] } := by
  simp only [State.returnAddress]
  split <;> rfl

/-! ## Groups -/

theorem State.addMember_eq (g a : Nat) (s : State) :
    s.addMember g a = { s with
      groups := s.groups.set (g - 1) { s.group g with members := (s.group g).members ++ [a] },
      directory := { s.directory with
        marks := setMark a (Mark.move .altered (s.markOf a)) s.directory.marks } } := rfl

theorem State.removeMember_eq (g a : Nat) (s : State) :
    s.removeMember g a = { s with
      groups := s.groups.set (g - 1) { s.group g with members := (s.group g).members.filter (fun b => b != a) },
      directory := { s.directory with
        marks := setMark a (Mark.move .altered (s.markOf a)) s.directory.marks } } := rfl

theorem State.strike_eq (a : Nat) (s : State) :
    s.strike a = { s with
      groups := s.groups.map (fun g => { g with members := g.members.filter (fun b => b != a) }) } := rfl

/-- Striking an address from the lists never makes the total of the members larger. -/
theorem memberTotal_strike_le (a : Nat) (s : State) : memberTotal (s.strike a).groups ≤ memberTotal s.groups := by
  simp only [State.strike, State.setGroups_groups, memberTotal, List.map_map]
  refine List.sum_le_sum fun g _ => ?_
  exact List.length_filter_le _ _

/-- The additions of a CLAIM change only the lists and the marks. -/
theorem State.addClaimGroups_frame (a : Nat) (gs : List Nat) (s : State) :
    (s.addClaimGroups a gs).1 = { s with
      groups := (s.addClaimGroups a gs).1.groups
      directory := { s.directory with marks := (s.addClaimGroups a gs).1.directory.marks } } := by
  induction gs generalizing s with
  | nil => rfl
  | cons g gs ih =>
    simp only [State.addClaimGroups]
    split
    · exact ih s
    · split
      · rfl
      · exact ih (s.addMember g a)

/-! ## The Transmit Queue -/

theorem State.enqueue_eq (cls : TxClass) (o : Originator) (f : Frame) (s : State) :
    s.enqueue cls o f = { s with queue := { s.queue with entries := s.queue.entries ++
      [{ frame := f, check := f.check, cls := cls, used := 0, limit := s.attemptLimit f, originator := o,
         sending := false, lastTry := false }] } } := rfl

theorem State.claimOrDrop_granted {s : State} (o : Originator) (f : Frame) (h : s.claimGranted = true) :
    s.claimOrDrop o f = s.enqueue .directory o f := by simp [State.claimOrDrop, h]

theorem State.claimOrDrop_dropped {s : State} (o : Originator) (f : Frame) (h : s.claimGranted = false) :
    s.claimOrDrop o f = s := by simp [State.claimOrDrop, h]

/-- A claim changes the queue's entries and nothing else, granted or not. -/
theorem State.claimOrDrop_frame (o : Originator) (f : Frame) (s : State) :
    s.claimOrDrop o f =
      { s with queue := { s.queue with entries := (s.claimOrDrop o f).queue.entries } } := by
  unfold State.claimOrDrop
  split <;> rfl

theorem State.queueReply_eq (o : Originator) (f : Frame) (s : State) :
    s.queueReply o f = { s with queue := { s.queue with
      setAside := s.queue.setAside - 1,
      entries := s.queue.entries ++
        [{ frame := f, check := f.check, cls := .reply, used := 0, limit := s.attemptLimit f, originator := o,
           sending := false, lastTry := false }] } } := rfl

theorem State.emptyContext_eq (s : State) :
    s.emptyContext = { s with prober := { s.prober with context := none },
                              queue := { s.queue with entries := s.queue.entries.map detachProbe } } := rfl

theorem State.grantWaiting_none {s : State} (h : s.queue.waiting = none) : s.grantWaiting = s := by
  simp [State.grantWaiting, h]

theorem State.grantWaiting_full {s : State} (h : s.hasFreeEntry = false) : s.grantWaiting = s := by
  unfold State.grantWaiting
  split <;> simp [h]

theorem State.grantWaiting_granted {s : State} {f : Frame} (h : s.queue.waiting = some f)
    (hf : s.hasFreeEntry = true) :
    s.grantWaiting = (s.setQueue { s.queue with waiting := none }).enqueue .directory (.command true) f := by
  simp [State.grantWaiting, h, hf]

@[simp] theorem detachProbe_frame (e : TxEntry) : (detachProbe e).frame = e.frame := by
  unfold detachProbe
  split <;> rfl

@[simp] theorem detachProbe_sending (e : TxEntry) : (detachProbe e).sending = e.sending := by
  unfold detachProbe
  split <;> rfl

@[simp] theorem detachProbe_cls (e : TxEntry) : (detachProbe e).cls = e.cls := by
  unfold detachProbe
  split <;> rfl

@[simp] theorem detachCommand_sending (e : TxEntry) : (detachCommand e).sending = e.sending := by
  unfold detachCommand
  split <;> rfl

/-! ## Disputes -/

theorem State.enterDisputed_eq (r : Record) (rival : Option Identity) (s : State) :
    s.enterDisputed r rival = { s with directory := { s.directory with
      records := replaceRecord { r with
        state := .disputed, rival := rival, offer := none, attempts := 0,
        hold := if s.params.disputeHold = 0 then none else some s.params.disputeHold } s.directory.records,
      lapseList := s.directory.lapseList.filter (fun b => b != r.address),
      marks := setMark r.address (Mark.move .altered (s.markOf r.address)) s.directory.marks } } := rfl

theorem State.raiseDispute_hold {s : State} (r : Record) (rival : Option Identity)
    (h : s.params.disputePolicy = .hold) : s.raiseDispute r rival = (s.enterDisputed r rival).raise .dispute := by
  simp [State.raiseDispute, h]

theorem State.raiseDispute_revoke {s : State} (r : Record) (rival : Option Identity)
    (h : s.params.disputePolicy = .revoke) :
    s.raiseDispute r rival = (s.enterDisputed r rival).revokeDisputed r := by simp [State.raiseDispute, h]

/-- The REVOKE policy changes the queue's entries and ends the record. -/
theorem State.revokeDisputed_eq (r : Record) (s : State) :
    s.revokeDisputed r = { s.endRecord .quarantineTail r with
      queue := { s.queue with entries := (s.claimOrDrop .dispute (untargetedRevoke r.address)).queue.entries } } := by
  simp only [State.revokeDisputed, State.retire, State.endRecord_eq]
  rw [State.claimOrDrop_frame]
  simp [State.returnAddress_quarantineTail, State.markOf]

/-! ## The port -/

theorem State.complete_eq (o : OutcomeCode) (results : Bool) (s : State) :
    s.complete o results = { s with port := { s.port with
      outcome := o, error := o != .ok, state := if results then .result else .ready,
      latched := s.port.latched ||| Cause.bit .done } } := rfl

theorem State.finish_eq (o : OutcomeCode) (s : State) :
    s.finish o = { s with port := { s.port with
      outcome := o, error := o != .ok, state := .ready, latched := s.port.latched ||| Cause.bit .done } } := rfl

theorem State.takeCommand_busy {s : State} (code : Byte) (body : State → State) (h : s.port.state = .busy) :
    s.takeCommand code body = { s with port := { s.port with collide := true } } := by
  simp [State.takeCommand, h, State.setPort]

theorem State.takeCommand_taken {s : State} (code : Byte) (body : State → State) (h : s.port.state ≠ .busy) :
    s.takeCommand code body =
      body { s with port := { s.port with error := false, collide := false, state := .busy, code := code } } := by
  simp [State.takeCommand, h, State.setPort]

theorem State.commandRevoke_disabled {s : State} (f : Frame) (h : s.line.state = .disabled) :
    s.commandRevoke f = s.finish .undelivered := by simp [State.commandRevoke, h]

theorem State.commandRevoke_queued {s : State} (f : Frame) (h : s.line.state ≠ .disabled)
    (hf : s.hasFreeEntry = true) : s.commandRevoke f = s.enqueue .directory (.command true) f := by
  simp [State.commandRevoke, h, hf]

theorem State.commandRevoke_waits {s : State} (f : Frame) (h : s.line.state ≠ .disabled)
    (hf : s.hasFreeEntry = false) : s.commandRevoke f = s.setQueue { s.queue with waiting := some f } := by
  simp [State.commandRevoke, h, hf]

/-- Buffer results keep the buffer's 256 bytes. -/
theorem State.length_buffer_setBuffer {s : State} (bs : List Byte) (n : Nat)
    (h : s.port.buffer.length = Config.bufferSize) : (s.setBuffer bs n).port.buffer.length = Config.bufferSize := by
  simp only [State.setBuffer, List.length_take, List.length_append, List.length_drop, h]
  omega

/-- Up to eight result bytes keep the eight parameter bytes. -/
theorem State.length_parameters_setResults {s : State} (bs : List Byte) (h : s.port.parameters.length = 8)
    (hb : bs.length ≤ 8) : (s.setResults bs).port.parameters.length = 8 := by
  simp only [State.setResults, List.length_append, List.length_drop, h]
  omega

/-! ## The line and the clock -/

theorem State.enterPhase_eq (ph : LinePhase) (s : State) :
    s.enterPhase ph = { s with line := { s.line with
      phase := ph,
      termination := if s.line.segmentEnd then (s.params.terminationFor ph).getD s.line.termination
        else .openCircuit } } := rfl

/-- A run that nothing tells changes the line's runs and draws one free value. -/
theorem State.showRun_frame (n m : Nat) (s : State) :
    s.showRun n m = { s with
      line := { s.line with recessiveRun := (s.showRun n m).line.recessiveRun,
                            dominantRun := (s.showRun n m).line.dominantRun },
      chance := s.chance + 1 } := by
  unfold State.showRun
  by_cases h : Config.freeLevel s.chance <;> simp [h]

/-- The run shown is of one level or the other. -/
theorem State.showRun_runs (n m : Nat) (s : State) :
    ((s.showRun n m).line.recessiveRun = n ∧ (s.showRun n m).line.dominantRun = 0)
      ∨ ((s.showRun n m).line.recessiveRun = 0 ∧ (s.showRun n m).line.dominantRun = m) := by
  unfold State.showRun
  by_cases h : Config.freeLevel s.chance <;> simp [h]

/-- A free value drawn up to a limit is at least 1 and at most the limit. -/
theorem State.freeUpTo_bounds {most : Nat} (s : State) (h : 0 < most) : 1 ≤ s.freeUpTo most ∧ s.freeUpTo most ≤ most := by
  unfold State.freeUpTo
  have := Nat.mod_lt (Config.freeRun s.chance) h
  omega

theorem State.beginEpoch_eq (s : State) :
    s.beginEpoch = { s with clock := {
      epoch := some { period := s.params.epochPeriod, left := Config.ticksPerTenth * s.params.epochPeriod },
      taken := PartsTaken.none } } := rfl

/-- With no part of an expiry taken, leaving ONLINE takes none (R39). -/
theorem State.finishExpiry_whole {s : State} (h : s.line.state ≠ .online ∨ s.clock.taken = PartsTaken.none) :
    s.finishExpiry = s := by
  unfold State.finishExpiry
  rw [if_neg]
  rintro ⟨h1, h2⟩
  exact h.elim (fun g => g h1) (fun g => h2 g)

/-- With some part taken, leaving ONLINE takes the rest, as EPOCH_EXPIRY would (R39). -/
theorem State.finishExpiry_parted {s : State} (h1 : s.line.state = .online) (h2 : s.clock.taken ≠ PartsTaken.none) :
    s.finishExpiry = s.expire [] := if_pos ⟨h1, h2⟩

/-- An expiry ends with a full epoch begun and no part of the next one taken. -/
theorem State.expire_clock (order : List EpochOwner) (s : State) :
    (s.expire order).clock.taken = PartsTaken.none := rfl

/-- Bits move the two runs of the line and nothing else of it. -/
theorem feedBits_frame (bits : List Bool) (l : Line) :
    feedBits bits l = { l with recessiveRun := (feedBits bits l).recessiveRun,
                               dominantRun := (feedBits bits l).dominantRun } := rfl

/-- The bits of a frame set both runs. -/
theorem State.runsOf_eq (bits : List Bool) (s : State) :
    s.runsOf bits = { s with line := { s.line with
      recessiveRun := (bits.foldl feedBit (0, 0)).1, dominantRun := (bits.foldl feedBit (0, 0)).2 } } := rfl

/-- The same where a free value says which bits they are. -/
theorem State.runsDrawn_eq (bits : List Bool) (s : State) :
    s.runsDrawn bits = { s with
      line := { s.line with
        recessiveRun := (bits.foldl feedBit (0, 0)).1, dominantRun := (bits.foldl feedBit (0, 0)).2 },
      chance := s.chance + 1 } := rfl

/-- One bit sends one bit, and a stuff bit after the seventh equal one unless it is the last. -/
theorem length_stuffFrom_cons (b : Bool) (bs : List Bool) (last : Bool) (n : Nat) :
    (stuffFrom last n (b :: bs)).length =
      if (if b = last then n + 1 else 1) = Config.stuffAfter ∧ bs ≠ [] then (stuffFrom (!b) 1 bs).length + 2
      else (stuffFrom b (if b = last then n + 1 else 1) bs).length + 1 := by
  simp only [stuffFrom]
  generalize (if b = last then n + 1 else 1) = c
  cases bs <;> by_cases h : c = Config.stuffAfter <;> simp [h]

/-- Stuffing only adds bits. -/
theorem length_le_stuffFrom (bits : List Bool) (last : Bool) (n : Nat) :
    bits.length ≤ (stuffFrom last n bits).length := by
  induction bits generalizing last n with
  | nil => simp
  | cons b bs ih =>
    have h1 := ih (!b) 1
    have h2 := ih b (if b = last then n + 1 else 1)
    rw [length_stuffFrom_cons, List.length_cons]
    generalize (if b = last then n + 1 else 1) = c at h2 ⊢
    split <;> omega

/-- A head stuffed by itself is shorter than with what follows it, by as many bits at least. -/
theorem length_stuffFrom_append (xs ys : List Bool) (last : Bool) (n : Nat) :
    (stuffFrom last n xs).length + ys.length ≤ (stuffFrom last n (xs ++ ys)).length := by
  induction xs generalizing last n with
  | nil => simpa [stuffFrom] using length_le_stuffFrom ys last n
  | cons b bs ih =>
    have h1 := ih (!b) 1
    have h2 := ih b (if b = last then n + 1 else 1)
    rw [List.cons_append, length_stuffFrom_cons, length_stuffFrom_cons]
    generalize (if b = last then n + 1 else 1) = c at h2 ⊢
    by_cases hb : bs = []
    · subst hb
      have h3 : ∀ k, (stuffFrom b k []).length = 0 := fun _ => rfl
      have h4 := length_le_stuffFrom ys (!b) 1
      simp only [List.nil_append, h3, ne_eq, not_true_eq_false, and_false, if_false] at h2 ⊢
      split <;> omega
    · have hb' : bs ++ ys ≠ [] := by simp [hb]
      simp only [ne_eq, hb, hb', not_false_eq_true, and_true]
      split <;> omega

/-- At its end mark a whole frame leaves at least three recessive bits, and no dominant one. -/
theorem Frame.wholeBits_runs (f : Frame) (check : Half) (slot : Bool) (r : Nat × Nat) :
    3 ≤ ((f.wholeBits check slot).foldl feedBit r).1 ∧ ((f.wholeBits check slot).foldl feedBit r).2 = 0 := by
  rw [Frame.wholeBits, List.foldl_append]
  generalize (f.checkedBits check).foldl feedBit r = q
  have hq : (slot :: List.replicate Config.endMarkBits true) = [slot, true, true, true] := rfl
  rw [hq]
  simp only [List.foldl_cons, List.foldl_nil, feedBit, if_true]
  exact ⟨by omega, trivial⟩

/-- A field whose bits are told sets both runs and draws one free value for the bits before it. -/
theorem State.feedField_eq (bits : List Bool) (s : State) :
    s.feedField bits = { s with
      line := feedBits (stuffFrom (Config.freeLevel s.chance) (s.freeUpTo 6) bits) { s.line with
        recessiveRun := if Config.freeLevel s.chance then s.freeUpTo 6 else 0,
        dominantRun := if Config.freeLevel s.chance then 0 else s.freeUpTo 6 },
      chance := s.chance + 1 } := rfl

/-- The reading of the destination changes the phase and the termination only. -/
theorem State.readDestination_frame (d : Nat) (s : State) :
    s.readDestination d = { s with line := { s.line with
      phase := addressedPhase d, termination := (s.readDestination d).line.termination } } := by
  unfold State.readDestination
  split
  · next h => rw [← h]
  · rfl

/-- A whole frame changes the line only. -/
theorem State.passFrame_frame (f : Frame) (s : State) : s.passFrame f = { s with line := (s.passFrame f).line } := by
  unfold State.passFrame
  rw [State.readDestination_frame]
  rfl

/-- The end of a frame sets the line's two runs, and draws a free value where the DL416 does not drive the slot. -/
theorem State.endFrame_frame (f : Frame) (check : Half) (s : State) :
    s.endFrame f check = { s with
      line := { s.line with recessiveRun := (s.endFrame f check).line.recessiveRun,
                            dominantRun := (s.endFrame f check).line.dominantRun },
      chance := if s.line.acknowledged then s.chance else s.chance + 1 } := by
  unfold State.endFrame
  by_cases h : s.line.acknowledged <;> simp [h, State.runsDrawn_eq, State.runsOf_eq]

/-- A reception that ends early changes the line only. -/
theorem State.stopReception_frame (s : State) : s.stopReception = { s with line := s.stopReception.line } := by
  unfold State.stopReception
  by_cases h : s.mayBegin <;> simp [h, State.enterPhase, State.setLine, State.setAcknowledged]

/-- A frame ended at its length field changes the line only. -/
theorem State.stopAtLength_frame (f : Frame) (s : State) :
    s.stopAtLength f = { s with line := (s.stopAtLength f).line } := by
  unfold State.stopAtLength
  rw [State.readDestination_frame]
  rfl

/-- The bit times of 5 ms move the line's two runs and the counter of the free values, and nothing else. -/
theorem State.countBits_frame (s : State) :
    s.countBits = { s with
      line := { s.line with recessiveRun := s.countBits.line.recessiveRun,
                            dominantRun := s.countBits.line.dominantRun },
      chance := s.countBits.chance } := by
  unfold State.countBits
  split <;> first
    | rfl
    | (rw [State.showRun_frame])
    | (split <;> rfl)

/-- The bit times of 5 ms at each of the four rates: as many whole ones as 5 ms holds, or one more where it holds a part of
one. -/
theorem State.bitsInTick_bounds {s : State} (h : s.line.bitRate ≤ 3) :
    5000 / (16 / 2 ^ s.line.bitRate) ≤ s.bitsInTick
      ∧ s.bitsInTick ≤ if s.line.bitRate = 0 then 313 else 5000 / (16 / 2 ^ s.line.bitRate) := by
  unfold State.bitsInTick Config.bitMicros Config.tickMicros
  generalize Config.freeRun s.chance = x
  generalize s.line.bitRate = r at h
  match r, h with
  | 0, _ => simp only [Nat.pow_zero, Nat.div_one, if_true]; omega
  | 1, _ => simp only [Nat.reducePow, Nat.reduceDiv, if_neg Nat.one_ne_zero]; omega
  | 2, _ => simp only [Nat.reducePow, Nat.reduceDiv, if_neg (show (2 : Nat) ≠ 0 by decide)]; omega
  | 3, _ => simp only [Nat.reducePow, Nat.reduceDiv, if_neg (show (3 : Nat) ≠ 0 by decide)]; omega

@[simp] theorem State.tick_line (s : State) : s.tick.line = s.countBits.line := rfl

@[simp] theorem State.tick_chance (s : State) : s.tick.chance = s.countBits.chance := rfl

/-! ## Transactions at the port -/

theorem State.transaction_write {header : Byte} (data : List Byte) (s : State) (h : headerWrites header = true) :
    s.transaction header data = s.windowWrite (headerOffset header) data := by simp [State.transaction, h]

/-- A read changes the port only, and nothing there but the byte returned and the pointer. -/
theorem State.readWindowByte_frame (offset : Nat) (s : State) :
    s.readWindowByte offset = { s with port := { s.port with
      dataOut := (s.readWindowByte offset).port.dataOut, pointer := (s.readWindowByte offset).port.pointer } } := by
  unfold State.readWindowByte
  split <;> rfl

/-! ## Every command answers a next state -/

/-- No command faults or is refused. -/
theorem exec_answers_next (c : Instr) (s : State) : ∃ t, exec c s = .next t := by
  cases c <;> simp only [exec] <;> first
    | exact ⟨_, rfl⟩
    | (unfold execTransmitBegin; split <;> first | exact ⟨_, rfl⟩ | (split <;> exact ⟨_, rfl⟩))
    | (unfold execArbitrationLost; split <;> exact ⟨_, rfl⟩)
    | (unfold execEchoDifference; split <;> exact ⟨_, rfl⟩)
    | (unfold execAcknowledgeSlot; split <;> exact ⟨_, rfl⟩)
    | (unfold execLineOnline; split <;> exact ⟨_, rfl⟩)
    | (unfold execLineFault; split <;> exact ⟨_, rfl⟩)
    | (unfold execFaultRecovery; split <;> exact ⟨_, rfl⟩)
    | (unfold execEpochExpiry; split <;> exact ⟨_, rfl⟩)
    | (unfold execLapse; split <;> first | exact ⟨_, rfl⟩ | (split <;> exact ⟨_, rfl⟩))
    | (unfold execDisputeHoldExpiry; split <;> first | exact ⟨_, rfl⟩ | (split <;> exact ⟨_, rfl⟩))
    | (unfold execQuarantineHoldExpiry; split <;> exact ⟨_, rfl⟩)
    | (unfold execCensusWindowEnd; split <;> exact ⟨_, rfl⟩)
    | (unfold execOfferWaitExpiry; split <;> first | exact ⟨_, rfl⟩ | (split <;> exact ⟨_, rfl⟩))
    | (unfold execProbeWaitExpiry; split <;> first | exact ⟨_, rfl⟩ | (split <;> exact ⟨_, rfl⟩))
    | (unfold execLineIdle; split <;> exact ⟨_, rfl⟩)
    | (unfold execStartMarkReceived; split <;> exact ⟨_, rfl⟩)
    | (unfold execDestinationFieldRead; split <;> exact ⟨_, rfl⟩)

/-- No step faults or is refused. -/
theorem step_answers_next (s : State) : ∃ t, step s = .next t := by
  unfold step
  split
  · exact exec_answers_next _ _
  · exact ⟨_, rfl⟩

end Sys2Proof.Machine
end

