-- ==== Sys2Proof/Tests/Slice0.lean ====
section
/-! SUPPORT. Tests: terms that WellFormed refuses, single steps after the manual's examples, and, for every statement of
Certificates/Slice0/Obligations.lean that has premises, states and operands that meet them, clause by clause. -/

namespace Sys2Proof.Machine.Tests

set_option Elab.async false

/-! ## Small states -/

/-- A record with a term granted. -/
def granted (a i : Nat) (st : RecordState) : Record where
  address := a
  identity := BitVec.ofNat 48 i
  state := st
  pinned := false
  term := 0
  granted := some 600
  quiet := 3
  attempts := 0
  rival := none
  offer := none
  hold := none

/-- An offer of the origin. -/
def offerOf (o : Origin) : OfferContext where
  origin := o
  term := 600
  wait := 50

def recReserved : Record := { granted 2 102 .reserved with granted := none, quiet := 0 }
def recNew : Record := { granted 3 103 .offered with granted := none, quiet := 0, offer := some (offerOf .new) }
def recRebind : Record := { granted 4 104 .offered with offer := some (offerOf .rebind) }
def recBound : Record := { granted 5 105 .bound with term := 1 }
def recLapsed : Record := { granted 6 106 .lapsed with attempts := 2 }
def recDisputed : Record := { granted 7 107 .disputed with hold := some 1 }
def recRivalled : Record := { granted 8 108 .disputed with rival := some 208 }
def recPinned : Record := { granted 9 109 .bound with pinned := true }
def recAgain : Record := { granted 10 110 .offered with granted := none, quiet := 0, offer := some (offerOf .reserved) }
def recPinnedOffer : Record := { granted 11 111 .offered with pinned := true, offer := some (offerOf .rebind) }

/-- A state with an idle ONLINE line and the records, every other address free. -/
def online (records : List Record) : State := { State.reset with
  directory := { records := records, marks := [], pacing := [],
                 lapseList := (records.filter (fun r => r.state == .lapsed)).map (fun r => r.address) }
  pool := { free := (List.range' 1 239).filter (fun a => !(records.any (fun r => r.address == a))), quarantine := [] }
  line := { State.reset.line with state := .online, segmentEnd := true, termination := .high }
  clock := { epoch := some { period := 10, left := 200 }, taken := PartsTaken.none } }

/-- No record. -/
def bare : State := online []
/-- A record of every state; three of them OFFERED. -/
def rich : State :=
  { online [recReserved, recNew, recRebind, recBound, recLapsed, recDisputed, recRivalled, recPinned, recAgain] with
    pool := {
      free := List.range' 11 228,
      quarantine := [{ address := 1, lastIdentity := 300, hold := 1 }, { address := 239, lastIdentity := 301, hold := 255 }] }
    groups := State.reset.groups.set 0 { mode := .opened, members := [2, 5, 6, 7] }
    directory := { (online [recReserved, recNew, recRebind, recBound, recLapsed, recDisputed, recRivalled, recPinned,
        recAgain]).directory with
      marks := [(2, .altered), (3, .added), (12, .removed)] } }
/-- An unpinned BOUND and a pinned OFFERED record. -/
def few : State := online [recBound, recPinnedOffer]
/-- Four OFFERED records. -/
def busyOffers : State := online [recNew, recRebind, recAgain, recPinnedOffer]
/-- One DISPUTED record without a hold. -/
def calm : State := online [recBound, recRivalled]

def inCensus (s : State) : State := { s with census := { mode := .census, window := 1, autostart := false } }
def inLine (l : LineState) (s : State) : State :=
  { s with line := { s.line with state := l, phase := .idle, termination := .openCircuit },
           clock := { s.clock with epoch := none } }
def inPhase (ph : LinePhase) (s : State) : State := { s with line := { s.line with phase := ph } }
def holding (s : State) : State := { s with params := { s.params with disputePolicy := .hold, disputeHold := 255 } }
def renewing (s : State) : State := { s with params := { s.params with passiveRenewal := true } }
def closedGate (s : State) : State := { s with params := { s.params with joinGate := .closed } }
def noFree (s : State) : State := { s with pool := { s.pool with free := [] } }
/-- The member entry pool is empty: sixteen full groups. -/
def packed (s : State) : State :=
  { s with groups := (List.range 32).map (fun n => { mode := .opened, members := if n < 16 then List.range' 1 16 else [] }) }

/-- The Lease Directory has taken its part of an expiry. -/
def parted (s : State) : State := { s with clock := { s.clock with taken := { PartsTaken.none with leaseDirectory := true } } }
def autostarting (s : State) : State := { s with census := { s.census with autostart := true } }
def busyPort (s : State) : State := { s with port := { s.port with state := .busy } }
def given (bs : List Byte) (s : State) : State := { s with port := { s.port with parameters := bs } }
def noLapsed (s : State) : State := { s with directory := { s.directory with lapseList := [] } }

/-- A probe context. -/
def probeOf (target identity : Nat) (k : ProbeKind) (attempt : Nat) (ph : ProbePhase) : ProbeContext where
  target := target
  identity := BitVec.ofNat 48 identity
  kind := k
  attempt := attempt
  phase := ph
def probing (c : ProbeContext) (s : State) : State := { s with prober := { s.prober with context := some c } }
/-- A sweep that scans addresses 1 to 239. -/
def scanning : Sweep := newSweep 1 239 .once .everyPass 0
def sweeping (w : Sweep) (s : State) : State := { s with prober := { s.prober with sweep := some w } }

/-- An entry of the queue. -/
def entry (f : Frame) (o : Originator) (limit : Nat) (sending : Bool) : TxEntry where
  frame := f
  check := f.check
  cls := .directory
  used := 0
  limit := limit
  originator := o
  sending := sending
  lastTry := false
def entryStray : TxEntry := entry (untargetedRevoke 5) .stray 1 true
def entryThrice : TxEntry := entry (untargetedRevoke 5) .stray 3 true
def entryLast : TxEntry := { entryThrice with lastTry := true }
def entryProbe : TxEntry := entry (probeFrame 6) (.prober true) 1 true
def entryCommand : TxEntry := entry (targetedRevoke 5 105) (.command true) 1 true
def entryCensus : TxEntry := entry (censusFrame 1 10) .censusUnit 1 false
def entryWaits : TxEntry := entry (probeFrame 6) .reply 1 false
def queued (es : List TxEntry) (s : State) : State := { s with queue := { s.queue with entries := es } }
/-- The REVOKE that a command waits to queue. -/
def waitingRevoke : Frame := targetedRevoke 5 105
def claimWaits (s : State) : State := { s with queue := { s.queue with waiting := some waitingRevoke } }

/-- A frame of no request. -/
def frameOf (source destination length : Nat) : Frame where
  priority := 1
  source := byteOf source
  identity := 0
  destination := byteOf destination
  kind := 63
  payload := List.replicate length 0

/-! ## Terms that WellFormed refuses, one for each check -/

theorem test_wellFormed_refuses :
    ([.frameHeard (frameOf 5 3 25), .frameHeard (frameOf 255 3 0), .frameHeard { frameOf 5 3 0 with identity := 9 },
      .frameHeard (frameOf 254 3 0), .frameInvalid (.badLength 24), .frameInvalid (.badCheck (frameOf 5 3 25) 0),
      .foreignDirectoryFrame 1 3 63 (List.replicate 25 0), .accept 1 0 9, .renew 1 254 9 0, .leave 1 255 9,
      .resolveIdentity 1 0 9, .groupJoin 1 254 1, .claim 1 0 9 0 [], .claim 1 5 9 0 (List.replicate 9 1),
      .epochExpiry [.prober, .prober], .lapse 0, .disputeHoldExpiry 240, .offerWaitExpiry 255, .badCommand 0x21,
      .commandWriteWhileBusy 0xFF, .registerWrite 0x80 [], .registerWrite 0x88 [1],
      .registerWrite 0x00 [1]] : List Instr).all
        (fun c => !c.wellFormed) = true := by decide

theorem test_wellFormed_admits :
    ([.frameHeard (frameOf 5 3 24), .frameHeard { frameOf 0 254 0 with identity := 9 }, .frameInvalid (.badLength 25),
      .accept 1 239 9, .claim 1 5 9 0 (List.replicate 8 1), .epochExpiry [.censusUnit, .prober], .lapse 239,
      .badCommand 0x05, .commandWriteWhileBusy 0x21, .registerWrite 0xFF [1, 2]] : List Instr).all
        (fun c => c.wellFormed) = true := by decide

theorem test_decode_no_row_gives_bits (nbits w : Nat) : decodeTableWord nbits w = none := rfl

theorem test_withFetchWord_unchanged (s : State) (nbits w : Nat) : s.withFetchWord nbits w = s := rfl

/-! ## Single steps after the manual's examples -/

/-- Where the free list begins, how many addresses it holds, and the quarantine queue. -/
def poolOf : Host.Outcome State Fault Refusal → List Nat × Nat × List (Nat × Nat)
  | .next t => (t.pool.free.take 3, t.pool.free.length, t.pool.quarantine.map (fun q => (q.address, q.hold)))
  | _ => ([], 0, [])

/-- Five BOUND records at 1 to 5 and a quarantine hold of 3, section 2.8. -/
def five : State :=
  let s := online ((List.range' 1 5).map (fun a => granted a (0x0F00 + a) .bound))
  { s with params := { s.params with quarantineHold := 3 } }

theorem test_leave_quarantines : poolOf (exec (.leave 2 3 0x0F03) five) = ([6, 7, 8], 234, [(3, 3)]) := by
  decide +kernel

theorem test_evict_at_hold_one :
    poolOf (exec .evict (given [5, 0, 0, 0, 0, 0, 0, 0] { five with params := { five.params with quarantineHold := 1 } }))
      = ([6, 7, 8], 234, [(5, 1)]) := by decide +kernel

/-- The pool of section 2.8 before the epoch expiry. -/
def aged : State :=
  { five with pool := { five.pool with quarantine := [{ address := 3, lastIdentity := 0x0F03, hold := 3 },
                                                      { address := 5, lastIdentity := 0x0F05, hold := 1 }] } }

theorem test_expiry_frees_the_address_at_hold_zero :
    poolOf (exec (.epochExpiry []) aged) = ([6, 7, 8], 235, [(3, 2)]) := by decide +kernel

theorem test_join_of_another_identity_takes_the_head :
    poolOf (exec (.join 2 0x00123456789A 3 0) aged) = ([7, 8, 9], 233, [(3, 3), (5, 1)]) := by decide +kernel

theorem test_join_of_the_last_identity_takes_its_hint :
    poolOf (exec (.join 2 0x0F03 3 0) { aged with directory := Directory.reset }) = ([6, 7, 8], 234, [(5, 1)]) := by
  decide +kernel

/-- R39: with the Lease Directory's part taken by LAPSE, a fault finds the expiry taken and the quarantine aged too; with no
part taken it produces none. -/
theorem test_fault_finishes_an_expiry_begun :
    (match exec (.lapse 5) { aged with directory := { aged.directory with records := [recBound] } } with
     | .next t => poolOf (exec .lineFault t)
     | _ => ([], 0, [])) = ([6, 7, 8], 235, [(3, 2)])
      ∧ poolOf (exec .lineFault aged) = ([6, 7, 8], 234, [(3, 3), (5, 1)]) := by decide +kernel

/-- The record at an address, in part. -/
def recordIn (a : Nat) : Host.Outcome State Fault Refusal → Option (RecordState × Nat × Nat)
  | .next t => (t.recordAt a).map (fun r => (r.state, r.term, r.quiet))
  | _ => none

theorem test_expiry_lapses : recordIn 5 (exec (.epochExpiry []) rich) = some (.lapsed, 0, 4) := by decide +kernel

theorem test_pinned_does_not_age : recordIn 9 (exec (.epochExpiry []) rich) = some (.bound, 0, 4) := by decide +kernel

theorem test_accept_binds : recordIn 4 (exec (.accept 1 4 104) rich) = some (.bound, 600, 0) := by decide +kernel

theorem test_probe_reply_restores :
    recordIn 6 (exec (.probeReply 1 6 106) (probing (probeOf 6 106 .lapse 3 .queued) rich)) = some (.bound, 600, 0) := by
  decide +kernel

theorem test_probe_unanswered_at_the_limit_retires :
    poolOf (exec .probeWaitExpiry (probing (probeOf 6 106 .lapse 3 (.waiting 0)) rich))
      = ([11, 12, 13], 228, [(1, 1), (239, 255), (6, 30)]) := by decide +kernel

theorem test_award_to_the_rival :
    (match exec .award (given [8, 1, 0, 0, 0, 0, 0, 0] rich) with
     | .next t => (t.recordAt 8).map (fun r => (r.identity, r.rival))
     | _ => none) = some (208, none) := by decide +kernel

theorem test_reserve_of_a_held_address :
    (match exec .reserve (given [5, 0, 0, 0, 0, 9, 9, 0] rich) with
     | .next t => some (t.port.outcome, t.port.state, t.port.error)
     | _ => none) = some (.addressHeld, .ready, true) := by decide +kernel

theorem test_code_in_busy_collides :
    (match exec (.commandWriteWhileBusy 0x21) (busyPort rich) with
     | .next t => some (t.port.collide, t.port.code, t.port.state)
     | _ => none) = some (true, 0, .busy) := by decide +kernel

theorem test_buffer_pointer_wraps :
    (match exec (.bufferDataWrite 7) { rich with port := { rich.port with pointer := 255 } } with
     | .next t => some (t.port.pointer, t.port.buffer.getD 255 0)
     | _ => none) = some (0, 7) := by decide +kernel

theorem test_step_on_a_lapse_probe :
    (match exec .probeChoose rich with
     | .next t => some (t.directory.lapseList, t.queue.entries.map (fun e => (e.frame.destination, e.frame.kind)))
     | _ => none) = some ([], [(6, 0x24)]) := by decide +kernel

/-- The outcome a host command ends with. -/
def outcomeOf : Host.Outcome State Fault Refusal → Option OutcomeCode
  | .next t => some t.port.outcome
  | _ => none

/-- Values at the ends of their ranges and just outside them. -/
theorem test_values_at_the_ends_of_their_ranges :
    ([(.setParameter, [1, 0, 1], .ok), (.setParameter, [1, 0, 0], .badValue), (.setParameter, [1, 1, 0], .badValue),
      (.setParameter, [2, 255, 255], .ok), (.setParameter, [2, 0, 0], .badValue), (.setParameter, [4, 0, 0], .ok),
      (.setParameter, [7, 0, 7], .ok), (.setParameter, [7, 0, 8], .badValue), (.setParameter, [8, 0, 8], .ok),
      (.setParameter, [8, 0, 9], .badValue), (.setParameter, [17, 0, 3], .ok), (.setParameter, [17, 0, 4], .badValue),
      (.setParameter, [18, 0, 127], .ok), (.setParameter, [18, 0, 128], .badValue), (.setParameter, [19, 0, 0], .badValue),
      (.loadReservations, [32], .ok), (.loadReservations, [33], .badValue), (.loadReservations, [0], .badValue),
      (.readDirectory, [239, 10], .ok), (.readDirectory, [240, 10], .badValue), (.readDirectory, [1, 11], .badValue),
      (.startSweep, [239, 239, 1, 1], .ok), (.startSweep, [239, 238, 0, 0], .badValue),
      (.startSweep, [0, 1, 0, 0], .badValue), (.readGroup, [32], .ok), (.readGroup, [33], .badValue),
      (.readGroup, [0], .badValue), (.setGroupMode, [1, 2], .badValue), (.groupAssign, [1, 240], .badValue),
      (.groupAssign, [1, 239], .notFound), (.groupAssign, [1, 5], .already), (.groupAssign, [1, 3], .ok),
      (.setBitRate, [4], .badValue), (.setBitRate, [3], .wrongState), (.award, [8, 2], .badValue),
      (.award, [7, 1], .badValue), (.readQuarantine, [255], .ok)] : List (Instr × List Byte × OutcomeCode)).all
        (fun x => outcomeOf (exec x.1 (given (x.2.1 ++ List.replicate (8 - x.2.1.length) 0) rich)) == some x.2.2) = true := by
  decide +kernel

/-- A byte's eight bits, most significant first, go out as they stand, and eight equal bits get a stuff bit (R147). -/
theorem test_bits_and_stuffing :
    bitsOf (0x81 : Byte) = [true, false, false, false, false, false, false, true]
      ∧ stuffFrom true 0 (List.replicate 8 false)
        = [false, false, false, false, false, false, false, true, false] := by decide

/-- Start mark, priority and FEh of a REVOKE, an OFFER and a PROBE, written out with their stuff bits (R147, R150). -/
theorem test_bits_of_arbitration :
    (untargetedRevoke 5).arbitrationBits = [false, false, false, true, true, true, true, true, true, true, false, false]
      ∧ (offerFrame 9 5 6 1).arbitrationBits
        = [false, false, true, true, true, true, true, true, true, false, true, false]
      ∧ (probeFrame 5).arbitrationBits
        = [false, true, false, true, true, true, true, true, true, true, false, false] := by decide

/-- A PROBE whose slot reads dominant leaves the three recessive bits of its end mark, and one whose slot reads recessive
leaves no dominant run either (R144). -/
theorem test_runs_at_the_end_mark :
    runsOver true 0 ((probeFrame 5).wholeBits (probeFrame 5).check false) = (3, 0)
      ∧ (runsOver true 0 ((probeFrame 5).wholeBits (probeFrame 5).check true)).2 = 0 := by decide +kernel

/-- A failed check counts as it was received: behind a recessive slot 0000h leaves 4 recessive bits and FFFFh 7, whatever
check the frame's own fields give (R144). -/
theorem test_runs_of_a_check_received :
    runsOver true 0 ((probeFrame 5).wholeBits 0x0000 true) = (4, 0)
      ∧ runsOver true 0 ((probeFrame 5).wholeBits 0xFFFF true) = (7, 0) := by decide +kernel

/-- After a whole frame that left 4 recessive bits the line is idle at 7, with nothing drawn (R144). -/
theorem test_idle_counts_on_from_the_end_mark :
    (match exec .lineIdle { rich with line := { rich.line with phase := .afterFrame, recessiveRun := 4 } } with
     | .next t => some (t.line.phase, t.line.recessiveRun, t.line.dominantRun, t.chance)
     | _ => none) = some (.idle, 7, 0, 0) := by decide +kernel

/-- Whatever run of 1 to 6 equal bits stands before it, destination 05h leaves one recessive bit, length 25 (11001) one
recessive bit and length 26 (11010) one dominant bit (R144). -/
theorem test_runs_told_by_a_field :
    priorRuns.all (fun p => runsOver p.1 p.2 (stuffFrom p.1 p.2 (bitsOf (0x05 : Byte))) == (1, 0)
      && runsOver p.1 p.2 (stuffFrom p.1 p.2 (bitsOf (25 : BitVec 5))) == (1, 0)
      && runsOver p.1 p.2 (stuffFrom p.1 p.2 (bitsOf (26 : BitVec 5))) == (0, 1)) = true := by decide

/-- The check of the one bit 0, and of the one bit 1, worked out by hand from R173. -/
theorem test_check_of_one_bit : crc [true] = 0xFFFE ∧ crc [false] = 0xA6CB := by decide

/-- The bytes 88h 01h write code 01h, and 08h reads the code back: the header's bit 7 and its offset (R174). -/
theorem test_header_selects_write_and_offset :
    outcomeOf (exec (.registerWrite 0x88 [0x01]) (given [1, 0, 0, 0, 0, 0, 0, 0] bare)) = some .badValue
      ∧ (match exec (.registerWrite 0x08 [0x01]) { bare with port := { bare.port with code := 0x52 } } with
         | .next t => some (t.port.dataOut, t.port.outcome, t.port.state)
         | _ => none) = some (0x52, .ok, .ready) := by decide +kernel

/-- Reserved, refused for an identity recorded, reserved: the outcome bytes and the two counts (R164). -/
theorem test_load_reservations_answers_each_entry :
    (match exec .loadReservations (given [3, 0, 0, 0, 0, 0, 0, 0] { rich with port := { rich.port with
        buffer := [20, 0, 0, 0, 0, 9, 1, 1, 21, 0, 0, 0, 0, 0, 105, 0, 22, 0, 0, 0, 0, 9, 2, 0]
          ++ List.replicate 232 9 } }) with
     | .next t => some (t.port.parameters.take 2, (t.port.buffer.take 24).map (fun b => b.toNat))
     | _ => none) = some ([2, 1], [20, 0, 0, 0, 0, 9, 1, 0, 21, 0, 0, 0, 0, 0, 105, 5, 22, 0, 0, 0, 0, 9, 2, 0]) := by
  decide +kernel

/-! ## The small states obey the laws -/

theorem rich_sound : rich.Sound where
  placed := by unfold State.Placed; decide +kernel
  identified := by unfold State.Identified; decide +kernel
  shaped := by unfold State.Shaped; decide +kernel
  limits := by unfold State.WithinLimits; decide +kernel
  lapse := by unfold State.LapseListed; decide +kernel
  marked := by unfold State.Marked; decide +kernel
  paced := by unfold State.Paced; decide +kernel
  grouped := by unfold State.Grouped; decide +kernel
  queued := by unfold State.Queued; decide +kernel
  command := by unfold State.CommandAwaits; decide +kernel
  probe := by unfold State.ProbeAwaits; decide +kernel
  ranged := by unfold State.Ranged; decide +kernel
  timed := by unfold State.Timed; decide +kernel
  lined := by unfold State.Lined; decide +kernel
  probing := by unfold State.Probing; decide +kernel
  ported := by unfold State.Ported; decide +kernel

theorem placed_rich : rich.Placed := rich_sound.placed

theorem placed_few : few.Placed := by unfold State.Placed; decide +kernel

theorem placed_bare : bare.Placed := by unfold State.Placed; decide +kernel

/-! ## Premises met -/

theorem premises_of_FrontCommandIsWhatAStepRuns :
    ∃ (s : State) (c : Instr) (rest : List Instr), s.pending = c :: rest :=
  ⟨{ State.reset with pending := [.lineIdle] }, _, _, rfl⟩

theorem premises_of_EmptyQueueLetsFiveMillisecondsPass :
    (∃ s : State, s.pending = [])
    ∧ (∃ (s : State), s.pending = [] ∧ (s.line.state = .disabled ∨ s.line.state = .fault))
    ∧ (∃ (s : State), s.pending = [] ∧ s.line.state = .settling)
    ∧ (∃ (s : State), s.pending = [] ∧ s.line.state = .online ∧ s.line.phase = .idle ∧ s.line.bitRate ≤ 3)
    ∧ (∃ (s : State), s.pending = [] ∧ s.line.state = .online
         ∧ (s.line.phase = .receiving ∨ s.line.phase = .receivingDirectory ∨ s.line.phase = .receivingOther))
    ∧ (∃ (s : State), s.pending = [] ∧ s.line.state = .online ∧ s.line.phase = .afterFrame)
    ∧ (∃ (s : State), s.pending = [] ∧ s.line.state = .online ∧ s.line.phase = .stopped)
    ∧ (∃ (s : State) (pre : List TxEntry) (e : TxEntry) (post : List TxEntry),
       s.pending = [] ∧ s.line.state = .online ∧ s.line.phase = .transmitting ∧ s.queue.entries = pre ++ e :: post
         ∧ e.sending = true ∧ (∀ x ∈ pre ++ post, x.sending = false)) :=
  ⟨⟨State.reset, rfl⟩,
   ⟨(rich |> inLine .disabled), (by decide +kernel)⟩,
   ⟨(rich |> inLine .settling), (by decide +kernel)⟩,
   ⟨rich, (by decide +kernel)⟩,
   ⟨(rich |> inPhase .receiving), (by decide +kernel)⟩,
   ⟨(rich |> inPhase .afterFrame), (by decide +kernel)⟩,
   ⟨(rich |> inPhase .stopped), (by decide +kernel)⟩,
   ⟨(rich |> inPhase .transmitting |> queued [entryStray]), [], entryStray, [], (by decide +kernel)⟩⟩

theorem premises_of_AddressesStayInExactlyOnePlace :
    ∃ s t : State, s.Placed ∧ step s = .next t :=
  (let ⟨t, h⟩ := step_answers_next rich; ⟨rich, t, rich_sound.placed, h⟩)

theorem premises_of_RecordedIdentitiesStayValidAndDistinct :
    ∃ s t : State, s.Placed ∧ s.Identified ∧ step s = .next t :=
  (let ⟨t, h⟩ := step_answers_next rich; ⟨rich, t, rich_sound.placed, rich_sound.identified, h⟩)

theorem premises_of_RecordsKeepTheFieldsOfTheirState :
    ∃ s t : State, s.Shaped ∧ s.Ranged ∧ s.Probing ∧ step s = .next t :=
  (let ⟨t, h⟩ := step_answers_next rich; ⟨rich, t, rich_sound.shaped, rich_sound.ranged, rich_sound.probing, h⟩)

theorem premises_of_RecordCountsStayWithinTheLimits :
    ∃ s t : State, s.Placed ∧ s.WithinLimits ∧ step s = .next t :=
  (let ⟨t, h⟩ := step_answers_next rich; ⟨rich, t, rich_sound.placed, rich_sound.limits, h⟩)

theorem premises_of_LapseListStaysExact :
    ∃ s t : State, s.Placed ∧ s.LapseListed ∧ step s = .next t :=
  (let ⟨t, h⟩ := step_answers_next rich; ⟨rich, t, rich_sound.placed, rich_sound.lapse, h⟩)

theorem premises_of_MarksStayTrueOfTheRecords :
    ∃ s t : State, s.Placed ∧ s.Grouped ∧ s.Marked ∧ step s = .next t :=
  (let ⟨t, h⟩ := step_answers_next rich; ⟨rich, t, rich_sound.placed, rich_sound.grouped, rich_sound.marked, h⟩)

theorem premises_of_MemberListsStayBoundedAndHeld :
    ∃ s t : State, s.Placed ∧ s.Grouped ∧ step s = .next t :=
  (let ⟨t, h⟩ := step_answers_next rich; ⟨rich, t, rich_sound.placed, rich_sound.grouped, h⟩)

theorem premises_of_TransmitQueueStaysWithinItsPlaces :
    ∃ s t : State, s.Queued ∧ s.Ranged ∧ s.Lined ∧ step s = .next t :=
  (let ⟨t, h⟩ := step_answers_next rich; ⟨rich, t, rich_sound.queued, rich_sound.ranged, rich_sound.lined, h⟩)

theorem premises_of_ReportsStayTiedToTheirOperations :
    ∃ s t : State, s.CommandAwaits ∧ s.ProbeAwaits ∧ s.Queued ∧ step s = .next t :=
  (let ⟨t, h⟩ := step_answers_next rich; ⟨rich, t, rich_sound.command, rich_sound.probe, rich_sound.queued, h⟩)

theorem premises_of_ParametersClockAndModeStayInLaw :
    ∃ s t : State, s.Ranged ∧ s.Timed ∧ step s = .next t :=
  (let ⟨t, h⟩ := step_answers_next rich; ⟨rich, t, rich_sound.ranged, rich_sound.timed, h⟩)

theorem premises_of_LineAndPortStayInForm :
    ∃ s t : State, s.Lined ∧ s.Paced ∧ s.Ported ∧ s.Queued ∧ step s = .next t :=
  (let ⟨t, h⟩ := step_answers_next rich; ⟨rich, t, rich_sound.lined, rich_sound.paced, rich_sound.ported,
                                          rich_sound.queued, h⟩)

theorem premises_of_ProberStaysInForm :
    ∃ s t : State, s.Placed ∧ s.Identified ∧ s.Shaped ∧ s.Ranged ∧ s.Probing ∧ step s = .next t :=
  (let ⟨t, h⟩ := step_answers_next rich; ⟨rich, t, rich_sound.placed, rich_sound.identified, rich_sound.shaped,
                                          rich_sound.ranged, rich_sound.probing, h⟩)

theorem premises_of_JoinOffersTheChosenOrItsOwnAddress :
    (∃ (s : State) (i : Identity) (h : Byte) (a : Nat),
     s.Receives ∧ s.HasReplyRoom ∧ validIdentity i = true ∧ s.census.mode = .serving ∧ s.params.joinGate = .opened
       ∧ s.Placed ∧ s.recordOf i = none ∧ s.directory.records.length < 192 ∧ s.countIn .offered < 4
       ∧ s.chooseAddress h.toNat i = some a)
    ∧ (∃ (s : State) (i : Identity) (r : Record),
       s.Receives ∧ s.HasReplyRoom ∧ validIdentity i = true ∧ s.census.mode = .serving ∧ s.params.joinGate = .opened
         ∧ s.Placed ∧ s.recordOf i = some r ∧ (r.state = .reserved ∨ r.state = .bound ∨ r.state = .lapsed)
         ∧ s.countIn .offered < 4)
    ∧ (∃ (s : State) (i : Identity) (r : Record) (o : OfferContext),
       s.Receives ∧ s.HasReplyRoom ∧ validIdentity i = true ∧ s.census.mode = .serving ∧ s.params.joinGate = .opened
         ∧ s.Placed ∧ s.recordOf i = some r ∧ r.state = .offered ∧ r.offer = some o)
    ∧ (∃ (s : State), s.Placed) :=
  ⟨⟨rich, 208, 5, 11, (by unfold State.Receives; decide +kernel), (by unfold State.HasReplyRoom; decide +kernel),
    (by decide +kernel), (by decide +kernel), (by decide +kernel), placed_rich, (by decide +kernel)⟩,
   ⟨rich, 105, recBound, (by unfold State.Receives; decide +kernel), (by unfold State.HasReplyRoom; decide +kernel),
    (by decide +kernel), (by decide +kernel), (by decide +kernel), placed_rich, (by decide +kernel)⟩,
   ⟨rich, 103, recNew, (offerOf .new), (by unfold State.Receives; decide +kernel),
    (by unfold State.HasReplyRoom; decide +kernel), (by decide +kernel), (by decide +kernel), (by decide +kernel),
    placed_rich, (by decide +kernel)⟩,
   ⟨rich, placed_rich⟩⟩

theorem premises_of_JoinIsRefusedForTheFirstReasonThatHolds :
    ∃ (s : State) (i : Identity) (h : Byte) (q : RefusalReason),
        s.Receives ∧ s.HasReplyRoom ∧ validIdentity i = true ∧ s.joinRefusal i h.toNat = some q :=
  ⟨rich, 107, 5, .disputed, (by unfold State.Receives; decide +kernel),
   (by unfold State.HasReplyRoom; decide +kernel), (by decide +kernel)⟩

theorem premises_of_AcceptBindsItsOfferOrEarnsARevoke :
    (∃ (s : State) (a : Byte) (i : Identity) (r : Record) (o : OfferContext),
     s.Receives ∧ s.Placed ∧ s.LapseListed ∧ leasable a.toNat = true ∧ validIdentity i = true
       ∧ s.recordAt a.toNat = some r ∧ r.state = .offered ∧ r.identity = i ∧ r.offer = some o)
    ∧ (∃ (s : State) (a : Byte) (i : Identity) (u : State),
       s.Receives ∧ leasable a.toNat = true ∧ validIdentity i = true
         ∧ (s.recordAt a.toNat).all (fun r => r.state != .offered || r.identity != i) = true ∧ s.Placed
         ∧ u = s.heardState a.toNat false 0) :=
  ⟨⟨rich, 3, 103, recNew, (offerOf .new), (by unfold State.Receives; decide +kernel), placed_rich,
    (by unfold State.LapseListed; decide +kernel), (by decide +kernel)⟩,
   ⟨rich, 5, 105, _, (by unfold State.Receives; decide +kernel), (by decide +kernel), (by decide +kernel),
    (by decide +kernel), placed_rich, rfl⟩⟩

theorem premises_of_OfferExpiryFollowsItsOrigin :
    (∃ (s : State) (a : Byte) (r : Record) (o : OfferContext),
     s.recordAt a.toNat = some r ∧ r.state = .offered ∧ r.offer = some o ∧ o.origin = .new)
    ∧ (∃ (s : State) (a : Byte) (r : Record) (o : OfferContext),
       s.Placed ∧ s.LapseListed ∧ s.recordAt a.toNat = some r ∧ r.state = .offered ∧ r.offer = some o
         ∧ o.origin = .reserved)
    ∧ (∃ (s : State) (a : Byte) (r : Record) (o : OfferContext),
       s.Placed ∧ s.LapseListed ∧ s.recordAt a.toNat = some r ∧ r.state = .offered ∧ r.offer = some o
         ∧ o.origin = .rebind ∧ r.pinned = false)
    ∧ (∃ (s : State) (a : Byte) (r : Record) (o : OfferContext),
       s.Placed ∧ s.recordAt a.toNat = some r ∧ r.state = .offered ∧ r.offer = some o ∧ o.origin = .rebind
         ∧ r.pinned = true) :=
  ⟨⟨rich, 3, recNew, (offerOf .new), (by decide +kernel)⟩,
   ⟨rich, 10, recAgain, (offerOf .reserved), placed_rich, (by unfold State.LapseListed; decide +kernel),
    (by decide +kernel)⟩,
   ⟨rich, 4, recRebind, (offerOf .rebind), placed_rich, (by unfold State.LapseListed; decide +kernel),
    (by decide +kernel)⟩,
   ⟨few, 11, recPinnedOffer, (offerOf .rebind), placed_few, (by decide +kernel)⟩⟩

theorem premises_of_RenewGrantsItsRecordTheTerm :
    (∃ (s : State) (a : Byte) (i : Identity) (r : Record),
     s.Receives ∧ s.HasReplyRoom ∧ leasable a.toNat = true ∧ validIdentity i = true ∧ s.recordAt a.toNat = some r
       ∧ r.identity = i ∧ r.state = .bound)
    ∧ (∃ (s : State) (a : Byte) (i : Identity) (r : Record),
       s.Receives ∧ s.HasReplyRoom ∧ leasable a.toNat = true ∧ validIdentity i = true ∧ s.recordAt a.toNat = some r
         ∧ r.identity = i ∧ r.state = .lapsed) :=
  ⟨⟨rich, 5, 105, recBound, (by unfold State.Receives; decide +kernel),
    (by unfold State.HasReplyRoom; decide +kernel), (by decide +kernel)⟩,
   ⟨rich, 6, 106, recLapsed, (by unfold State.Receives; decide +kernel),
    (by unfold State.HasReplyRoom; decide +kernel), (by decide +kernel)⟩⟩

theorem premises_of_RenewWithoutAGrantIsAnsweredByTheRecord :
    (∃ (s : State) (a : Byte) (i : Identity) (u : State),
     s.Receives ∧ s.HasReplyRoom ∧ leasable a.toNat = true ∧ validIdentity i = true ∧ s.Placed
       ∧ u = s.heardState a.toNat false 1 ∧ s.renewOutcome a.toNat i ≠ .ok
       ∧ (s.renewOutcome a.toNat i ≠ .disputed ∨ (s.recordAt a.toNat).any
            (fun r => r.state == .disputed && (r.identity == i || r.rival.isSome)) = true))
    ∧ (∃ (s : State) (a : Byte) (i : Identity) (r : Record),
       s.Receives ∧ s.HasReplyRoom ∧ leasable a.toNat = true ∧ validIdentity i = true ∧ s.recordAt a.toNat = some r
         ∧ r.state = .disputed ∧ r.identity ≠ i ∧ r.rival = none)
    ∧ (∃ (s : State) (a : Byte) (i : Identity) (r : Record),
       s.Receives ∧ s.HasReplyRoom ∧ leasable a.toNat = true ∧ validIdentity i = true ∧ s.recordAt a.toNat = some r
         ∧ (r.state = .bound ∨ r.state = .lapsed) ∧ r.identity ≠ i ∧ s.params.disputePolicy = .hold)
    ∧ (∃ (s : State) (a : Byte) (i : Identity) (r : Record),
       s.Receives ∧ s.HasReplyRoom ∧ leasable a.toNat = true ∧ validIdentity i = true ∧ s.recordAt a.toNat = some r
         ∧ (r.state = .bound ∨ r.state = .lapsed) ∧ r.identity ≠ i ∧ s.params.disputePolicy = .revoke) :=
  ⟨⟨rich, 2, 105, _, (by unfold State.Receives; decide +kernel), (by unfold State.HasReplyRoom; decide +kernel),
    (by decide +kernel), (by decide +kernel), placed_rich, rfl, (by decide +kernel)⟩,
   ⟨rich, 7, 105, recDisputed, (by unfold State.Receives; decide +kernel),
    (by unfold State.HasReplyRoom; decide +kernel), (by decide +kernel)⟩,
   ⟨(rich |> holding), 5, 106, recBound, (by unfold State.Receives; decide +kernel),
    (by unfold State.HasReplyRoom; decide +kernel), (by decide +kernel)⟩,
   ⟨rich, 5, 106, recBound, (by unfold State.Receives; decide +kernel),
    (by unfold State.HasReplyRoom; decide +kernel), (by decide +kernel)⟩⟩

theorem premises_of_LeaveRetiresTheRecordOfItsSender :
    (∃ (s : State) (a : Byte) (i : Identity) (r : Record),
     s.Receives ∧ leasable a.toNat = true ∧ validIdentity i = true ∧ s.recordAt a.toNat = some r ∧ r.identity = i
       ∧ (r.state = .bound ∨ r.state = .lapsed ∨ r.state = .disputed))
    ∧ (∃ (s : State) (a : Byte) (i : Identity) (u : State),
       s.Receives ∧ leasable a.toNat = true ∧ validIdentity i = true
         ∧ (s.recordAt a.toNat).all (fun r => r.identity != i || r.state == .offered || r.state == .reserved) = true
         ∧ s.Placed ∧ u = s.heardState a.toNat false 0) :=
  ⟨⟨rich, 5, 105, recBound, (by unfold State.Receives; decide +kernel), (by decide +kernel)⟩,
   ⟨rich, 5, 106, _, (by unfold State.Receives; decide +kernel), (by decide +kernel), (by decide +kernel),
    (by decide +kernel), placed_rich, rfl⟩⟩

theorem premises_of_ResolutionIsAnsweredFromTheIndexes :
    (∃ (s : State) (a : Byte) (i : Identity) (u : State),
     s.Receives ∧ s.HasReplyRoom ∧ (leasable a.toNat = true ∨ fixedAddress a.toNat = true) ∧ validIdentity i = true
       ∧ s.Placed ∧ u = s.heardState a.toNat s.params.passiveRenewal 1)
    ∧ (∃ (s : State) (a : Byte) (u : State), s.Receives ∧ s.HasReplyRoom
         ∧ (leasable a.toNat = true ∨ fixedAddress a.toNat = true) ∧ s.Placed
         ∧ u = s.heardState a.toNat s.params.passiveRenewal 1) :=
  ⟨⟨rich, 5, 105, _, (by unfold State.Receives; decide +kernel), (by unfold State.HasReplyRoom; decide +kernel),
    (by decide +kernel), (by decide +kernel), placed_rich, rfl⟩,
   ⟨rich, 5, _, (by unfold State.Receives; decide +kernel), (by unfold State.HasReplyRoom; decide +kernel),
    (by decide +kernel), placed_rich, rfl⟩⟩

theorem premises_of_ClashReportIsEvidence :
    (∃ (s : State) (a : Byte) (i : Identity) (r : Record),
     s.Receives ∧ leasable a.toNat = true ∧ validIdentity i = true ∧ s.recordAt a.toNat = some r
       ∧ (r.state = .bound ∨ r.state = .lapsed) ∧ s.params.disputePolicy = .hold)
    ∧ (∃ (s : State) (a : Byte) (i : Identity) (r : Record),
       s.Receives ∧ leasable a.toNat = true ∧ validIdentity i = true ∧ s.recordAt a.toNat = some r
         ∧ (r.state = .bound ∨ r.state = .lapsed) ∧ s.params.disputePolicy = .revoke)
    ∧ (∃ (s : State) (a : Byte) (i : Identity) (u : State),
       s.Receives ∧ leasable a.toNat = true ∧ validIdentity i = true
         ∧ (s.recordAt a.toNat).all (fun r => r.state == .reserved || r.state == .offered ||
                                       (r.state == .disputed && (r.identity == i || r.rival.isSome))) = true
         ∧ s.Placed ∧ u = s.heardState a.toNat false 0)
    ∧ (∃ (s : State) (a : Byte) (i : Identity) (r : Record),
       s.Receives ∧ leasable a.toNat = true ∧ validIdentity i = true ∧ s.recordAt a.toNat = some r
         ∧ r.state = .disputed ∧ r.identity ≠ i ∧ r.rival = none) :=
  ⟨⟨(rich |> holding), 5, 105, recBound, (by unfold State.Receives; decide +kernel), (by decide +kernel)⟩,
   ⟨rich, 5, 105, recBound, (by unfold State.Receives; decide +kernel), (by decide +kernel)⟩,
   ⟨rich, 2, 105, _, (by unfold State.Receives; decide +kernel), (by decide +kernel), (by decide +kernel),
    (by decide +kernel), placed_rich, rfl⟩,
   ⟨rich, 7, 105, recDisputed, (by unfold State.Receives; decide +kernel), (by decide +kernel)⟩⟩

theorem premises_of_ProbeReplyEndsTheAttempt :
    (∃ (s : State) (a : Byte) (i : Identity) (r : Record) (c : ProbeContext),
     s.Receives ∧ leasable a.toNat = true ∧ validIdentity i = true ∧ s.prober.context = some c ∧ c.target = a.toNat
       ∧ s.recordAt a.toNat = some r ∧ r.identity = c.identity ∧ r.identity = i ∧ r.state = .lapsed
       ∧ c.kind = .lapse)
    ∧ (∃ (s : State) (a : Byte) (i : Identity) (r : Record) (c : ProbeContext),
       s.Receives ∧ leasable a.toNat = true ∧ validIdentity i = true ∧ s.prober.context = some c ∧ c.target = a.toNat
         ∧ s.recordAt a.toNat = some r ∧ r.identity = c.identity ∧ r.identity = i ∧ r.state = .bound
         ∧ c.kind = .sweep)
    ∧ (∃ (s : State) (a : Byte) (i : Identity) (r : Record) (c : ProbeContext),
       s.Receives ∧ leasable a.toNat = true ∧ validIdentity i = true ∧ s.prober.context = some c ∧ c.target = a.toNat
         ∧ s.recordAt a.toNat = some r ∧ r.identity = c.identity ∧ r.identity ≠ i ∧ r.state = c.kind.expected
         ∧ s.params.disputePolicy = .hold)
    ∧ (∃ (s : State) (a : Byte) (i : Identity) (c : ProbeContext) (u : State),
       s.Receives ∧ leasable a.toNat = true ∧ validIdentity i = true ∧ s.prober.context = some c ∧ c.target = a.toNat
         ∧ (s.recordAt a.toNat).all (fun r => (r.identity != c.identity || r.state != c.kind.expected) &&
                                       (r.identity != c.identity || r.state != .lapsed)) = true ∧ s.Placed
         ∧ u = s.heardState a.toNat false 0)
    ∧ (∃ (s : State) (a : Byte) (i : Identity) (r : Record) (c : ProbeContext) (u : State),
       s.Receives ∧ leasable a.toNat = true ∧ validIdentity i = true ∧ s.prober.context = some c ∧ c.target = a.toNat
         ∧ s.recordAt a.toNat = some r ∧ r.identity = c.identity ∧ r.state = .lapsed ∧ c.kind = .sweep ∧ s.Placed
         ∧ u = s.heardState a.toNat false 0)
    ∧ (∃ (s : State) (a : Byte) (i : Identity) (u : State),
       s.Receives ∧ leasable a.toNat = true ∧ validIdentity i = true
         ∧ s.prober.context.all (fun c => c.target != a.toNat) = true ∧ s.Placed ∧ u = s.heardState a.toNat false 0)
    ∧ (∃ (s : State) (a : Byte) (i : Identity) (r : Record) (c : ProbeContext),
       s.Receives ∧ leasable a.toNat = true ∧ validIdentity i = true ∧ s.prober.context = some c ∧ c.target = a.toNat
         ∧ s.recordAt a.toNat = some r ∧ r.identity = c.identity ∧ r.identity ≠ i ∧ r.state = c.kind.expected
         ∧ s.params.disputePolicy = .revoke) :=
  ⟨⟨(rich |> probing (probeOf 6 106 .lapse 1 .queued)), 6, 106, recLapsed, (probeOf 6 106 .lapse 1 .queued),
    (by unfold State.Receives; decide +kernel), (by decide +kernel)⟩,
   ⟨(rich |> probing (probeOf 5 105 .sweep 1 .queued)), 5, 105, recBound, (probeOf 5 105 .sweep 1 .queued),
    (by unfold State.Receives; decide +kernel), (by decide +kernel)⟩,
   ⟨(rich |> holding |> probing (probeOf 6 106 .lapse 1 .queued)), 6, 105, recLapsed,
    (probeOf 6 106 .lapse 1 .queued), (by unfold State.Receives; decide +kernel), (by decide +kernel)⟩,
   ⟨(rich |> probing (probeOf 6 999 .lapse 1 .queued)), 6, 105, (probeOf 6 999 .lapse 1 .queued), _,
    (by unfold State.Receives; decide +kernel), (by decide +kernel), (by decide +kernel), (by decide +kernel),
    (by decide +kernel), (by decide +kernel), placed_rich, rfl⟩,
   ⟨(rich |> probing (probeOf 6 106 .sweep 1 .queued)), 6, 105, recLapsed, (probeOf 6 106 .sweep 1 .queued), _,
    (by unfold State.Receives; decide +kernel), (by decide +kernel), (by decide +kernel), (by decide +kernel),
    (by decide +kernel), (by decide +kernel), (by decide +kernel), (by decide +kernel), (by decide +kernel),
    placed_rich, rfl⟩,
   ⟨rich, 5, 105, _, (by unfold State.Receives; decide +kernel), (by decide +kernel), (by decide +kernel),
    (by decide +kernel), placed_rich, rfl⟩,
   ⟨(rich |> probing (probeOf 6 106 .lapse 1 .queued)), 6, 105, recLapsed, (probeOf 6 106 .lapse 1 .queued),
    (by unfold State.Receives; decide +kernel), (by decide +kernel)⟩⟩

theorem premises_of_ProbeWithoutAnswerCountsLapsesOrRetires :
    (∃ (s : State) (c : ProbeContext) (w : Nat) (r : Record),
     s.prober.context = some c ∧ c.phase = .waiting w ∧ s.recordAt c.target = some r ∧ r.identity = c.identity
       ∧ r.state = .lapsed ∧ c.kind = .lapse ∧ c.attempt < s.params.probeAttempts)
    ∧ (∃ (s : State) (c : ProbeContext) (w : Nat) (r : Record),
       s.prober.context = some c ∧ c.phase = .waiting w ∧ s.recordAt c.target = some r ∧ r.identity = c.identity
         ∧ r.state = .lapsed ∧ c.kind = .lapse ∧ s.params.probeAttempts ≤ c.attempt)
    ∧ (∃ (s : State) (c : ProbeContext) (w : Nat) (r : Record),
       s.prober.context = some c ∧ c.phase = .waiting w ∧ s.recordAt c.target = some r ∧ r.identity = c.identity
         ∧ r.state = .bound ∧ r.pinned = false ∧ c.kind = .sweep)
    ∧ (∃ (s : State) (c : ProbeContext) (w : Nat),
       s.prober.context = some c ∧ c.phase = .waiting w
         ∧ (s.recordAt c.target).all (fun r => r.identity != c.identity ||
                                        (r.state != c.kind.expected && r.state != .lapsed) ||
                                        (c.kind == .sweep && r.pinned && r.state == .bound)) = true)
    ∧ (∃ (s : State) (c : ProbeContext) (w : Nat) (r : Record),
       s.prober.context = some c ∧ c.phase = .waiting w ∧ s.recordAt c.target = some r ∧ r.identity = c.identity
         ∧ r.state = .lapsed ∧ c.kind = .sweep)
    ∧ (∃ (s : State), s.prober.context.all (fun c => c.phase == .queued) = true) :=
  ⟨⟨(rich |> probing (probeOf 6 106 .lapse 2 (.waiting 0))), (probeOf 6 106 .lapse 2 (.waiting 0)), 0, recLapsed,
    (by decide +kernel)⟩,
   ⟨(rich |> probing (probeOf 6 106 .lapse 3 (.waiting 1))), (probeOf 6 106 .lapse 3 (.waiting 1)), 1, recLapsed,
    (by decide +kernel)⟩,
   ⟨(rich |> probing (probeOf 5 105 .sweep 1 (.waiting 1))), (probeOf 5 105 .sweep 1 (.waiting 1)), 1, recBound,
    (by decide +kernel)⟩,
   ⟨(rich |> probing (probeOf 8 999 .sweep 1 (.waiting 1))), (probeOf 8 999 .sweep 1 (.waiting 1)), 1,
    (by decide +kernel)⟩,
   ⟨(rich |> probing (probeOf 6 106 .sweep 1 (.waiting 1))), (probeOf 6 106 .sweep 1 (.waiting 1)), 1, recLapsed,
    (by decide +kernel)⟩,
   ⟨rich, (by decide +kernel)⟩⟩

theorem premises_of_ProberChoosesLapsedFirstThenSweeps :
    (∃ (s : State) (r : Record) (rest : List Nat),
     s.prober.context = none ∧ s.line.state = .online ∧ s.hasFreeEntry = true ∧ s.LapseListed
       ∧ s.directory.lapseList = r.address :: rest ∧ s.recordAt r.address = some r)
    ∧ (∃ (s : State) (w : Sweep) (r : Record), s.prober.context = none ∧ s.line.state = .online
         ∧ s.hasFreeEntry = true ∧ s.Placed ∧ s.directory.lapseList = [] ∧ s.prober.sweep = some w
         ∧ w.scanning = true ∧ s.census.mode = .serving ∧ r ∈ s.directory.records ∧ w.candidate r = true
         ∧ (∀ q ∈ s.directory.records, w.candidate q = true → r.address ≤ q.address))
    ∧ (∃ (s : State) (w : Sweep), s.prober.context = none ∧ s.line.state = .online ∧ s.hasFreeEntry = true
         ∧ s.directory.lapseList = [] ∧ s.prober.sweep = some w ∧ w.scanning = true ∧ s.census.mode = .serving
         ∧ (∀ q ∈ s.directory.records, w.candidate q = false))
    ∧ (∃ (s : State), (s.prober.context ≠ none ∨ s.line.state ≠ .online ∨ s.hasFreeEntry = false
                         ∨ (s.directory.lapseList = [] ∧ (s.prober.sweep.all (fun w => !w.scanning) = true
                                                            ∨ s.census.mode = .census)))) :=
  ⟨⟨rich, recLapsed, [], (by decide +kernel), (by decide +kernel), (by decide +kernel),
    (by unfold State.LapseListed; decide +kernel), (by decide +kernel)⟩,
   ⟨(few |> sweeping scanning), scanning, recBound, (by decide +kernel), (by decide +kernel), (by decide +kernel),
    placed_few, (by decide +kernel)⟩,
   ⟨(bare |> sweeping scanning), scanning, (by decide +kernel)⟩,
   ⟨few, (by decide +kernel)⟩⟩

theorem premises_of_ClaimBindsAnAddressInCensus :
    (∃ (s : State) (a : Byte) (i : Identity), s.Receives ∧ s.HasReplyRoom ∧ leasable a.toNat = true
       ∧ validIdentity i = true ∧ s.census.mode = .census ∧ s.Placed ∧ s.recordOf i = none
       ∧ s.recordAt a.toNat = none ∧ s.directory.records.length < 192)
    ∧ (∃ (s : State) (a : Byte) (i : Identity) (r : Record),
       s.Receives ∧ s.HasReplyRoom ∧ leasable a.toNat = true ∧ validIdentity i = true ∧ s.census.mode = .census
         ∧ s.Identified ∧ s.Placed ∧ s.recordAt a.toNat = some r ∧ r.identity = i
         ∧ (r.state = .reserved ∨ r.state = .offered ∨ r.state = .lapsed))
    ∧ (∃ (s : State) (a : Byte) (i : Identity) (r : Record),
       s.Receives ∧ s.HasReplyRoom ∧ leasable a.toNat = true ∧ validIdentity i = true ∧ s.census.mode = .census
         ∧ s.Identified ∧ s.Placed ∧ s.recordAt a.toNat = some r ∧ r.identity = i ∧ r.state = .bound)
    ∧ (∃ (s : State) (a : Byte) (i : Identity) (r : Record) (o : OfferContext),
       s.Receives ∧ s.HasReplyRoom ∧ leasable a.toNat = true ∧ validIdentity i = true ∧ s.census.mode = .census
         ∧ s.Placed ∧ s.recordAt a.toNat = some r ∧ r.identity ≠ i ∧ s.recordOf i = none ∧ r.state = .offered
         ∧ r.offer = some o ∧ o.origin ≠ .rebind)
    ∧ (∃ (s : State) (p : BitVec 2) (a : Byte) (i : Identity) (term : Half) (gs : List Byte) (v : State),
       s.Receives ∧ s.HasReplyRoom ∧ leasable a.toNat = true ∧ validIdentity i = true ∧ s.census.mode = .census
         ∧ gs.length ≤ 8 ∧ s.claimOutcome a.toNat i = .granted ∧ exec (.claim p a i term []) s = .next v)
    ∧ (∃ (s : State), s.Grouped)
    ∧ (∃ (s : State) (a g : Nat), (groupNumber g = false ∨ a ∈ (s.group g).members
                                     ∨ 16 ≤ (s.group g).members.length))
    ∧ (∃ (s : State) (a g : Nat), groupNumber g = true ∧ a ∉ (s.group g).members ∧ (s.group g).members.length < 16
         ∧ 256 ≤ memberTotal s.groups)
    ∧ (∃ (s : State) (a g : Nat) (u : State), groupNumber g = true ∧ a ∉ (s.group g).members
         ∧ (s.group g).members.length < 16 ∧ memberTotal s.groups < 256
         ∧ u = { s with groups := s.groups.set (g - 1) { s.group g with members := (s.group g).members ++ [a] },
                        directory := { s.directory with marks := setMark a (Mark.move .altered (s.markOf a))
                                                          s.directory.marks } }) :=
  ⟨⟨(rich |> inCensus), 11, 208, (by unfold State.Receives; decide +kernel),
    (by unfold State.HasReplyRoom; decide +kernel), (by decide +kernel), (by decide +kernel), (by decide +kernel),
    placed_rich, (by decide +kernel)⟩,
   ⟨(rich |> inCensus), 6, 106, recLapsed, (by unfold State.Receives; decide +kernel),
    (by unfold State.HasReplyRoom; decide +kernel), (by decide +kernel), (by decide +kernel), (by decide +kernel),
    (by unfold State.Identified; decide +kernel), placed_rich, (by decide +kernel)⟩,
   ⟨(rich |> inCensus), 5, 105, recBound, (by unfold State.Receives; decide +kernel),
    (by unfold State.HasReplyRoom; decide +kernel), (by decide +kernel), (by decide +kernel), (by decide +kernel),
    (by unfold State.Identified; decide +kernel), placed_rich, (by decide +kernel)⟩,
   ⟨(rich |> inCensus), 3, 208, recNew, (offerOf .new), (by unfold State.Receives; decide +kernel),
    (by unfold State.HasReplyRoom; decide +kernel), (by decide +kernel), (by decide +kernel), (by decide +kernel),
    placed_rich, (by decide +kernel)⟩,
   (let ⟨v, h⟩ := exec_answers_next (.claim 1 5 105 0 []) (rich |> inCensus);
    ⟨(rich |> inCensus), 1, 5, 105, 0, [], v, (by unfold State.Receives; decide +kernel),
     (by unfold State.HasReplyRoom; decide +kernel), (by decide +kernel), (by decide +kernel), (by decide +kernel),
     (by decide +kernel), (by decide +kernel), h⟩),
   ⟨rich, (by unfold State.Grouped; decide +kernel)⟩,
   ⟨rich, 5, 0, (by decide +kernel)⟩,
   ⟨(rich |> packed), 5, 32, (by decide +kernel)⟩,
   ⟨rich, 5, 2, _, (by decide +kernel), (by decide +kernel), (by decide +kernel), (by decide +kernel), rfl⟩⟩

theorem premises_of_ClaimThatIsNotGrantedIsAnsweredByItsCase :
    (∃ (s : State) (a : Byte) (i : Identity) (gs : List Byte) (u : State),
     s.Receives ∧ s.HasReplyRoom ∧ leasable a.toNat = true ∧ validIdentity i = true ∧ gs.length ≤ 8
       ∧ s.claimOutcome a.toNat i ≠ .granted ∧ (s.claimOutcome a.toNat i ≠ .disputed
                                                  ∨ (s.recordAt a.toNat).any (fun r =>
                                                                                r.state == .disputed &&
                                                                                (r.identity == i || r.rival.isSome))
                                                  = true) ∧ s.Placed ∧ u = s.heardState a.toNat false 1)
    ∧ (∃ (s : State) (a : Byte) (i : Identity) (r : Record) (gs : List Byte),
       s.Receives ∧ s.HasReplyRoom ∧ leasable a.toNat = true ∧ validIdentity i = true ∧ s.census.mode = .census
         ∧ gs.length ≤ 8 ∧ s.recordAt a.toNat = some r ∧ s.claimOutcome a.toNat i = .disputed ∧ r.state ≠ .disputed
         ∧ s.params.disputePolicy = .hold ∧ s.Placed)
    ∧ (∃ (s : State) (a : Byte) (i : Identity) (r : Record) (gs : List Byte),
       s.Receives ∧ s.HasReplyRoom ∧ leasable a.toNat = true ∧ validIdentity i = true ∧ s.census.mode = .census
         ∧ gs.length ≤ 8 ∧ s.recordAt a.toNat = some r ∧ s.claimOutcome a.toNat i = .disputed ∧ r.state ≠ .disputed
         ∧ s.params.disputePolicy = .revoke ∧ s.Placed)
    ∧ (∃ (s : State) (a : Byte) (i : Identity) (r : Record) (gs : List Byte),
       s.Receives ∧ s.HasReplyRoom ∧ leasable a.toNat = true ∧ validIdentity i = true ∧ s.census.mode = .census
         ∧ gs.length ≤ 8 ∧ s.recordAt a.toNat = some r ∧ s.recordOf i = none ∧ r.identity ≠ i ∧ r.state = .disputed
         ∧ r.rival = none) :=
  ⟨⟨rich, 5, 105, [], _, (by unfold State.Receives; decide +kernel), (by unfold State.HasReplyRoom; decide +kernel),
    (by decide +kernel), (by decide +kernel), (by decide +kernel), (by decide +kernel), (by decide +kernel),
    placed_rich, rfl⟩,
   ⟨(rich |> inCensus |> holding), 5, 208, recBound, [], (by unfold State.Receives; decide +kernel),
    (by unfold State.HasReplyRoom; decide +kernel), (by decide +kernel), (by decide +kernel), (by decide +kernel),
    (by decide +kernel), (by decide +kernel), (by decide +kernel), (by decide +kernel), (by decide +kernel),
    placed_rich⟩,
   ⟨(rich |> inCensus), 5, 208, recBound, [], (by unfold State.Receives; decide +kernel),
    (by unfold State.HasReplyRoom; decide +kernel), (by decide +kernel), (by decide +kernel), (by decide +kernel),
    (by decide +kernel), (by decide +kernel), (by decide +kernel), (by decide +kernel), (by decide +kernel),
    placed_rich⟩,
   ⟨(rich |> inCensus), 7, 208, recDisputed, [], (by unfold State.Receives; decide +kernel),
    (by unfold State.HasReplyRoom; decide +kernel), (by decide +kernel)⟩⟩

theorem premises_of_GroupRequestsAreDecidedByTheirChecks :
    (∃ (s : State) (a g : Byte) (u : State), s.Receives ∧ s.HasReplyRoom ∧ leasable a.toNat = true
       ∧ s.groupJoinOutcome a.toNat g.toNat = .ok ∧ s.groups.length = 32 ∧ s.Placed
       ∧ u = s.heardState a.toNat s.params.passiveRenewal 1)
    ∧ (∃ (s : State) (a g : Byte) (u : State), s.Receives ∧ s.HasReplyRoom ∧ leasable a.toNat = true
         ∧ s.groupJoinOutcome a.toNat g.toNat ≠ .ok ∧ s.Placed ∧ u = s.heardState a.toNat s.params.passiveRenewal 1)
    ∧ (∃ (s : State) (a g : Byte) (u : State), s.Receives ∧ s.HasReplyRoom ∧ leasable a.toNat = true
         ∧ (groupNumber g.toNat = true ∧ a.toNat ∈ (s.group g.toNat).members
              ∧ (s.recordAt a.toNat).any (fun r => r.state == .bound || r.state == .lapsed) = true)
         ∧ s.groups.length = 32 ∧ s.Placed ∧ u = s.heardState a.toNat s.params.passiveRenewal 1)
    ∧ (∃ (s : State) (a g : Byte) (u : State), s.Receives ∧ s.HasReplyRoom ∧ leasable a.toNat = true
         ∧ (¬ (groupNumber g.toNat = true ∧ a.toNat ∈ (s.group g.toNat).members
                 ∧ (s.recordAt a.toNat).any (fun r => r.state == .bound || r.state == .lapsed) = true)) ∧ s.Placed
         ∧ u = s.heardState a.toNat s.params.passiveRenewal 1)
    ∧ (∃ (s : State) (a : Byte) (u : State), s.Receives ∧ s.HasReplyRoom
         ∧ (fixedAddress a.toNat = true ∨ leasable a.toNat = true) ∧ s.Placed
         ∧ u = s.heardState a.toNat s.params.passiveRenewal 1) :=
  ⟨⟨rich, 5, 32, _, (by unfold State.Receives; decide +kernel), (by unfold State.HasReplyRoom; decide +kernel),
    (by decide +kernel), (by decide +kernel), (by decide +kernel), placed_rich, rfl⟩,
   ⟨rich, 5, 1, _, (by unfold State.Receives; decide +kernel), (by unfold State.HasReplyRoom; decide +kernel),
    (by decide +kernel), (by decide +kernel), placed_rich, rfl⟩,
   ⟨rich, 5, 1, _, (by unfold State.Receives; decide +kernel), (by unfold State.HasReplyRoom; decide +kernel),
    (by decide +kernel), (by decide +kernel), (by decide +kernel), placed_rich, rfl⟩,
   ⟨rich, 5, 32, _, (by unfold State.Receives; decide +kernel), (by unfold State.HasReplyRoom; decide +kernel),
    (by decide +kernel), (by decide +kernel), placed_rich, rfl⟩,
   ⟨rich, 5, _, (by unfold State.Receives; decide +kernel), (by unfold State.HasReplyRoom; decide +kernel),
    (by decide +kernel), placed_rich, rfl⟩⟩

theorem premises_of_ValidFramesAreHeardAndNoMoreUnlessAdmitted :
    (∃ (s : State) (f : Frame) (u : State), s.Receives ∧ f.payload.length ≤ 24 ∧ f.source.toNat ≠ 254
       ∧ s.admission f = none ∧ s.Placed ∧ u = s.heardState f.source.toNat
       (s.params.passiveRenewal && !limitedHeard f) 0)
    ∧ (∃ (s : State), (s.line.state ≠ .online ∨ s.line.phase = .transmitting ∨ s.line.phase = .stopped)) :=
  ⟨⟨rich, (frameOf 5 3 24), _, (by unfold State.Receives; decide +kernel), (by decide +kernel), (by decide +kernel),
    (by decide +kernel), placed_rich, rfl⟩,
   ⟨(rich |> inLine .disabled), (by decide +kernel)⟩⟩

theorem premises_of_RequestsAreTheirFramesAdmittedByTheirChecks :
    ∃ (s : State) (f : Frame) (k : RequestKind), s.Receives ∧ f.source.toNat ≠ 254 ∧ s.admission f = some k :=
  ⟨rich, { frameOf 5 254 1 with kind := 0x0A }, .groupExpand, (by unfold State.Receives; decide +kernel),
   (by decide +kernel)⟩

theorem premises_of_InvalidAndForeignFramesReachNoRecord :
    (∃ (s : State) (v : InvalidReception), s.Receives ∧ endsEarly v = true)
    ∧ (∃ (s : State), s.Receives)
    ∧ (∃ (s : State) (n : BitVec 5), s.Receives ∧ 25 ≤ n.toNat)
    ∧ (∃ (s : State) (f : Frame) (k : Half), s.Receives ∧ f.payload.length ≤ 24 ∧ k ≠ f.check)
    ∧ (∃ (s : State) (payload : List Byte), s.Receives ∧ payload.length ≤ 24)
    ∧ (∃ (s : State) (f : Frame), s.Receives ∧ 25 ≤ f.payload.length)
    ∧ (∃ (f : Frame) (k : Half), (k = f.check ∨ 25 ≤ f.payload.length))
    ∧ (∃ (s : State), (s.line.state ≠ .online ∨ s.line.phase = .transmitting ∨ s.line.phase = .stopped))
    ∧ (∃ (n : BitVec 5), n.toNat ≤ 24) :=
  ⟨⟨rich, (.stuffError true), (by unfold State.Receives; decide +kernel), (by decide +kernel)⟩,
   ⟨rich, (by unfold State.Receives; decide +kernel)⟩,
   ⟨rich, 25, (by unfold State.Receives; decide +kernel), (by decide +kernel)⟩,
   ⟨rich, (frameOf 5 3 24), 0, (by unfold State.Receives; decide +kernel), (by decide +kernel)⟩,
   ⟨rich, [], (by unfold State.Receives; decide +kernel), (by decide +kernel)⟩,
   ⟨rich, (frameOf 5 3 25), (by unfold State.Receives; decide +kernel), (by decide +kernel)⟩,
   ⟨(frameOf 5 3 24), 28974, (by decide +kernel)⟩,
   ⟨(rich |> inLine .disabled), (by decide +kernel)⟩,
   ⟨0, (by decide +kernel)⟩⟩

theorem premises_of_TransmissionTakesTheFirstOfTheLowestPriority :
    (∃ (s : State) (pre : List TxEntry) (e : TxEntry) (post : List TxEntry),
     s.line.state = .online ∧ s.line.phase = .idle ∧ s.queue.entries = pre ++ e :: post
       ∧ (∀ x ∈ pre, e.frame.priority.toNat < x.frame.priority.toNat)
       ∧ (∀ x ∈ post, e.frame.priority.toNat ≤ x.frame.priority.toNat))
    ∧ (∃ (s : State), (s.queue.entries = [] ∨ s.line.state ≠ .online
                         ∨ (s.line.phase ≠ .idle ∧ s.line.phase ≠ .afterFrame))) :=
  ⟨⟨(rich |> queued [entryStray]), [], entryStray, [], (by decide +kernel)⟩,
   ⟨rich, (by decide +kernel)⟩⟩

theorem premises_of_SendAttemptsAreSettled :
    (∃ (s : State) (pre : List TxEntry) (e : TxEntry) (post : List TxEntry) (d : Bool),
     s.queue.entries = pre ++ e :: post ∧ e.sending = true ∧ (∀ x ∈ pre ++ post, x.sending = false)
       ∧ (e.originator = .joinUnit ∨ e.originator = .reply ∨ e.originator = .stray ∨ e.originator = .dispute
            ∨ e.originator = .censusUnit ∨ e.originator = .command false ∨ e.originator = .prober false)
       ∧ (d = true ∨ e.frame.destination.toNat = 0 ∨ e.frame.destination.toNat = 255 ∨ e.lastTry = true
            ∨ e.limit ≤ e.used + 1))
    ∧ (∃ (s : State) (pre : List TxEntry) (e : TxEntry) (post : List TxEntry),
       s.queue.entries = pre ++ e :: post ∧ e.sending = true ∧ (∀ x ∈ pre ++ post, x.sending = false)
         ∧ e.frame.destination.toNat ≠ 0 ∧ e.frame.destination.toNat ≠ 255 ∧ e.lastTry = false
         ∧ e.used + 1 < e.limit)
    ∧ (∃ (s : State) (pre : List TxEntry) (e : TxEntry) (post : List TxEntry),
       s.queue.entries = pre ++ e :: post ∧ e.sending = true ∧ (∀ x ∈ pre ++ post, x.sending = false)
         ∧ e.lastTry = false ∧ e.used + 1 < e.limit)
    ∧ (∃ (s : State) (pre : List TxEntry) (e : TxEntry) (post : List TxEntry),
       s.queue.entries = pre ++ e :: post ∧ e.sending = true ∧ (∀ x ∈ pre ++ post, x.sending = false)
         ∧ (e.originator = .joinUnit ∨ e.originator = .reply ∨ e.originator = .stray ∨ e.originator = .dispute
              ∨ e.originator = .censusUnit ∨ e.originator = .command false ∨ e.originator = .prober false)
         ∧ (e.lastTry = true ∨ e.limit ≤ e.used + 1))
    ∧ (∃ (s : State) (pre : List TxEntry) (e : TxEntry) (post : List TxEntry),
       s.queue.entries = pre ++ e :: post ∧ e.sending = true ∧ (∀ x ∈ pre ++ post, x.sending = false)
         ∧ e.lastTry = false)
    ∧ (∃ (s : State) (c : Instr), (∀ e ∈ s.queue.entries, e.sending = false)
         ∧ (c = .acknowledgeSlot true ∨ c = .acknowledgeSlot false ∨ c = .echoDifference ∨ c = .arbitrationLost))
    ∧ (∃ (s : State) (pre : List TxEntry) (e : TxEntry) (post : List TxEntry),
       s.queue.entries = pre ++ e :: post ∧ e.sending = true ∧ (∀ x ∈ pre ++ post, x.sending = false)
         ∧ (e.originator = .joinUnit ∨ e.originator = .reply ∨ e.originator = .stray ∨ e.originator = .dispute
              ∨ e.originator = .censusUnit ∨ e.originator = .command false ∨ e.originator = .prober false)
         ∧ e.lastTry = true)
    ∧ (∃ (s : State) (pre : List TxEntry) (e : TxEntry) (post : List TxEntry),
       s.queue.entries = pre ++ e :: post ∧ e.sending = true ∧ (∀ x ∈ pre ++ post, x.sending = false)
         ∧ e.frame.source = 0xFE)
    ∧ (∃ (s : State) (pre : List TxEntry) (e : TxEntry) (post : List TxEntry),
       s.queue.entries = pre ++ e :: post ∧ e.sending = true ∧ (∀ x ∈ pre ++ post, x.sending = false)
         ∧ e.frame.source = 0xFE) :=
  ⟨⟨(rich |> queued [entryStray]), [], entryStray, [], true, (by decide +kernel)⟩,
   ⟨(rich |> queued [entryThrice]), [], entryThrice, [], (by decide +kernel)⟩,
   ⟨(rich |> queued [entryThrice]), [], entryThrice, [], (by decide +kernel)⟩,
   ⟨(rich |> queued [entryStray]), [], entryStray, [], (by decide +kernel)⟩,
   ⟨(rich |> queued [entryStray]), [], entryStray, [], (by decide +kernel)⟩,
   ⟨rich, (.acknowledgeSlot true), (by decide +kernel)⟩,
   ⟨(rich |> queued [entryLast]), [], entryLast, [], (by decide +kernel)⟩,
   ⟨(rich |> queued [entryStray]), [], entryStray, [], (by decide +kernel)⟩,
   ⟨(rich |> queued [entryStray]), [], entryStray, [], (by decide +kernel)⟩⟩

theorem premises_of_ReportsReachTheProberAndTheCommand :
    (∃ (s : State) (pre : List TxEntry) (e : TxEntry) (post : List TxEntry) (c : ProbeContext),
     s.queue.entries = pre ++ e :: post ∧ e.sending = true ∧ (∀ x ∈ pre ++ post, x.sending = false)
       ∧ e.originator = .prober true ∧ e.frame.destination.toNat ≠ 0 ∧ e.frame.destination.toNat ≠ 255
       ∧ s.prober.context = some c ∧ c.phase = .queued)
    ∧ (∃ (s : State) (pre : List TxEntry) (e : TxEntry) (post : List TxEntry) (c : ProbeContext) (r : Record),
       s.queue.entries = pre ++ e :: post ∧ e.sending = true ∧ (∀ x ∈ pre ++ post, x.sending = false)
         ∧ e.originator = .prober true ∧ e.frame.destination.toNat ≠ 0 ∧ e.frame.destination.toNat ≠ 255
         ∧ e.limit ≤ e.used + 1 ∧ s.prober.context = some c ∧ c.phase = .queued ∧ s.recordAt c.target = some r
         ∧ r.identity = c.identity ∧ r.state = .lapsed ∧ c.kind = .lapse ∧ c.attempt < s.params.probeAttempts)
    ∧ (∃ (s : State) (pre : List TxEntry) (e : TxEntry) (post : List TxEntry) (d : Bool),
       s.queue.entries = pre ++ e :: post ∧ e.sending = true ∧ (∀ x ∈ pre ++ post, x.sending = false)
         ∧ e.originator = .command true ∧ e.frame.destination.toNat ≠ 0 ∧ e.frame.destination.toNat ≠ 255
         ∧ (d = true ∨ e.lastTry = true ∨ e.limit ≤ e.used + 1))
    ∧ (∃ (s : State) (v : Frame), s.queue.waiting = some v ∧ s.hasFreeEntry = true)
    ∧ (∃ (s : State), (s.queue.waiting = none ∨ s.hasFreeEntry = false))
    ∧ (∃ (s : State) (pre : List TxEntry) (e : TxEntry) (post : List TxEntry) (c : ProbeContext) (r : Record),
       s.queue.entries = pre ++ e :: post ∧ e.sending = true ∧ (∀ x ∈ pre ++ post, x.sending = false)
         ∧ e.originator = .prober true ∧ e.frame.destination.toNat ≠ 0 ∧ e.frame.destination.toNat ≠ 255
         ∧ e.limit ≤ e.used + 1 ∧ s.prober.context = some c ∧ c.phase = .queued ∧ s.recordAt c.target = some r
         ∧ r.identity = c.identity ∧ r.state = .lapsed ∧ c.kind = .lapse ∧ s.params.probeAttempts ≤ c.attempt)
    ∧ (∃ (s : State) (pre : List TxEntry) (e : TxEntry) (post : List TxEntry) (c : ProbeContext) (r : Record),
       s.queue.entries = pre ++ e :: post ∧ e.sending = true ∧ (∀ x ∈ pre ++ post, x.sending = false)
         ∧ e.originator = .prober true ∧ e.frame.destination.toNat ≠ 0 ∧ e.frame.destination.toNat ≠ 255
         ∧ e.limit ≤ e.used + 1 ∧ s.prober.context = some c ∧ c.phase = .queued ∧ s.recordAt c.target = some r
         ∧ r.identity = c.identity ∧ r.state = .bound ∧ r.pinned = false ∧ c.kind = .sweep)
    ∧ (∃ (s : State) (pre : List TxEntry) (e : TxEntry) (post : List TxEntry) (c : ProbeContext),
       s.queue.entries = pre ++ e :: post ∧ e.sending = true ∧ (∀ x ∈ pre ++ post, x.sending = false)
         ∧ e.originator = .prober true ∧ e.frame.destination.toNat ≠ 0 ∧ e.frame.destination.toNat ≠ 255
         ∧ e.limit ≤ e.used + 1 ∧ s.prober.context = some c ∧ c.phase = .queued
         ∧ (s.recordAt c.target).all (fun r => r.identity != c.identity ||
                                        (r.state != c.kind.expected && r.state != .lapsed) ||
                                        (c.kind == .sweep && r.pinned && r.state == .bound)) = true)
    ∧ (∃ (s : State) (pre : List TxEntry) (e : TxEntry) (post : List TxEntry) (c : ProbeContext) (r : Record),
       s.queue.entries = pre ++ e :: post ∧ e.sending = true ∧ (∀ x ∈ pre ++ post, x.sending = false)
         ∧ e.originator = .prober true ∧ e.frame.destination.toNat ≠ 0 ∧ e.frame.destination.toNat ≠ 255
         ∧ e.limit ≤ e.used + 1 ∧ s.prober.context = some c ∧ c.phase = .queued ∧ s.recordAt c.target = some r
         ∧ r.identity = c.identity ∧ r.state = .lapsed ∧ c.kind = .sweep)
    ∧ (∃ (s : State) (pre : List TxEntry) (e : TxEntry) (post : List TxEntry) (u : State),
       s.queue.entries = pre ++ e :: post ∧ e.sending = true ∧ (∀ x ∈ pre ++ post, x.sending = false)
         ∧ e.frame.destination.toNat ≠ 0 ∧ e.frame.destination.toNat ≠ 255
         ∧ exec (.acknowledgeSlot false) s = .next u) :=
  ⟨⟨(rich |> queued [entryProbe] |> probing (probeOf 6 106 .lapse 1 .queued)), [], entryProbe, [],
    (probeOf 6 106 .lapse 1 .queued), (by decide +kernel)⟩,
   ⟨(rich |> queued [entryProbe] |> probing (probeOf 6 106 .lapse 1 .queued)), [], entryProbe, [],
    (probeOf 6 106 .lapse 1 .queued), recLapsed, (by decide +kernel)⟩,
   ⟨(rich |> queued [entryCommand]), [], entryCommand, [], true, (by decide +kernel)⟩,
   ⟨(rich |> claimWaits), waitingRevoke, (by decide +kernel)⟩,
   ⟨rich, (by decide +kernel)⟩,
   ⟨(rich |> queued [entryProbe] |> probing (probeOf 6 106 .lapse 7 .queued)), [], entryProbe, [],
    (probeOf 6 106 .lapse 7 .queued), recLapsed, (by decide +kernel)⟩,
   ⟨(rich |> queued [entryProbe] |> probing (probeOf 5 105 .sweep 1 .queued)), [], entryProbe, [],
    (probeOf 5 105 .sweep 1 .queued), recBound, (by decide +kernel)⟩,
   ⟨(rich |> queued [entryProbe] |> probing (probeOf 6 999 .lapse 1 .queued)), [], entryProbe, [],
    (probeOf 6 999 .lapse 1 .queued), (by decide +kernel)⟩,
   ⟨(rich |> queued [entryProbe] |> probing (probeOf 6 106 .sweep 1 .queued)), [], entryProbe, [],
    (probeOf 6 106 .sweep 1 .queued), recLapsed, (by decide +kernel)⟩,
   (let ⟨v, h⟩ := exec_answers_next (.acknowledgeSlot false) (rich |> queued [entryStray]);
    ⟨(rich |> queued [entryStray]), [], entryStray, [], v, (by decide +kernel), (by decide +kernel),
     (by decide +kernel), (by decide +kernel), (by decide +kernel), h⟩)⟩

theorem premises_of_LineStatesChangeAsTheTableGives :
    (∃ (s : State), s.line.state = .settling ∧ s.census.autostart = false ∧ s.census.mode = .serving)
    ∧ (∃ (s : State), s.line.state = .settling ∧ s.census.autostart = true
         ∧ s.queue.entries.any TxEntry.waitingCensus = false)
    ∧ (∃ (s : State), (s.line.state = .settling ∨ s.line.state = .online)
         ∧ (∀ e ∈ s.queue.entries, e.sending = false) ∧ (s.line.state ≠ .online ∨ s.clock.taken = PartsTaken.none))
    ∧ (∃ (s : State) (pre : List TxEntry) (e : TxEntry) (post : List TxEntry),
       s.line.state = .online ∧ s.queue.entries = pre ++ e :: post ∧ e.sending = true
         ∧ (∀ x ∈ pre ++ post, x.sending = false) ∧ e.lastTry = false ∧ e.used + 1 < e.limit
         ∧ s.clock.taken = PartsTaken.none)
    ∧ (∃ (s : State), s.line.state = .fault)
    ∧ (∃ (s : State), s.line.state = .settling ∧ s.census.autostart = false ∧ s.census.mode = .census
         ∧ s.queue.entries.any TxEntry.waitingCensus = false)
    ∧ (∃ (s : State) (pre : List TxEntry) (e : TxEntry) (post : List TxEntry),
       s.line.state = .online ∧ s.queue.entries = pre ++ e :: post ∧ e.sending = true
         ∧ (∀ x ∈ pre ++ post, x.sending = false) ∧ (e.originator = .joinUnit ∨ e.originator = .reply
                                                       ∨ e.originator = .stray ∨ e.originator = .dispute
                                                       ∨ e.originator = .censusUnit ∨ e.originator = .command false
                                                       ∨ e.originator = .prober false)
         ∧ (e.lastTry = true ∨ e.limit ≤ e.used + 1) ∧ s.clock.taken = PartsTaken.none)
    ∧ (∃ (s : State) (c : Instr), (c = .lineOnline ∧ s.line.state ≠ .settling ∨ c = .lineFault
                                     ∧ (s.line.state = .disabled ∨ s.line.state = .fault) ∨ c = .faultRecovery
                                     ∧ s.line.state ≠ .fault))
    ∧ (∃ (s : State), s.line.state = .settling ∧ s.census.autostart = true
         ∧ s.queue.entries.any TxEntry.waitingCensus = true)
    ∧ (∃ (s : State), s.line.state = .settling ∧ s.census.autostart = false ∧ s.census.mode = .census
         ∧ s.queue.entries.any TxEntry.waitingCensus = true)
    ∧ (∃ (s : State) (pre : List TxEntry) (e : TxEntry) (post : List TxEntry) (u : State),
       s.line.state = .online ∧ s.clock.taken = PartsTaken.none ∧ s.queue.entries = pre ++ e :: post
         ∧ e.sending = true ∧ (∀ x ∈ pre ++ post, x.sending = false) ∧ e.frame.destination.toNat ≠ 0
         ∧ e.frame.destination.toNat ≠ 255 ∧ exec (.acknowledgeSlot false) s = .next u)
    ∧ (∃ (s u : State), s.line.state = .online ∧ s.clock.taken ≠ PartsTaken.none
         ∧ exec (.epochExpiry []) s = .next u) :=
  ⟨⟨(rich |> inLine .settling), (by decide +kernel)⟩,
   ⟨(rich |> inLine .settling |> autostarting), (by decide +kernel)⟩,
   ⟨rich, (by decide +kernel)⟩,
   ⟨(rich |> queued [entryThrice]), [], entryThrice, [], (by decide +kernel)⟩,
   ⟨(rich |> inLine .fault), (by decide +kernel)⟩,
   ⟨(rich |> inLine .settling |> inCensus), (by decide +kernel)⟩,
   ⟨(rich |> queued [entryStray]), [], entryStray, [], (by decide +kernel)⟩,
   ⟨rich, (.lineOnline), (by decide +kernel)⟩,
   ⟨(rich |> inLine .settling |> autostarting |> queued [entryCensus]), (by decide +kernel)⟩,
   ⟨(rich |> inLine .settling |> inCensus |> queued [entryCensus]), (by decide +kernel)⟩,
   (let ⟨v, h⟩ := exec_answers_next (.acknowledgeSlot false) (rich |> queued [entryStray]);
    ⟨(rich |> queued [entryStray]), [], entryStray, [], v, (by decide +kernel), (by decide +kernel),
     (by decide +kernel), (by decide +kernel), (by decide +kernel), (by decide +kernel), (by decide +kernel), h⟩),
   (let ⟨v, h⟩ := exec_answers_next (.epochExpiry []) (rich |> parted);
    ⟨(rich |> parted), v, (by decide +kernel), (by decide +kernel), h⟩)⟩

theorem premises_of_LinePhasesSetTheTermination :
    (∃ (s : State), s.line.state = .online ∧ (s.line.phase = .afterFrame ∨ s.line.phase = .stopped))
    ∧ (∃ (s : State), s.line.state = .online ∧ s.line.phase = .idle)
    ∧ (∃ (s : State), s.line.state = .online ∧ s.line.phase = .receiving)
    ∧ (∃ (s : State), s.line.state = .online ∧ s.line.phase = .receiving) :=
  ⟨⟨(rich |> inPhase .afterFrame), (by decide +kernel)⟩,
   ⟨rich, (by decide +kernel)⟩,
   ⟨(rich |> inPhase .receiving), (by decide +kernel)⟩,
   ⟨(rich |> inPhase .receiving), (by decide +kernel)⟩⟩

theorem premises_of_LineCommandsEnableDisableAndSetTheRate :
    (∃ (s : State), s.port.state ≠ .busy ∧ s.line.state = .disabled)
    ∧ (∃ (s : State), s.port.state ≠ .busy ∧ s.line.state ≠ .disabled)
    ∧ (∃ (s : State), s.port.state ≠ .busy ∧ s.prober.context = none
         ∧ (s.line.state ≠ .online ∨ s.clock.taken = PartsTaken.none))
    ∧ (∃ (s : State) (c : ProbeContext) (r : Record),
       s.port.state ≠ .busy ∧ s.prober.context = some c ∧ s.recordAt c.target = some r ∧ r.identity = c.identity
         ∧ r.state = .lapsed ∧ (s.line.state ≠ .online ∨ s.clock.taken = PartsTaken.none))
    ∧ (∃ (s : State), s.port.state ≠ .busy)
    ∧ (∃ (s : State) (c : ProbeContext), s.port.state ≠ .busy ∧ s.prober.context = some c
         ∧ (s.recordAt c.target).all (fun r => r.identity != c.identity || r.state != .lapsed) = true
         ∧ (s.line.state ≠ .online ∨ s.clock.taken = PartsTaken.none))
    ∧ (∃ (s u : State), s.port.state ≠ .busy ∧ s.line.state = .online ∧ s.clock.taken ≠ PartsTaken.none
         ∧ exec (.epochExpiry []) s = .next u) :=
  ⟨⟨(rich |> inLine .disabled), (by decide +kernel)⟩,
   ⟨rich, (by decide +kernel)⟩,
   ⟨rich, (by decide +kernel)⟩,
   ⟨(rich |> probing (probeOf 6 106 .lapse 1 .queued)), (probeOf 6 106 .lapse 1 .queued), recLapsed,
    (by decide +kernel)⟩,
   ⟨rich, (by decide +kernel)⟩,
   ⟨(rich |> probing (probeOf 5 105 .sweep 1 .queued)), (probeOf 5 105 .sweep 1 .queued), (by decide +kernel)⟩,
   (let ⟨v, h⟩ := exec_answers_next (.epochExpiry []) (rich |> parted);
    ⟨(rich |> parted), v, (by decide +kernel), (by decide +kernel), (by decide +kernel), h⟩)⟩

theorem premises_of_EpochExpiryAgesEveryOwnersState :
    (∃ (s : State), s.line.state = .online ∧ s.Placed ∧ s.clock.taken = PartsTaken.none
       ∧ (∀ r ∈ s.directory.records, r.hold ≠ some 0 ∧ r.hold ≠ some 1))
    ∧ (∃ (s : State), s.line.state ≠ .online)
    ∧ (∃ (s : State) (r : Record), s.line.state = .online ∧ s.Placed ∧ s.Shaped ∧ s.clock.taken = PartsTaken.none
         ∧ r ∈ s.heldOut) :=
  ⟨⟨few, (by decide +kernel), placed_few, (by decide +kernel)⟩,
   ⟨(rich |> inLine .disabled), (by decide +kernel)⟩,
   ⟨rich, recDisputed, (by decide +kernel), placed_rich, (by unfold State.Shaped; decide +kernel),
    (by decide +kernel)⟩⟩

theorem premises_of_ExpiryRowsRunTheirOwnersPart :
    (∃ (s : State) (a : Byte) (r : Record), s.line.state = .online ∧ s.Placed ∧ s.clock.taken.leaseDirectory = false
       ∧ s.recordAt a.toNat = some r ∧ r.state = .bound ∧ r.pinned = false ∧ r.hold = none ∧ r.term ≤ 1)
    ∧ (∃ (s : State) (a : Byte) (r : Record), s.line.state = .online ∧ s.Placed
         ∧ s.clock.taken.leaseDirectory = false ∧ s.recordAt a.toNat = some r ∧ r.state = .disputed
         ∧ r.hold = some 1)
    ∧ (∃ (s : State), s.line.state = .online ∧ s.clock.taken.addressPool = false
         ∧ (∃ q ∈ s.pool.quarantine, q.hold = 1))
    ∧ (∃ (s : State), s.line.state = .online ∧ s.clock.taken.censusUnit = false ∧ s.census.mode = .census
         ∧ s.census.window = 1)
    ∧ (∃ (s : State) (a : Byte) (c : Instr), s.line.state = .online ∧ s.Placed ∧ s.Shaped
         ∧ s.clock.taken.leaseDirectory = false ∧ ((c = .lapse a
                                                      ∧ (s.recordAt a.toNat).any (fun r => r.lapsesNow) = true)
                                                     ∨ (c = .disputeHoldExpiry a ∧ (s.recordAt a.toNat).any
                                                          (fun r => r.state == .disputed && r.hold == some 1) =
                                                          true)))
    ∧ (∃ (s : State) (a : Byte) (c : Instr), (((c = .lapse a ∨ c = .disputeHoldExpiry a)
                                                 ∧ s.clock.taken.leaseDirectory = true)
                                                ∨ (c = .quarantineHoldExpiry ∧ s.clock.taken.addressPool = true)
                                                ∨ (c = .censusWindowEnd ∧ s.clock.taken.censusUnit = true)
                                                ∨ ((c = .lapse a ∨ c = .disputeHoldExpiry a
                                                      ∨ c = .quarantineHoldExpiry ∨ c = .censusWindowEnd)
                                                     ∧ s.line.state ≠ .online)))
    ∧ (∃ (s : State) (a : Byte) (c : Instr) (u : State),
       s.line.state = .online ∧ ((c = .lapse a ∧ (s.recordAt a.toNat).any (fun r => r.lapsesNow) = true)
                                   ∨ (c = .disputeHoldExpiry a ∧ (s.recordAt a.toNat).any
                                        (fun r => r.state == .disputed && r.hold == some 1) = true))
         ∧ exec c s = .next u) :=
  ⟨⟨rich, 5, recBound, (by decide +kernel), placed_rich, (by decide +kernel)⟩,
   ⟨rich, 7, recDisputed, (by decide +kernel), placed_rich, (by decide +kernel)⟩,
   ⟨rich, (by decide +kernel)⟩,
   ⟨(rich |> inCensus), (by decide +kernel)⟩,
   ⟨rich, 5, (.lapse 0x05#8), (by decide +kernel), placed_rich, (by unfold State.Shaped; decide +kernel),
    (by decide +kernel)⟩,
   ⟨(rich |> inLine .disabled), 5, (.lapse 0x05#8), (by decide +kernel)⟩,
   (let ⟨v, h⟩ := exec_answers_next (.lapse 0x05#8) rich;
    ⟨rich, 5, (.lapse 0x05#8), v, (by decide +kernel), (by decide +kernel), h⟩)⟩

theorem premises_of_ParametersAreWrittenWithinTheirRanges :
    (∃ (s : State) (lh : Nat × Nat), s.port.state ≠ .busy ∧ parameterRange (s.p 0) = some lh
       ∧ lh.1 ≤ 256 * s.p 1 + s.p 2 ∧ 256 * s.p 1 + s.p 2 ≤ lh.2)
    ∧ (∃ (s : State), s.port.state ≠ .busy ∧ s.p 0 ≠ 0x12
         ∧ (∀ lh ∈ parameterRange (s.p 0), 256 * s.p 1 + s.p 2 < lh.1 ∨ lh.2 < 256 * s.p 1 + s.p 2))
    ∧ (∃ (s : State), s.port.state ≠ .busy ∧ s.p 0 = 0x12)
    ∧ (∃ (s : State), s.port.state ≠ .busy) :=
  ⟨⟨(rich |> given [4, 0, 0, 0, 0, 0, 0, 0]), (0, 255), (by decide +kernel)⟩,
   ⟨(rich |> given [0, 0, 0, 0, 0, 0, 0, 0]), (by decide +kernel)⟩,
   ⟨(rich |> given [18, 0, 0, 0, 0, 0, 0, 0]), (by decide +kernel)⟩,
   ⟨rich, (by decide +kernel)⟩⟩

theorem premises_of_ReservationsAreMadeAndReleasedByTheirChecks :
    (∃ (s : State), s.port.state ≠ .busy ∧ s.Placed ∧ leasable (s.p 0) = true ∧ validIdentity s.pIdentity = true
       ∧ s.p 7 ≤ 1 ∧ s.p 0 ∉ s.addresses ∧ s.recordOf s.pIdentity = none ∧ s.directory.records.length < 192)
    ∧ (∃ (s : State), s.port.state ≠ .busy ∧ s.Placed ∧ s.reserveOutcome (s.p 0) s.pIdentity (s.p 7) ≠ .ok)
    ∧ (∃ (s : State), s.port.state ≠ .busy ∧ s.Placed ∧ 1 ≤ s.p 0 ∧ s.p 0 ≤ 32 ∧ s.port.buffer.length = 256
         ∧ s.port.parameters.length = 8)
    ∧ (∃ (s : State), s.port.state ≠ .busy ∧ (s.p 0 = 0 ∨ 32 < s.p 0))
    ∧ (∃ (s : State) (r : Record), s.port.state ≠ .busy ∧ leasable (s.p 0) = true ∧ s.recordAt (s.p 0) = some r
         ∧ r.state = .reserved)
    ∧ (∃ (s : State), s.port.state ≠ .busy ∧ s.recordOutcome (s.p 0) (fun st => st == .reserved) ≠ .ok) :=
  ⟨⟨(rich |> given [1, 5, 0, 0, 0, 0, 0, 0]), (by decide +kernel), placed_rich, (by decide +kernel)⟩,
   ⟨(rich |> given [0, 0, 0, 0, 0, 0, 0, 0]), (by decide +kernel), placed_rich, (by decide +kernel)⟩,
   ⟨(rich |> given [1, 5, 0, 0, 0, 0, 0, 0]), (by decide +kernel), placed_rich, (by decide +kernel)⟩,
   ⟨(rich |> given [0, 0, 0, 0, 0, 0, 0, 0]), (by decide +kernel)⟩,
   ⟨(rich |> given [2, 0, 0, 0, 0, 0, 0, 0]), recReserved, (by decide +kernel)⟩,
   ⟨(rich |> given [0, 0, 0, 0, 0, 0, 0, 0]), (by decide +kernel)⟩⟩

theorem premises_of_PinAndUnpinMoveOnlyTheFlagAndALapse :
    (∃ (s : State) (r : Record), s.port.state ≠ .busy ∧ s.Placed ∧ s.LapseListed ∧ leasable (s.p 0) = true
       ∧ s.recordAt (s.p 0) = some r ∧ (r.state = .reserved ∨ r.state = .bound ∨ r.state = .disputed)
       ∧ r.pinned = false)
    ∧ (∃ (s : State) (r : Record), s.port.state ≠ .busy ∧ leasable (s.p 0) = true ∧ s.recordAt (s.p 0) = some r
         ∧ r.state = .lapsed ∧ r.pinned = false)
    ∧ (∃ (s : State) (r : Record), s.port.state ≠ .busy ∧ leasable (s.p 0) = true ∧ s.recordAt (s.p 0) = some r
         ∧ r.state ≠ .offered ∧ r.pinned = true)
    ∧ (∃ (s : State), s.port.state ≠ .busy ∧ s.recordOutcome (s.p 0) (fun st => st != .offered) ≠ .ok)
    ∧ (∃ (s : State) (r : Record), s.port.state ≠ .busy ∧ s.Placed ∧ s.LapseListed ∧ s.Shaped
         ∧ leasable (s.p 0) = true ∧ s.recordAt (s.p 0) = some r ∧ r.state ≠ .offered ∧ r.pinned = true)
    ∧ (∃ (s : State) (r : Record), s.port.state ≠ .busy ∧ leasable (s.p 0) = true ∧ s.recordAt (s.p 0) = some r
         ∧ r.state ≠ .offered ∧ r.pinned = false)
    ∧ (∃ (s : State), s.port.state ≠ .busy ∧ s.recordOutcome (s.p 0) (fun st => st != .offered) ≠ .ok) :=
  ⟨⟨(rich |> given [5, 0, 0, 0, 0, 0, 0, 0]), recBound, (by decide +kernel), placed_rich,
    (by unfold State.LapseListed; decide +kernel), (by decide +kernel)⟩,
   ⟨(rich |> given [6, 0, 0, 0, 0, 0, 0, 0]), recLapsed, (by decide +kernel)⟩,
   ⟨(rich |> given [9, 0, 0, 0, 0, 0, 0, 0]), recPinned, (by decide +kernel)⟩,
   ⟨(rich |> given [0, 0, 0, 0, 0, 0, 0, 0]), (by decide +kernel)⟩,
   ⟨(rich |> given [9, 0, 0, 0, 0, 0, 0, 0]), recPinned, (by decide +kernel), placed_rich,
    (by unfold State.LapseListed; decide +kernel), (by unfold State.Shaped; decide +kernel), (by decide +kernel)⟩,
   ⟨(rich |> given [5, 0, 0, 0, 0, 0, 0, 0]), recBound, (by decide +kernel)⟩,
   ⟨(rich |> given [0, 0, 0, 0, 0, 0, 0, 0]), (by decide +kernel)⟩⟩

theorem premises_of_EvictEndsTheRecordAndAwaitsItsRevoke :
    (∃ (s : State) (r : Record), s.port.state ≠ .busy ∧ leasable (s.p 0) = true ∧ s.recordAt (s.p 0) = some r
       ∧ (r.state = .bound ∨ r.state = .lapsed ∨ r.state = .disputed
            ∨ r.offer.any (fun o => o.origin == .rebind) = true) ∧ (r.state = .offered ∨ r.offer = none)
       ∧ r.state ≠ .reserved ∧ s.line.state ≠ .disabled ∧ s.hasFreeEntry = true)
    ∧ (∃ (s : State) (r : Record), s.port.state ≠ .busy ∧ leasable (s.p 0) = true ∧ s.recordAt (s.p 0) = some r
         ∧ (r.state = .bound ∨ r.state = .lapsed ∨ r.state = .disputed
              ∨ r.offer.any (fun o => o.origin == .rebind) = true) ∧ (r.state = .offered ∨ r.offer = none)
         ∧ r.state ≠ .reserved ∧ s.line.state ≠ .disabled ∧ s.hasFreeEntry = false)
    ∧ (∃ (s : State) (r : Record), s.port.state ≠ .busy ∧ leasable (s.p 0) = true ∧ s.recordAt (s.p 0) = some r
         ∧ (r.state = .bound ∨ r.state = .lapsed ∨ r.state = .disputed
              ∨ r.offer.any (fun o => o.origin == .rebind) = true) ∧ (r.state = .offered ∨ r.offer = none)
         ∧ r.state ≠ .reserved ∧ s.line.state = .disabled)
    ∧ (∃ (s : State) (r : Record), s.port.state ≠ .busy ∧ leasable (s.p 0) = true ∧ s.recordAt (s.p 0) = some r
         ∧ r.state = .offered ∧ r.offer.all (fun o => o.origin != .rebind) = true)
    ∧ (∃ (s : State), s.port.state ≠ .busy ∧ s.recordOutcome (s.p 0) (fun st => st != .reserved) ≠ .ok) :=
  ⟨⟨(rich |> given [5, 0, 0, 0, 0, 0, 0, 0]), recBound, (by decide +kernel)⟩,
   ⟨(rich |> queued (List.replicate 8 entryWaits) |> given [5, 0, 0, 0, 0, 0, 0, 0]), recBound, (by decide +kernel)⟩,
   ⟨(rich |> inLine .disabled |> given [5, 0, 0, 0, 0, 0, 0, 0]), recBound, (by decide +kernel)⟩,
   ⟨(rich |> given [3, 0, 0, 0, 0, 0, 0, 0]), recNew, (by decide +kernel)⟩,
   ⟨(rich |> given [0, 0, 0, 0, 0, 0, 0, 0]), (by decide +kernel)⟩⟩

theorem premises_of_AwardGivesTheAddressToOneParty :
    (∃ (s : State) (r : Record), s.port.state ≠ .busy ∧ s.Placed ∧ s.LapseListed ∧ leasable (s.p 0) = true
       ∧ s.recordAt (s.p 0) = some r ∧ r.state = .disputed ∧ s.p 1 = 0 ∧ r.rival = none)
    ∧ (∃ (s : State) (r : Record) (i : Identity),
       s.port.state ≠ .busy ∧ s.Placed ∧ s.LapseListed ∧ leasable (s.p 0) = true ∧ s.recordAt (s.p 0) = some r
         ∧ r.state = .disputed ∧ s.p 1 = 0 ∧ r.rival = some i ∧ s.line.state ≠ .disabled ∧ s.hasFreeEntry = true)
    ∧ (∃ (s : State) (r : Record) (i : Identity),
       s.port.state ≠ .busy ∧ s.Placed ∧ s.LapseListed ∧ leasable (s.p 0) = true ∧ s.recordAt (s.p 0) = some r
         ∧ r.state = .disputed ∧ s.p 1 = 1 ∧ r.rival = some i
         ∧ (s.recordOf i).all (fun q => q.address == r.address) = true ∧ s.line.state ≠ .disabled
         ∧ s.hasFreeEntry = true)
    ∧ (∃ (s : State) (r : Record) (i : Identity),
       s.port.state ≠ .busy ∧ s.Placed ∧ s.LapseListed ∧ leasable (s.p 0) = true ∧ s.recordAt (s.p 0) = some r
         ∧ r.state = .disputed ∧ s.p 1 = 1 ∧ r.rival = some i
         ∧ (s.recordOf i).all (fun q => q.address == r.address) = true ∧ s.line.state = .disabled)
    ∧ (∃ (s : State), s.port.state ≠ .busy ∧ s.awardOutcome (s.p 0) (s.p 1) ≠ .ok)
    ∧ (∃ (s : State) (r : Record) (i : Identity),
       s.port.state ≠ .busy ∧ s.Placed ∧ s.LapseListed ∧ leasable (s.p 0) = true ∧ s.recordAt (s.p 0) = some r
         ∧ r.state = .disputed ∧ s.p 1 = 0 ∧ r.rival = some i ∧ s.line.state = .disabled)
    ∧ (∃ (s : State) (r : Record) (i : Identity),
       s.port.state ≠ .busy ∧ s.Placed ∧ s.LapseListed ∧ leasable (s.p 0) = true ∧ s.recordAt (s.p 0) = some r
         ∧ r.state = .disputed ∧ s.p 1 = 0 ∧ r.rival = some i ∧ s.line.state ≠ .disabled ∧ s.hasFreeEntry = false)
    ∧ (∃ (s : State) (r : Record) (i : Identity),
       s.port.state ≠ .busy ∧ s.Placed ∧ s.LapseListed ∧ leasable (s.p 0) = true ∧ s.recordAt (s.p 0) = some r
         ∧ r.state = .disputed ∧ s.p 1 = 1 ∧ r.rival = some i
         ∧ (s.recordOf i).all (fun q => q.address == r.address) = true ∧ s.line.state ≠ .disabled
         ∧ s.hasFreeEntry = false) :=
  ⟨⟨(rich |> given [7, 0, 0, 0, 0, 0, 0, 0]), recDisputed, (by decide +kernel), placed_rich,
    (by unfold State.LapseListed; decide +kernel), (by decide +kernel)⟩,
   ⟨(rich |> given [8, 0, 0, 0, 0, 0, 0, 0]), recRivalled, 208, (by decide +kernel), placed_rich,
    (by unfold State.LapseListed; decide +kernel), (by decide +kernel)⟩,
   ⟨(rich |> given [8, 1, 0, 0, 0, 0, 0, 0]), recRivalled, 208, (by decide +kernel), placed_rich,
    (by unfold State.LapseListed; decide +kernel), (by decide +kernel)⟩,
   ⟨(rich |> inLine .disabled |> given [8, 1, 0, 0, 0, 0, 0, 0]), recRivalled, 208, (by decide +kernel), placed_rich,
    (by unfold State.LapseListed; decide +kernel), (by decide +kernel)⟩,
   ⟨(rich |> given [0, 0, 0, 0, 0, 0, 0, 0]), (by decide +kernel)⟩,
   ⟨(rich |> inLine .disabled |> given [8, 0, 0, 0, 0, 0, 0, 0]), recRivalled, 208, (by decide +kernel), placed_rich,
    (by unfold State.LapseListed; decide +kernel), (by decide +kernel)⟩,
   ⟨(rich |> queued (List.replicate 8 entryWaits) |> given [8, 0, 0, 0, 0, 0, 0, 0]), recRivalled, 208,
    (by decide +kernel), placed_rich, (by unfold State.LapseListed; decide +kernel), (by decide +kernel)⟩,
   ⟨(rich |> queued (List.replicate 8 entryWaits) |> given [8, 1, 0, 0, 0, 0, 0, 0]), recRivalled, 208,
    (by decide +kernel), placed_rich, (by unfold State.LapseListed; decide +kernel), (by decide +kernel)⟩⟩

theorem premises_of_CensusAndSweepCommandsSetTheirContexts :
    (∃ (s : State), s.port.state ≠ .busy ∧ s.line.state = .online
       ∧ s.queue.entries.any TxEntry.waitingCensus = false)
    ∧ (∃ (s : State), s.port.state ≠ .busy ∧ s.line.state = .online
         ∧ s.queue.entries.any TxEntry.waitingCensus = true)
    ∧ (∃ (s : State), s.port.state ≠ .busy ∧ s.line.state ≠ .online)
    ∧ (∃ (s : State), s.port.state ≠ .busy ∧ s.census.mode = .census)
    ∧ (∃ (s : State), s.port.state ≠ .busy ∧ s.census.mode = .serving)
    ∧ (∃ (s : State), s.port.state ≠ .busy ∧ leasable (s.p 0) = true ∧ leasable (s.p 1) = true ∧ s.p 0 ≤ s.p 1
         ∧ s.p 2 ≤ 1 ∧ s.p 3 ≤ 1)
    ∧ (∃ (s : State), s.port.state ≠ .busy ∧ (leasable (s.p 0) = false ∨ leasable (s.p 1) = false ∨ s.p 1 < s.p 0
                                                ∨ 1 < s.p 2 ∨ 1 < s.p 3))
    ∧ (∃ (s : State), s.port.state ≠ .busy) :=
  ⟨⟨rich, (by decide +kernel)⟩,
   ⟨(rich |> queued [entryCensus]), (by decide +kernel)⟩,
   ⟨(rich |> inLine .disabled), (by decide +kernel)⟩,
   ⟨(rich |> inCensus), (by decide +kernel)⟩,
   ⟨rich, (by decide +kernel)⟩,
   ⟨(rich |> given [1, 5, 0, 0, 0, 0, 0, 0]), (by decide +kernel)⟩,
   ⟨(rich |> given [0, 0, 0, 0, 0, 0, 0, 0]), (by decide +kernel)⟩,
   ⟨rich, (by decide +kernel)⟩⟩

theorem premises_of_GroupCommandsEditTheListsByTheirChecks :
    (∃ (s : State), s.port.state ≠ .busy ∧ s.groups.length = 32 ∧ s.groupAssignOutcome (s.p 0) (s.p 1) = .ok)
    ∧ (∃ (s : State), s.port.state ≠ .busy ∧ s.groupAssignOutcome (s.p 0) (s.p 1) ≠ .ok)
    ∧ (∃ (s : State), s.port.state ≠ .busy ∧ groupNumber (s.p 0) = true ∧ leasable (s.p 1) = true
         ∧ s.p 1 ∈ (s.group (s.p 0)).members ∧ s.groups.length = 32)
    ∧ (∃ (s : State), s.port.state ≠ .busy ∧ groupNumber (s.p 0) = true ∧ leasable (s.p 1) = true
         ∧ s.p 1 ∉ (s.group (s.p 0)).members)
    ∧ (∃ (s : State), s.port.state ≠ .busy ∧ (groupNumber (s.p 0) = false ∨ leasable (s.p 1) = false))
    ∧ (∃ (s : State), s.port.state ≠ .busy ∧ groupNumber (s.p 0) = true ∧ (s.group (s.p 0)).members.length ≤ 16
         ∧ memberTotal s.groups ≤ 256)
    ∧ (∃ (s : State), s.port.state ≠ .busy ∧ groupNumber (s.p 0) = true ∧ s.p 1 ≤ 1)
    ∧ (∃ (s : State), s.port.state ≠ .busy ∧ (groupNumber (s.p 0) = false ∨ 1 < s.p 1))
    ∧ (∃ (s : State), s.port.state ≠ .busy ∧ groupNumber (s.p 0) = true ∧ s.Grouped)
    ∧ (∃ (s : State), s.port.state ≠ .busy ∧ groupNumber (s.p 0) = false)
    ∧ (∃ (s : State), s.port.state ≠ .busy ∧ groupNumber (s.p 0) = false) :=
  ⟨⟨(rich |> given [1, 3, 0, 0, 0, 0, 0, 0]), (by decide +kernel)⟩,
   ⟨(rich |> given [0, 0, 0, 0, 0, 0, 0, 0]), (by decide +kernel)⟩,
   ⟨(rich |> given [1, 5, 0, 0, 0, 0, 0, 0]), (by decide +kernel)⟩,
   ⟨(rich |> given [1, 239, 0, 0, 0, 0, 0, 0]), (by decide +kernel)⟩,
   ⟨(rich |> given [0, 0, 0, 0, 0, 0, 0, 0]), (by decide +kernel)⟩,
   ⟨(rich |> given [1, 5, 0, 0, 0, 0, 0, 0]), (by decide +kernel)⟩,
   ⟨(rich |> given [1, 0, 0, 0, 0, 0, 0, 0]), (by decide +kernel)⟩,
   ⟨(rich |> given [0, 0, 0, 0, 0, 0, 0, 0]), (by decide +kernel)⟩,
   ⟨(rich |> given [1, 5, 0, 0, 0, 0, 0, 0]), (by decide +kernel), (by decide +kernel),
    (by unfold State.Grouped; decide +kernel)⟩,
   ⟨(rich |> given [0, 0, 0, 0, 0, 0, 0, 0]), (by decide +kernel)⟩,
   ⟨(rich |> given [0, 0, 0, 0, 0, 0, 0, 0]), (by decide +kernel)⟩⟩

theorem premises_of_ReadFreeListShowsTheWholeList :
    ∃ (s : State), s.port.state ≠ .busy ∧ s.pool.free.length ≤ 239 :=
  ⟨rich, (by decide +kernel)⟩

theorem premises_of_ReadQuarantineShowsEntriesFromAnIndex :
    ∃ (s : State), s.port.state ≠ .busy ∧ s.pool.quarantine.length ≤ 239 :=
  ⟨rich, (by decide +kernel)⟩

theorem premises_of_CollectChangesTakesTheFirstThirtyTwoMarks :
    ∃ (s : State), s.port.state ≠ .busy ∧ s.Marked ∧ s.Placed ∧ s.port.parameters.length = 8 :=
  ⟨rich, (by decide +kernel), (by unfold State.Marked; decide +kernel), placed_rich, (by decide +kernel)⟩

theorem premises_of_RecordReadsShowTheRecordView :
    (∃ (s : State) (found : Option Record) (r : Record),
     s.port.state ≠ .busy ∧ found = (if s.p 0 = 0 then s.recordAt (s.p 1) else s.recordOf s.pIdentity)
       ∧ ((s.p 0 = 0 ∧ leasable (s.p 1) = true) ∨ (s.p 0 = 1 ∧ validIdentity s.pIdentity = true)) ∧ found = some r)
    ∧ (∃ (s : State), s.port.state ≠ .busy ∧ (1 < s.p 0 ∨ (s.p 0 = 0 ∧ leasable (s.p 1) = false)
                                                ∨ (s.p 0 = 1 ∧ validIdentity s.pIdentity = false)
                                                ∨ (if s.p 0 = 0 then s.recordAt (s.p 1) else s.recordOf s.pIdentity)
                                                = none))
    ∧ (∃ (s : State) (above : List Record), s.port.state ≠ .busy ∧ s.Placed ∧ leasable (s.p 0) = true ∧ 1 ≤ s.p 1
         ∧ s.p 1 ≤ 10 ∧ above = s.directory.records.filter (fun r => s.p 0 ≤ r.address))
    ∧ (∃ (s : State), s.port.state ≠ .busy ∧ (leasable (s.p 0) = false ∨ s.p 1 = 0 ∨ 10 < s.p 1))
    ∧ (∃ (s : State) (r : Record), r.inRange = true ∧ leasable r.address = true ∧ s.groups.length = 32) :=
  ⟨⟨(rich |> given [0, 5, 0, 0, 0, 0, 0, 0]), (some recBound), recBound, (by decide +kernel)⟩,
   ⟨(rich |> given [0, 0, 0, 0, 0, 0, 0, 0]), (by decide +kernel)⟩,
   ⟨(rich |> given [1, 5, 0, 0, 0, 0, 0, 0]), [recReserved, recNew, recRebind, recBound, recLapsed, recDisputed,
                                               recRivalled, recPinned, recAgain], (by decide +kernel), placed_rich,
    (by decide +kernel)⟩,
   ⟨(rich |> given [0, 0, 0, 0, 0, 0, 0, 0]), (by decide +kernel)⟩,
   ⟨rich, recReserved, (by decide +kernel)⟩⟩

theorem premises_of_ReadSummaryCountsAddUp :
    ∃ (s : State), s.port.state ≠ .busy ∧ s.Sound :=
  ⟨rich, (by decide +kernel), rich_sound⟩

theorem premises_of_ClearDirectoryEmptiesThePartButForTheLine :
    ∃ (s : State), s.port.state ≠ .busy :=
  ⟨rich, (by decide +kernel)⟩

theorem premises_of_CodeWritesAreTakenOrCollide :
    (∃ (s : State) (c : Byte), s.port.state ≠ .busy ∧ commandCodes.contains c.toNat = false)
    ∧ (∃ (s : State) (c : Byte), s.port.state = .busy ∧ c ≠ 0xFF)
    ∧ (∃ (s : State) (c : Instr), s.port.state = .busy ∧ c ∈ hostCommands)
    ∧ (∃ (s : State), s.port.state ≠ .busy)
    ∧ (∃ (s : State) (x : Byte × Instr), s.port.state ≠ .busy ∧ x ∈ codeRows)
    ∧ (∃ (x : Byte × Instr), x ∈ (0xFF, .portRestart) :: codeRows)
    ∧ (∃ (h : Byte), (h.getLsbD 7 = false ∨ h.toNat % 128 ≠ 8)) :=
  ⟨⟨rich, 0, (by decide +kernel)⟩,
   ⟨(rich |> busyPort), 1, (by decide +kernel)⟩,
   ⟨(rich |> busyPort), (.setParameter), (by decide +kernel)⟩,
   ⟨rich, (by decide +kernel)⟩,
   ⟨rich, (1, (.setParameter)), (by decide +kernel)⟩,
   ⟨(1, (.setParameter)), (by decide +kernel)⟩,
   ⟨0, (by decide +kernel)⟩⟩

theorem premises_of_WindowAccessesActByteByByte :
    (∃ (s : State), s.port.state ≠ .busy)
    ∧ (∃ (s : State), s.port.state = .busy)
    ∧ (∃ (s : State), s.port.state ≠ .busy)
    ∧ (∃ (s : State), s.port.state = .busy)
    ∧ (∃ (off : BitVec 7), off.toNat < 8)
    ∧ (∃ (s : State), s.port.state ≠ .busy)
    ∧ (∃ (off : BitVec 7), (off = 0x09 ∨ off = 0x0A ∨ off = 0x0B ∨ 0x0F ≤ off.toNat))
    ∧ (∃ (s : State), s.port.state = .busy)
    ∧ (∃ (off : BitVec 7), off ≠ 0x0E)
    ∧ (∃ (s : State) (b : Byte) (u : State), exec (.bufferDataWrite b) s = .next u)
    ∧ (∃ (s u : State), exec .bufferDataRead s = .next u)
    ∧ (∃ (s : State), s.Marked) :=
  ⟨⟨rich, (by decide +kernel)⟩,
   ⟨(rich |> busyPort), (by decide +kernel)⟩,
   ⟨rich, (by decide +kernel)⟩,
   ⟨(rich |> busyPort), (by decide +kernel)⟩,
   ⟨0, (by decide +kernel)⟩,
   ⟨rich, (by decide +kernel)⟩,
   ⟨9, (by decide +kernel)⟩,
   ⟨(rich |> busyPort), (by decide +kernel)⟩,
   ⟨0, (by decide +kernel)⟩,
   (let ⟨v, h⟩ := exec_answers_next (.bufferDataWrite 5) rich; ⟨rich, 5, v, h⟩),
   (let ⟨v, h⟩ := exec_answers_next .bufferDataRead rich; ⟨rich, v, h⟩),
   ⟨rich, (by unfold State.Marked; decide +kernel)⟩⟩

end Sys2Proof.Machine.Tests
end

section
/-! SUPPORT. What any step can do to the tables of the Lease Directory, said once. The tables are the records, the lapse
list, the change marks, the Address Pool, the member lists, the parameters and the target of the probe in flight. An
`Edit` is one small change of them, a `Change` is an edit or one of the three passes over many records, and
every meaning of Machine/ is shown further down to be a run of changes (`step_changes`). Each law of the tables is then
kept by every step as soon as every edit keeps it. -/

namespace Sys2Proof.Machine

/-! ## The tables -/

/-- The address and the identity that the probe in flight is for, R88. -/
def State.target (s : State) : Option (Nat × Identity) := s.prober.context.map (fun c => (c.target, c.identity))

theorem State.isTarget_iff (s : State) (r : Record) :
    s.isTarget r = true ↔ s.target = some (r.address, r.identity) := by
  unfold State.isTarget State.target
  cases s.prober.context <;> simp

/-- The tables are the same in both states. -/
structure State.SameTables (s t : State) : Prop where
  records : t.directory.records = s.directory.records
  lapseList : t.directory.lapseList = s.directory.lapseList
  marks : t.directory.marks = s.directory.marks
  pool : t.pool = s.pool
  groups : t.groups = s.groups
  params : t.params = s.params
  target : t.target = s.target

/-- Writing the census, the line, the queue, the clock, the port, the free values or the waiting commands leaves the
tables alone. -/
theorem State.SameTables.of_frame {s t : State} {census : Census} {line : Line} {queue : TxQueue} {clock : Clock}
    {port : Port} {chance : Nat} {pending : List Instr}
    (h : t = { s with census := census, line := line, queue := queue, clock := clock, port := port, chance := chance,
                      pending := pending }) : s.SameTables t := by
  subst h
  exact ⟨rfl, rfl, rfl, rfl, rfl, rfl, rfl⟩

theorem State.SameTables.refl (s : State) : s.SameTables s := ⟨rfl, rfl, rfl, rfl, rfl, rfl, rfl⟩

theorem State.SameTables.trans {s t u : State} (h : s.SameTables t) (k : t.SameTables u) : s.SameTables u :=
  ⟨k.records.trans h.records, k.lapseList.trans h.lapseList, k.marks.trans h.marks, k.pool.trans h.pool,
    k.groups.trans h.groups, k.params.trans h.params, k.target.trans h.target⟩

theorem State.SameTables.addresses {s t : State} (h : s.SameTables t) : t.addresses = s.addresses := by
  simp [State.addresses, h.records]

/-- A record carries what R1 and R2 give for its state. -/
def Record.fits (r : Record) : Bool := r.shaped && r.inRange

/-- Every record is changed by the same function. -/
def State.mapRecords (f : Record → Record) (s : State) : State :=
  s.setDirectory { s.directory with records := s.directory.records.map f }

/-- The function leaves a record's key, its holder, its state and its rival. -/
structure KeepsIdentity (f : Record → Record) : Prop where
  address (r : Record) : (f r).address = r.address
  identity (r : Record) : (f r).identity = r.identity
  state (r : Record) : (f r).state = r.state
  rival (r : Record) : (f r).rival = r.rival

/-! ## What allows an edit -/

/-- An identity is recorded nowhere but, at most, at the address. -/
def State.HeldOnlyAt (s : State) (i : Identity) (a : Nat) : Prop := ∀ p, s.recordOf i = some p → p.address = a

/-- The record q may take the place of the record r. -/
structure State.MayReplace (s : State) (r q : Record) : Prop where
  address : q.address = r.address
  fits : s.Ranged → r.fits = true → q.fits = true
  named : validIdentity r.identity = true → r.rivalFits = true → validIdentity q.identity = true ∧ q.rivalFits = true
  unique : q.identity = r.identity ∨ s.HeldOnlyAt q.identity r.address
  offers : q.state = .offered → r.state = .offered ∨ s.countIn .offered < Config.maxOffered

/-- The lapse list when q takes the place of r: kept when neither or both are LAPSED, without the address when q is not,
and with the address at its tail when q has just lapsed and is not the probe target (R21, R22). -/
inductive State.Relists (s : State) (r q : Record) : List Nat → Prop where
  | kept (lapsed : q.state = .lapsed ↔ r.state = .lapsed) (identity : q.identity = r.identity) :
      s.Relists r q s.directory.lapseList
  | dropped (lapsed : q.state ≠ .lapsed) : s.Relists r q (s.directory.lapseList.filter (fun b => b != r.address))
  | lapses (before : r.state ≠ .lapsed) (lapsed : q.state = .lapsed) (identity : q.identity = r.identity) :
      s.Relists r q (if s.isTarget r then s.directory.lapseList else s.directory.lapseList ++ [r.address])

/-- A record may be created at its address, R4, R5 and R6. -/
structure State.MayCreate (s : State) (r : Record) : Prop where
  place : r.address ∈ s.pool.free ∨ (∃ q ∈ s.pool.quarantine, q.address = r.address)
    ∨ (leasable r.address = true ∧ s.recordAt r.address = none)
  room : s.directory.records.length < Config.maxRecords
  fits : s.Ranged → r.fits = true
  named : validIdentity r.identity = true ∧ r.rivalFits = true
  new : s.recordOf r.identity = none
  offers : r.state = .offered → s.countIn .offered < Config.maxOffered
  live : r.state ≠ .lapsed

/-- The record q may be created in the place of r, which ends in the same operation (R126). -/
structure State.MaySupplant (s : State) (r q : Record) : Prop where
  address : q.address = r.address
  fits : s.Ranged → q.fits = true
  named : validIdentity q.identity = true ∧ q.rivalFits = true
  unique : s.HeldOnlyAt q.identity r.address
  settled : q.state ≠ .offered ∧ q.state ≠ .lapsed

/-- The lapse list when the probe of the address and identity ends: a target still LAPSED goes to its tail or to its
head (R98). -/
inductive State.Releases (s : State) (a : Nat) (i : Identity) : List Nat → Prop where
  | tail {r : Record} (found : s.recordAt a = some r) (identity : r.identity = i) (lapsed : r.state = .lapsed) :
      s.Releases a i (s.directory.lapseList ++ [a])
  | head {r : Record} (found : s.recordAt a = some r) (identity : r.identity = i) (lapsed : r.state = .lapsed) :
      s.Releases a i (a :: s.directory.lapseList)
  | kept (other : ∀ r, s.recordAt a = some r → r.identity = i → r.state ≠ .lapsed) :
      s.Releases a i s.directory.lapseList

/-- The tables have their values of Clear Directory or of part reset, R23, R37, R105 and R131. -/
structure State.Cleared (s t : State) : Prop where
  records : t.directory.records = []
  lapseList : t.directory.lapseList = []
  marks : t.directory.marks = []
  pool : t.pool = Pool.reset
  count : s.groups.length = Config.groupCount → t.groups.length = Config.groupCount
  members : ∀ g ∈ t.groups, g.members = []
  params : s.Ranged → t.Ranged
  target : t.target = none

/-! ## Edits and changes -/

/-- One small change of the tables, with what allows it. -/
inductive Edit : State → State → Prop where
  /-- Something beside the tables changes. -/
  | aside {s t : State} (same : s.SameTables t) : Edit s t
  /-- A parameter is set, R176. -/
  | tune {s : State} {q : Params} (inRange : s.Ranged → q.inRange = true) : Edit s (s.setParams q)
  /-- An alteration is noted at an address that holds a record or is a member of a group, R17. -/
  | note {s : State} {a : Nat} (held : a ∈ s.addresses ∨ ∃ g ∈ s.groups, a ∈ g.members) : Edit s (s.note .altered a)
  /-- The host collects the first marks, R20. -/
  | collect {s : State} (n : Nat) : Edit s (s.setDirectory { s.directory with marks := s.directory.marks.drop n })
  /-- Members leave their lists, R139 and R140. -/
  | shrink {s : State} {gs : List Group} (sub : List.Forall₂ (fun g' g => g'.members.Sublist g.members) gs s.groups) :
      Edit s (s.setGroups gs)
  /-- The holder of an address joins a group, R135 and R138. -/
  | grow {s : State} {g a : Nat} (held : a ∈ s.addresses) (new : a ∉ (s.group g).members)
      (room : (s.group g).members.length < Config.groupMembers) (entry : s.freeEntries ≠ 0) :
      Edit s (s.setGroup g { s.group g with members := (s.group g).members ++ [a] })
  /-- The Address Pool takes an epoch expiry, R28. -/
  | pool {s : State} : Edit s s.poolPart
  /-- Every record is changed by a function that keeps what names it. -/
  | map {s : State} {f : Record → Record} (keeps : KeepsIdentity f) (fits : ∀ r, r.fits = true → (f r).fits = true) :
      Edit s (s.mapRecords f)
  /-- A record takes the place of another at its address, with the lapse list moved as its state asks. -/
  | replace {s : State} {r q : Record} {l : List Nat} (mem : r ∈ s.directory.records) (may : s.MayReplace r q)
      (relists : s.Relists r q l) :
      Edit s (s.setDirectory { s.directory with records := replaceRecord q s.directory.records, lapseList := l })
  /-- A record is created, R6. -/
  | create {s : State} {r : Record} (may : s.MayCreate r) : Edit s ((s.takeAddress r.address).createRecord r)
  /-- A record ends and its address returns to the pool, R14 and R15. -/
  | ends {s : State} {r : Record} {place : Place} (mem : r ∈ s.directory.records) (returns : place ≠ .passedOn) :
      Edit s (s.endRecord place r)
  /-- A record ends and another is created at its address, R126. -/
  | supplant {s : State} {r q : Record} (mem : r ∈ s.directory.records) (may : s.MaySupplant r q) :
      Edit s ((s.endRecord .passedOn r).createRecord q)
  /-- The Prober takes a record as its target, R90. -/
  | aim {s : State} {r : Record} {c : ProbeContext} {l : List Nat} (mem : r ∈ s.directory.records)
      (idle : s.prober.context = none) (address : c.target = r.address) (identity : c.identity = r.identity)
      (leaves : l = s.directory.lapseList.filter (fun b => b != r.address)
        ∨ (r.state ≠ .lapsed ∧ l = s.directory.lapseList)) :
      Edit s ((s.setDirectory { s.directory with lapseList := l }).setProber { s.prober with context := some c })
  /-- The probe in flight ends, R94 and R98. -/
  | release {s : State} {a : Nat} {i : Identity} {l : List Nat} (aimed : s.target = some (a, i))
      (releases : s.Releases a i l) : Edit s (s.emptyContext.setDirectory { s.directory with lapseList := l })
  /-- The tables are emptied, R23. -/
  | clear {s t : State} (cleared : s.Cleared t) : Edit s t

/-- An edit, or one of the three passes over many records: the lapses of an expiry (R44), the dispute holds that run out
(R51), and the disputes that an ACCEPT ends (R64). -/
inductive Change : State → State → Prop where
  | edit {s t : State} (edit : Edit s t) : Change s t
  | lapses {s : State} : Change s
      ((s.directory.records.filter (fun r => r.ages && r.term == 0)).foldl (fun u r => u.lapseRecord r) s)
  | holds {s : State} : Change s s.countHolds
  | rivals {s : State} (i : Identity) : Change s (s.resolveRival i)

/-- A run of edits. -/
abbrev Edits : State → State → Prop := Relation.ReflTransGen Edit

/-- A run of changes. -/
abbrev Changes : State → State → Prop := Relation.ReflTransGen Change

theorem Edit.edits {s t : State} (h : Edit s t) : Edits s t := .single h

theorem Edits.changes {s t : State} (h : Edits s t) : Changes s t :=
  Relation.ReflTransGen.mono (fun _ _ edit => Change.edit edit) _ _ h

/-- A law kept by every edit is kept by a run of them. -/
theorem Edits.keep {P : State → Prop} (keeps : ∀ {s t}, Edit s t → P s → P t) {s t : State} (h : Edits s t) (hs : P s) :
    P t := by
  induction h with
  | refl => exact hs
  | tail _ hstep ih => exact keeps hstep ih

/-- A law kept by every change is kept by a run of them. -/
theorem Changes.keep {P : State → Prop} (keeps : ∀ {s t}, Change s t → P s → P t) {s t : State} (h : Changes s t)
    (hs : P s) : P t := by
  induction h with
  | refl => exact hs
  | tail _ hstep ih => exact keeps hstep ih

end Sys2Proof.Machine
end

section
/-! SUPPORT. Lists of records at distinct addresses, and the law of the addresses (R24) under an edit. -/

namespace Sys2Proof.Machine

/-! ## Records at distinct addresses -/

theorem State.Placed.sorted {s : State} (h : s.Placed) :
    s.directory.records.Pairwise (fun p q => p.address < q.address) := by
  obtain ⟨-, sorted, -⟩ := h
  exact List.pairwise_map.mp sorted

/-- A record stands alone at its address. -/
theorem State.Placed.split {s : State} {r : Record} (h : s.Placed) (mem : r ∈ s.directory.records) :
    ∃ A B, s.directory.records = A ++ r :: B ∧ ∀ p ∈ A ++ B, p.address ≠ r.address := by
  obtain ⟨A, B, hAB⟩ := List.append_of_mem mem
  refine ⟨A, B, hAB, fun p hp => ?_⟩
  have sorted := h.sorted
  rw [hAB, List.pairwise_append, List.pairwise_cons] at sorted
  obtain ⟨-, ⟨after, -⟩, before⟩ := sorted
  rcases List.mem_append.mp hp with hp | hp
  · exact (before p hp r List.mem_cons_self).ne
  · exact (after p hp).ne'

theorem State.Placed.eq_of_address {s : State} {p r : Record} (h : s.Placed) (hp : p ∈ s.directory.records)
    (hr : r ∈ s.directory.records) (address : p.address = r.address) : p = r := by
  obtain ⟨A, B, hAB, apart⟩ := h.split hr
  rw [hAB] at hp
  rcases List.mem_append.mp hp with hp | hp
  · exact absurd address (apart p (List.mem_append_left _ hp))
  · rcases List.mem_cons.mp hp with rfl | hp
    · rfl
    · exact absurd address (apart p (List.mem_append_right _ hp))

theorem State.Placed.recordAt_eq_some {s : State} {a : Nat} {r : Record} (h : s.Placed) :
    s.recordAt a = some r ↔ r ∈ s.directory.records ∧ r.address = a := by
  refine ⟨State.mem_of_recordAt, fun ⟨hr, ha⟩ => ?_⟩
  cases found : s.recordAt a with
  | none => exact absurd ha (State.recordAt_eq_none.mp found r hr)
  | some p =>
    obtain ⟨hp, hpa⟩ := State.mem_of_recordAt found
    rw [h.eq_of_address hp hr (hpa.trans ha.symm)]

theorem replaceRecord_of_ne {q : Record} {A : List Record} (apart : ∀ p ∈ A, p.address ≠ q.address) :
    replaceRecord q A = A := by
  unfold replaceRecord
  conv_rhs => rw [← List.map_id A]
  exact List.map_congr_left fun p hp => by simp [apart p hp]

/-- Replacing the one record at an address. -/
theorem replaceRecord_split {r q : Record} {A B : List Record} (address : q.address = r.address)
    (apart : ∀ p ∈ A ++ B, p.address ≠ r.address) : replaceRecord q (A ++ r :: B) = A ++ q :: B := by
  have hA := replaceRecord_of_ne (q := q) (A := A) fun p hp => address ▸ apart p (List.mem_append_left _ hp)
  have hB := replaceRecord_of_ne (q := q) (A := B) fun p hp => address ▸ apart p (List.mem_append_right _ hp)
  unfold replaceRecord at hA hB ⊢
  rw [List.map_append, List.map_cons, hA, hB, if_pos address.symm]

/-- Removing the one record at an address. -/
theorem removeRecord_split {r : Record} {A B : List Record} (apart : ∀ p ∈ A ++ B, p.address ≠ r.address) :
    removeRecord r.address (A ++ r :: B) = A ++ B := by
  have h : (A ++ B).filter (fun q => q.address != r.address) = A ++ B :=
    List.filter_eq_self.mpr fun p hp => by simpa using apart p hp
  simpa [removeRecord] using h

theorem map_address_removeRecord (a : Nat) (rs : List Record) :
    (removeRecord a rs).map (fun q => q.address) = (rs.map (fun q => q.address)).filter (fun b => b != a) := by
  simp [removeRecord, List.filter_map, Function.comp_def]

theorem State.mem_addresses {s : State} {a : Nat} : a ∈ s.addresses ↔ ∃ r ∈ s.directory.records, r.address = a := by
  simp [State.addresses]

theorem State.mem_addresses_of_mem {s : State} {r : Record} (mem : r ∈ s.directory.records) :
    r.address ∈ s.addresses := State.mem_addresses.mpr ⟨r, mem, rfl⟩

theorem State.recordAt_eq_none_iff {s : State} {a : Nat} : s.recordAt a = none ↔ a ∉ s.addresses := by
  simp [State.recordAt_eq_none, State.mem_addresses]

theorem addresses_mapRecords {f : Record → Record} (keeps : KeepsIdentity f) (s : State) :
    (s.mapRecords f).addresses = s.addresses := by
  simp [State.addresses, State.mapRecords, Function.comp_def, keeps.address]

/-! ## The addresses of the pool -/

/-- The addresses in the pool. -/
def Pool.addresses (p : Pool) : List Nat := p.free ++ p.quarantine.map (fun q => q.address)

theorem State.places_eq (s : State) : s.places = s.pool.addresses ++ s.addresses := rfl

theorem State.Placed.nodup {s : State} (h : s.Placed) : (s.pool.addresses ++ s.addresses).Nodup := by
  obtain ⟨perm, -, -⟩ := h
  exact perm.nodup_iff.mpr List.nodup_range'

theorem State.Placed.mem_iff {s : State} (h : s.Placed) (a : Nat) :
    a ∈ s.pool.addresses ∨ a ∈ s.addresses ↔ leasable a = true := by
  obtain ⟨perm, -, -⟩ := h
  have h := perm.mem_iff (a := a)
  rw [s.places_eq, List.mem_append, List.mem_range'_1] at h
  rw [h, leasable, Config.lastLeasable, Bool.and_eq_true, decide_eq_true_eq, decide_eq_true_eq]
  omega

theorem State.Placed.leasable_of_mem {s : State} {r : Record} (h : s.Placed) (mem : r ∈ s.directory.records) :
    leasable r.address = true := (h.mem_iff _).mp (.inr (State.mem_addresses_of_mem mem))

/-- The address of a record that may be created is in the pool, and holds no record. -/
theorem State.MayCreate.in_pool {s : State} {r : Record} (may : s.MayCreate r) (h : s.Placed) :
    r.address ∈ s.pool.addresses ∧ r.address ∉ s.addresses := by
  have inPool : r.address ∈ s.pool.addresses := by
    rcases may.place with free | ⟨q, hq, ha⟩ | ⟨hl, none⟩
    · exact List.mem_append_left _ free
    · exact List.mem_append_right _ (List.mem_map.mpr ⟨q, hq, ha⟩)
    · exact ((h.mem_iff _).mpr hl).resolve_right (State.recordAt_eq_none_iff.mp none)
  exact ⟨inPool, List.disjoint_of_nodup_append h.nodup inPool⟩

theorem State.MayCreate.apart {s : State} {r : Record} (may : s.MayCreate r) (h : s.Placed) :
    ∀ q ∈ s.directory.records, q.address ≠ r.address := by
  obtain ⟨-, fresh⟩ := may.in_pool h
  exact State.recordAt_eq_none.mp (State.recordAt_eq_none_iff.mpr fresh)

/-- A member of a list without repeats, put at its head. -/
theorem perm_cons_filter_ne {l : List Nat} {a : Nat} (nodup : l.Nodup) (mem : a ∈ l) :
    l.Perm (a :: l.filter (fun b => b != a)) :=
  (List.perm_cons_erase mem).trans (by rw [nodup.erase_eq_filter])

/-- Taking an address leaves the pool's others. -/
theorem addresses_takeAddress (a : Nat) (s : State) :
    (s.takeAddress a).pool.addresses = s.pool.addresses.filter (fun b => b != a) := by
  simp [State.takeAddress_eq, Pool.addresses, List.filter_map, Function.comp_def]

/-- A returned address joins the pool's. -/
theorem addresses_returnAddress {place : Place} (returns : place ≠ .passedOn) (r : Record) (s : State) :
    (s.returnAddress place r).pool.addresses.Perm (r.address :: s.pool.addresses) := by
  cases place with
  | quarantineTail =>
    rw [State.returnAddress_quarantineTail]
    split
    · simp [Pool.addresses]
    · simp [Pool.addresses, ← List.append_assoc]
  | freeHead => exact .refl _
  | freeTail => simp [State.returnAddress, Pool.addresses]
  | passedOn => exact absurd rfl returns

/-- A returned address waits at least one epoch in quarantine. -/
theorem hold_returnAddress {place : Place} {r : Record} {s : State} (h : ∀ q ∈ s.pool.quarantine, 1 ≤ q.hold) :
    ∀ q ∈ (s.returnAddress place r).pool.quarantine, 1 ≤ q.hold := by
  cases place with
  | quarantineTail =>
    rw [State.returnAddress_quarantineTail]
    split
    · exact h
    · next hold =>
      intro q hq
      rcases List.mem_append.mp hq with hq | hq
      · exact h q hq
      · rw [List.mem_singleton.mp hq]
        exact Nat.one_le_iff_ne_zero.mpr hold
  | freeHead | freeTail | passedOn => exact h

/-! ## The law of the addresses under an edit, R24 -/

theorem State.Placed.congr {s t : State} (h : s.Placed) (pool : t.pool = s.pool)
    (addresses : t.addresses = s.addresses) : t.Placed := by
  unfold State.Placed State.places at *
  rw [pool, addresses]
  exact h

theorem State.Placed.poolPart {s : State} (h : s.Placed) : s.poolPart.Placed := by
  obtain ⟨perm, sorted, -⟩ := h
  refine ⟨List.Perm.trans ?_ perm, sorted, fun q hq => ?_⟩
  · have key : ∀ qs : List QuarantineEntry, ((qs.filter (fun q => q.hold == 0)).map (fun q => q.address)
        ++ (qs.filter (fun q => q.hold != 0)).map (fun q => q.address)).Perm (qs.map (fun q => q.address)) := by
      intro qs
      rw [← List.map_append]
      exact (List.filter_append_perm (fun q : QuarantineEntry => q.hold == 0) qs).map _
    have aged := key (s.pool.quarantine.map (fun q => { q with hold := q.hold - 1 }))
    simp only [List.map_map, Function.comp_def] at aged
    simpa [State.places, State.poolPart, State.addresses, List.append_assoc] using
      (aged.append_left s.pool.free).append_right s.addresses
  · have := (List.mem_filter.mp hq).2
    exact Nat.one_le_iff_ne_zero.mpr (by simpa using this)

theorem State.Placed.create {s : State} {r : Record} (h : s.Placed) (may : s.MayCreate r) :
    ((s.takeAddress r.address).createRecord r).Placed := by
  obtain ⟨inPool, -⟩ := may.in_pool h
  have poolNodup : s.pool.addresses.Nodup := (List.nodup_append.mp h.nodup).1
  have records : ((s.takeAddress r.address).createRecord r).addresses.Perm (r.address :: s.addresses) :=
    (perm_insertRecord r s.directory.records).map _
  have inserted := pairwise_insertRecord r _ h.sorted (may.apart h)
  obtain ⟨perm, -, holds⟩ := h
  refine ⟨List.Perm.trans ?_ perm, ?_, fun q hq => holds q (List.mem_of_mem_filter hq)⟩
  · calc (s.takeAddress r.address).pool.addresses ++ ((s.takeAddress r.address).createRecord r).addresses
        = s.pool.addresses.filter (fun b => b != r.address)
            ++ ((s.takeAddress r.address).createRecord r).addresses := by rw [addresses_takeAddress]
      List.Perm _ (s.pool.addresses.filter (fun b => b != r.address) ++ r.address :: s.addresses) :=
        records.append_left _
      List.Perm _ ((r.address :: s.pool.addresses.filter (fun b => b != r.address)) ++ s.addresses) :=
        List.perm_middle
      List.Perm _ (s.pool.addresses ++ s.addresses) := (perm_cons_filter_ne poolNodup inPool).symm.append_right _
  · exact List.pairwise_map.mpr inserted

/-- The records' addresses when one has ended. -/
theorem State.addresses_endRecord (place : Place) (r : Record) (s : State) :
    (s.endRecord place r).addresses = s.addresses.filter (fun b => b != r.address) := by
  rw [State.endRecord_eq]
  exact map_address_removeRecord _ _

theorem State.Placed.addresses_perm {s : State} {r : Record} (h : s.Placed) (mem : r ∈ s.directory.records) :
    s.addresses.Perm (r.address :: s.addresses.filter (fun b => b != r.address)) :=
  perm_cons_filter_ne h.nodup.of_append_right (State.mem_addresses_of_mem mem)

theorem State.Placed.ends {s : State} {r : Record} {place : Place} (h : s.Placed) (mem : r ∈ s.directory.records)
    (returns : place ≠ .passedOn) : (s.endRecord place r).Placed := by
  have records := h.addresses_perm mem
  obtain ⟨perm, sorted, holds⟩ := h
  refine ⟨List.Perm.trans ?_ perm, ?_, ?_⟩
  · calc (s.endRecord place r).pool.addresses ++ (s.endRecord place r).addresses
        = (s.returnAddress place r).pool.addresses ++ s.addresses.filter (fun b => b != r.address) := by
          rw [State.addresses_endRecord, State.endRecord_eq]
      List.Perm _ ((r.address :: s.pool.addresses) ++ s.addresses.filter (fun b => b != r.address)) :=
        (addresses_returnAddress returns r s).append_right _
      List.Perm _ (s.pool.addresses ++ r.address :: s.addresses.filter (fun b => b != r.address)) :=
        List.perm_middle.symm
      List.Perm _ (s.pool.addresses ++ s.addresses) := records.symm.append_left _
  · rw [State.addresses_endRecord]
    exact sorted.filter _
  · rw [State.endRecord_eq]
    exact hold_returnAddress holds

theorem State.endRecord_passedOn_pool (r : Record) (s : State) : (s.endRecord .passedOn r).pool = s.pool := by
  rw [State.endRecord_eq]
  rfl

theorem State.Placed.supplant {s : State} {r q : Record} (h : s.Placed) (mem : r ∈ s.directory.records)
    (address : q.address = r.address) : ((s.endRecord .passedOn r).createRecord q).Placed := by
  have records := h.addresses_perm mem
  have inserted : ((s.endRecord .passedOn r).createRecord q).addresses.Perm
      (q.address :: (s.endRecord .passedOn r).addresses) := (perm_insertRecord q _).map _
  have pool : ((s.endRecord .passedOn r).createRecord q).pool = s.pool := s.endRecord_passedOn_pool r
  have sorted : (s.endRecord .passedOn r).directory.records.Pairwise (fun p q => p.address < q.address) := by
    rw [State.endRecord_eq]
    exact h.sorted.filter _
  obtain ⟨perm, -, holds⟩ := h
  refine ⟨List.Perm.trans ?_ perm, ?_, ?_⟩
  · rw [State.places_eq, State.places_eq, pool]
    rw [address, State.addresses_endRecord] at inserted
    exact (inserted.trans records.symm).append_left _
  · refine List.pairwise_map.mpr (pairwise_insertRecord q _ sorted fun p hp => ?_)
    rw [State.endRecord_eq] at hp
    rw [address]
    exact ((mem_removeRecord _ _ _).mp hp).2
  · rw [pool]
    exact holds

theorem edit_keeps_placed {s t : State} (h : Edit s t) (hs : s.Placed) : t.Placed := by
  cases h with
  | aside same => exact hs.congr same.pool same.addresses
  | tune | note | collect | shrink | grow | aim | release => exact hs.congr rfl rfl
  | pool => exact hs.poolPart
  | map keeps => exact hs.congr rfl (addresses_mapRecords keeps s)
  | replace => exact hs.congr rfl (map_address_replaceRecord _ _)
  | create may => exact hs.create may
  | ends mem returns => exact hs.ends mem returns
  | supplant mem may => exact hs.supplant mem may.address
  | clear cleared =>
    have records : t.addresses = [] := by simp [State.addresses, cleared.records]
    unfold State.Placed State.places
    rw [cleared.pool, records]
    simp [Pool.reset]

end Sys2Proof.Machine
end

section
/-! SUPPORT. The other laws of the tables under an edit: the identities (R4), the fields of the records (R1, R2, R13),
the limits (R5), the lapse list (R21), the marks (R18) and the member lists (R132, R133). -/

namespace Sys2Proof.Machine

/-! ## The records after an edit that touches one address -/

theorem State.Placed.replaced {s : State} {r q : Record} (h : s.Placed) (mem : r ∈ s.directory.records)
    (address : q.address = r.address) :
    ∃ rest, s.directory.records.Perm (r :: rest) ∧ (replaceRecord q s.directory.records).Perm (q :: rest)
      ∧ ∀ p ∈ rest, p.address ≠ r.address := by
  obtain ⟨A, B, hAB, apart⟩ := h.split mem
  refine ⟨A ++ B, ?_, ?_, apart⟩
  · rw [hAB]
    exact List.perm_middle
  · rw [hAB, replaceRecord_split address apart]
    exact List.perm_middle

theorem State.Placed.removed {s : State} {r : Record} (h : s.Placed) (mem : r ∈ s.directory.records) :
    ∃ rest, s.directory.records.Perm (r :: rest) ∧ removeRecord r.address s.directory.records = rest
      ∧ ∀ p ∈ rest, p.address ≠ r.address := by
  obtain ⟨A, B, hAB, apart⟩ := h.split mem
  refine ⟨A ++ B, ?_, ?_, apart⟩
  · rw [hAB]
    exact List.perm_middle
  · rw [hAB, removeRecord_split apart]

theorem State.records_endRecord (place : Place) (r : Record) (s : State) :
    (s.endRecord place r).directory.records = removeRecord r.address s.directory.records := by
  rw [State.endRecord_eq]

theorem State.records_supplant (r q : Record) (s : State) :
    ((s.endRecord .passedOn r).createRecord q).directory.records
      = insertRecord q (removeRecord r.address s.directory.records) := by
  rw [← State.records_endRecord .passedOn]
  rfl

/-! ## Identities, R4 -/

theorem State.Identified.congr {s t : State} (h : s.Identified) (records : t.directory.records = s.directory.records) :
    t.Identified := by
  unfold State.Identified at *
  rw [records]
  exact h

/-- Where an identity is recorded, when it is recorded at one address at most. -/
theorem State.Identified.address_eq {s : State} {i : Identity} {a : Nat} {p : Record} (h : s.Identified)
    (unique : s.HeldOnlyAt i a) (mem : p ∈ s.directory.records) (identity : p.identity = i) : p.address = a := by
  obtain ⟨nodup, -⟩ := h
  cases found : s.recordOf i with
  | none => exact absurd identity (State.recordOf_eq_none.mp found p mem)
  | some r =>
    obtain ⟨hr, hi⟩ := State.mem_of_recordOf found
    rw [List.inj_on_of_nodup_map nodup mem hr (identity.trans hi.symm)]
    exact unique r found

/-- One record in the place of another keeps the identities distinct and valid. -/
theorem State.Identified.swap {s t : State} {r q : Record} {rest : List Record} (h : s.Identified)
    (before : s.directory.records.Perm (r :: rest)) (after : t.directory.records.Perm (q :: rest))
    (apart : ∀ p ∈ rest, p.address ≠ r.address)
    (unique : q.identity = r.identity ∨ s.HeldOnlyAt q.identity r.address)
    (named : validIdentity q.identity = true ∧ q.rivalFits = true) : t.Identified := by
  have other : ∀ p ∈ rest, p ∈ s.directory.records := fun p hp => before.mem_iff.mpr (List.mem_cons_of_mem _ hp)
  have nodup := (before.map (fun p => p.identity)).nodup_iff.mp h.1
  rw [List.map_cons, List.nodup_cons] at nodup
  obtain ⟨fresh, nodup⟩ := nodup
  constructor
  · rw [(after.map (fun p => p.identity)).nodup_iff, List.map_cons, List.nodup_cons]
    refine ⟨fun hq => ?_, nodup⟩
    rcases unique with same | unique
    · exact fresh (same ▸ hq)
    · obtain ⟨p, hp, hi⟩ := List.mem_map.mp hq
      exact apart p hp (h.address_eq unique (other p hp) hi)
  · intro p hp
    rcases List.mem_cons.mp (after.mem_iff.mp hp) with rfl | hp
    · exact named
    · exact h.2 p (other p hp)

theorem State.Identified.create {s : State} {r : Record} (h : s.Identified) (may : s.MayCreate r) :
    ((s.takeAddress r.address).createRecord r).Identified := by
  obtain ⟨nodup, named⟩ := h
  constructor
  · refine ((perm_insertRecord r s.directory.records).map (fun p => p.identity)).nodup_iff.mpr ?_
    rw [List.map_cons, List.nodup_cons]
    refine ⟨fun hr => ?_, nodup⟩
    obtain ⟨p, hp, hi⟩ := List.mem_map.mp hr
    exact State.recordOf_eq_none.mp may.new p hp hi
  · intro p hp
    rcases (mem_insertRecord r p _).mp hp with rfl | hp
    · exact may.named
    · exact named p hp

theorem State.Identified.ends {s : State} (h : s.Identified) (place : Place) (r : Record) :
    (s.endRecord place r).Identified := by
  obtain ⟨nodup, named⟩ := h
  unfold State.Identified
  rw [State.records_endRecord]
  exact ⟨(List.filter_sublist.map _).nodup nodup, fun p hp => named p (List.mem_of_mem_filter hp)⟩

theorem State.Identified.map {s : State} {f : Record → Record} (h : s.Identified) (keeps : KeepsIdentity f) :
    (s.mapRecords f).Identified := by
  obtain ⟨nodup, named⟩ := h
  refine ⟨by simpa [State.mapRecords, Function.comp_def, keeps.identity] using nodup, fun p hp => ?_⟩
  obtain ⟨r, hr, rfl⟩ := List.mem_map.mp hp
  simpa [Record.rivalFits, keeps.identity, keeps.state, keeps.rival] using named r hr

theorem edit_keeps_identified {s t : State} (h : Edit s t) (placed : s.Placed) (hs : s.Identified) : t.Identified := by
  cases h with
  | aside same => exact hs.congr same.records
  | tune | note | collect | shrink | grow | pool | aim | release => exact hs.congr rfl
  | map keeps => exact hs.map keeps
  | replace mem may =>
    obtain ⟨rest, before, after, apart⟩ := placed.replaced mem may.address
    obtain ⟨valid, rival⟩ := hs.2 _ mem
    exact hs.swap before after apart may.unique (may.named valid rival)
  | create may => exact hs.create may
  | ends => exact hs.ends _ _
  | supplant mem may =>
    obtain ⟨rest, before, after, apart⟩ := placed.removed mem
    refine hs.swap before ?_ apart (.inr may.unique) may.named
    rw [State.records_supplant, after]
    exact perm_insertRecord _ _
  | clear cleared =>
    unfold State.Identified
    simp [cleared.records]

/-! ## The fields of the records, R1, R2 and R13 -/

theorem State.shaped_iff {s : State} : s.Shaped ↔ ∀ r ∈ s.directory.records, r.fits = true := by
  simp [State.Shaped, Record.fits]

/-- The records fit their states, and the parameters their ranges. -/
def State.Fitted (s : State) : Prop := s.Ranged ∧ ∀ r ∈ s.directory.records, r.fits = true

theorem State.Fitted.congr {s t : State} (h : s.Fitted) (records : t.directory.records = s.directory.records)
    (params : t.params = s.params) : t.Fitted := by
  unfold State.Fitted State.Ranged at *
  rw [records, params]
  exact h

theorem edit_keeps_fitted {s t : State} (h : Edit s t) (hs : s.Fitted) : t.Fitted := by
  obtain ⟨ranged, fits⟩ := id hs
  cases h with
  | aside same => exact hs.congr same.records same.params
  | note | collect | shrink | grow | pool | aim | release => exact hs.congr rfl rfl
  | tune inRange => exact ⟨inRange ranged, fits⟩
  | map keeps mapFits =>
    refine ⟨ranged, fun p hp => ?_⟩
    obtain ⟨r, hr, rfl⟩ := List.mem_map.mp hp
    exact mapFits r (fits r hr)
  | replace mem may =>
    refine ⟨ranged, fun p hp => ?_⟩
    rcases (mem_replaceRecord _ p _).mp hp with ⟨hp, -⟩ | ⟨rfl, -⟩
    · exact fits p hp
    · exact may.fits ranged (fits _ mem)
  | create may =>
    refine ⟨ranged, fun p hp => ?_⟩
    rcases (mem_insertRecord _ p _).mp hp with rfl | hp
    · exact may.fits ranged
    · exact fits p hp
  | @ends r place mem =>
    rw [State.endRecord_eq]
    exact ⟨ranged, fun p hp => fits p (List.mem_of_mem_filter hp)⟩
  | @supplant r q mem may =>
    rw [State.endRecord_eq]
    refine ⟨ranged, fun p hp => ?_⟩
    rcases (mem_insertRecord _ p _).mp hp with rfl | hp
    · exact may.fits ranged
    · exact fits p (List.mem_of_mem_filter hp)
  | clear cleared => exact ⟨cleared.params ranged, by simp [cleared.records]⟩

/-! ## The limits, R5 -/

theorem State.WithinLimits.congr {s t : State} (h : s.WithinLimits)
    (records : t.directory.records = s.directory.records) : t.WithinLimits := by
  unfold State.WithinLimits State.countIn at *
  rw [records]
  exact h

/-- The records in a state, counted over any order of them. -/
theorem State.countIn_eq {s : State} {rs : List Record} (x : RecordState) (perm : s.directory.records.Perm rs) :
    s.countIn x = (rs.filter (fun r => r.state == x)).length := (perm.filter _).length_eq

/-- One record in the place of another adds an offer only where there is room for one. -/
theorem State.WithinLimits.swap {s t : State} {r q : Record} {rest : List Record} (h : s.WithinLimits)
    (before : s.directory.records.Perm (r :: rest)) (after : t.directory.records.Perm (q :: rest))
    (offers : q.state = .offered → r.state = .offered ∨ s.countIn .offered < Config.maxOffered) : t.WithinLimits := by
  obtain ⟨room, four⟩ := h
  constructor
  · rw [after.length_eq]
    rw [before.length_eq] at room
    exact room
  · rw [t.countIn_eq _ after]
    rw [s.countIn_eq _ before] at four offers
    by_cases hq : q.state = .offered <;> by_cases hr : r.state = .offered <;>
      simp only [List.filter_cons, hq, hr, beq_self_eq_true, beq_iff_eq, if_true, if_false, List.length_cons,
        false_or, forall_const] at four offers ⊢ <;> omega

theorem State.WithinLimits.create {s : State} {r : Record} (h : s.WithinLimits) (may : s.MayCreate r) :
    ((s.takeAddress r.address).createRecord r).WithinLimits := by
  have after : ((s.takeAddress r.address).createRecord r).directory.records.Perm (r :: s.directory.records) :=
    perm_insertRecord r s.directory.records
  obtain ⟨-, four⟩ := h
  have offers := may.offers
  unfold State.WithinLimits
  rw [after.length_eq, State.countIn_eq _ after]
  refine ⟨may.room, ?_⟩
  unfold State.countIn at four offers
  by_cases hr : r.state = .offered <;> simp only [List.filter_cons, hr, beq_self_eq_true, beq_iff_eq, if_true,
    if_false, List.length_cons, forall_const] at four offers ⊢ <;> omega

theorem State.WithinLimits.ends {s : State} (h : s.WithinLimits) (place : Place) (r : Record) :
    (s.endRecord place r).WithinLimits := by
  obtain ⟨room, four⟩ := h
  unfold State.WithinLimits State.countIn at *
  rw [State.records_endRecord]
  have sub : (removeRecord r.address s.directory.records).Sublist s.directory.records := List.filter_sublist
  exact ⟨sub.length_le.trans room, (sub.filter _).length_le.trans four⟩

theorem State.WithinLimits.map {s : State} {f : Record → Record} (h : s.WithinLimits) (keeps : KeepsIdentity f) :
    (s.mapRecords f).WithinLimits := by
  unfold State.WithinLimits State.countIn State.mapRecords at *
  simpa [List.filter_map, Function.comp_def, keeps.state] using h

theorem edit_keeps_withinLimits {s t : State} (h : Edit s t) (placed : s.Placed) (hs : s.WithinLimits) :
    t.WithinLimits := by
  cases h with
  | aside same => exact hs.congr same.records
  | tune | note | collect | shrink | grow | pool | aim | release => exact hs.congr rfl
  | map keeps => exact hs.map keeps
  | replace mem may =>
    obtain ⟨rest, before, after, -⟩ := placed.replaced mem may.address
    exact hs.swap before after may.offers
  | create may => exact hs.create may
  | ends => exact hs.ends _ _
  | supplant mem may =>
    obtain ⟨rest, before, after, -⟩ := placed.removed mem
    refine hs.swap before ?_ fun offered => absurd offered may.settled.1
    rw [State.records_supplant, after]
    exact perm_insertRecord _ _
  | clear cleared =>
    unfold State.WithinLimits State.countIn
    simp [cleared.records]

/-! ## The lapse list, R21 -/

theorem State.awaitsProbe_iff {s : State} {r : Record} :
    s.awaitsProbe r = true ↔ r.state = .lapsed ∧ s.target ≠ some (r.address, r.identity) := by
  rw [ne_eq, ← State.isTarget_iff]
  simp [State.awaitsProbe]

theorem State.lapseListed_iff {s : State} :
    s.LapseListed ↔ s.directory.lapseList.Nodup ∧ ∀ a, a ∈ s.directory.lapseList ↔
      ∃ r, r.address = a ∧ r ∈ s.directory.records ∧ s.awaitsProbe r = true := by
  unfold State.LapseListed
  refine and_congr_right fun _ => ⟨fun ⟨only, all⟩ a => ⟨fun ha => ?_, ?_⟩,
    fun h => ⟨fun a ha => ?_, fun r hr aw => ?_⟩⟩
  · obtain ⟨r, hr, rfl, aw⟩ := only a ha
    exact ⟨r, rfl, hr, aw⟩
  · rintro ⟨r, rfl, hr, aw⟩
    exact all r hr aw
  · obtain ⟨r, rfl, hr, aw⟩ := (h a).mp ha
    exact ⟨r, hr, rfl, aw⟩
  · exact (h r.address).mpr ⟨r, rfl, hr, aw⟩

theorem State.LapseListed.congr {s t : State} (h : s.LapseListed) (records : t.directory.records = s.directory.records)
    (list : t.directory.lapseList = s.directory.lapseList) (target : t.target = s.target) : t.LapseListed := by
  rw [State.lapseListed_iff] at *
  simpa only [State.awaitsProbe_iff, records, list, target] using h

theorem State.LapseListed.awaits_of_mem {s : State} {a : Nat} (h : s.LapseListed) (listed : a ∈ s.directory.lapseList) :
    ∃ r ∈ s.directory.records, r.address = a ∧ s.awaitsProbe r = true := by
  obtain ⟨-, sound, -⟩ := h
  exact sound a listed

/-- A record that awaits no probe is not listed. -/
theorem State.LapseListed.not_mem {s : State} {r : Record} (h : s.LapseListed) (placed : s.Placed)
    (mem : r ∈ s.directory.records) (live : s.awaitsProbe r ≠ true) : r.address ∉ s.directory.lapseList := by
  intro listed
  obtain ⟨p, hp, address, awaits⟩ := h.awaits_of_mem listed
  exact live (placed.eq_of_address hp mem address ▸ awaits)

/-- The law after a change at one address x: beside x the list and who awaits a probe are as before, and x is listed as
the law asks. -/
theorem State.LapseListed.of_one_address {s t : State} (x : Nat) (h : s.LapseListed)
    (nodup : t.directory.lapseList.Nodup)
    (list : ∀ a, a ≠ x → (a ∈ t.directory.lapseList ↔ a ∈ s.directory.lapseList))
    (others : ∀ p, p.address ≠ x → ((p ∈ t.directory.records ∧ t.awaitsProbe p = true) ↔
      (p ∈ s.directory.records ∧ s.awaitsProbe p = true)))
    (here : x ∈ t.directory.lapseList ↔
      ∃ r, r.address = x ∧ r ∈ t.directory.records ∧ t.awaitsProbe r = true) : t.LapseListed := by
  rw [State.lapseListed_iff] at *
  refine ⟨nodup, fun a => ?_⟩
  by_cases ha : a = x
  · rw [ha]
    exact here
  · rw [list a ha, h.2 a]
    refine exists_congr fun p => and_congr_right fun hp => ?_
    exact (others p (hp ▸ ha)).symm

/-- The one record at x decides whether the law lists x. -/
theorem exists_awaits_iff {t : State} {q : Record} {rest : List Record} {x : Nat}
    (records : t.directory.records.Perm (q :: rest)) (address : q.address = x)
    (apart : ∀ p ∈ rest, p.address ≠ x) :
    (∃ r, r.address = x ∧ r ∈ t.directory.records ∧ t.awaitsProbe r = true) ↔ t.awaitsProbe q = true := by
  constructor
  · rintro ⟨r, hr, mem, awaits⟩
    rcases List.mem_cons.mp (records.mem_iff.mp mem) with rfl | mem
    · exact awaits
    · exact absurd hr (apart r mem)
  · intro awaits
    exact ⟨q, address, records.mem_iff.mpr List.mem_cons_self, awaits⟩

/-- The members beside x, when one record stands in the place of another there. -/
theorem mem_iff_of_swap {rs rs' rest : List Record} {r q : Record} {x : Nat} (before : rs.Perm (r :: rest))
    (after : rs'.Perm (q :: rest)) (hr : r.address = x) (hq : q.address = x) (p : Record) (hp : p.address ≠ x) :
    p ∈ rs' ↔ p ∈ rs := by
  have h1 : p ≠ r := fun e => hp (e ▸ hr)
  have h2 : p ≠ q := fun e => hp (e ▸ hq)
  rw [before.mem_iff, after.mem_iff, List.mem_cons, List.mem_cons]
  simp [h1, h2]

/-- The law after one record takes the place of another, R21 and R22. -/
theorem State.LapseListed.swap {s t : State} {r q : Record} {rest : List Record} (h : s.LapseListed)
    (before : s.directory.records.Perm (r :: rest)) (after : t.directory.records.Perm (q :: rest))
    (apart : ∀ p ∈ rest, p.address ≠ r.address) (address : q.address = r.address) (target : t.target = s.target)
    (relists : s.Relists r q t.directory.lapseList) : t.LapseListed := by
  have listed : r.address ∈ s.directory.lapseList ↔ s.awaitsProbe r = true :=
    ((State.lapseListed_iff.mp h).2 _).trans (exists_awaits_iff before rfl apart)
  have awaits : t.awaitsProbe q = true ↔ q.state = .lapsed ∧ s.target ≠ some (r.address, q.identity) := by
    rw [State.awaitsProbe_iff, target, address]
  have others : ∀ p : Record, p.address ≠ r.address → ((p ∈ t.directory.records ∧ t.awaitsProbe p = true) ↔
      (p ∈ s.directory.records ∧ s.awaitsProbe p = true)) := fun p hp => by
    rw [mem_iff_of_swap before after rfl address p hp, State.awaitsProbe_iff, State.awaitsProbe_iff, target]
  have nodup := h.1
  generalize list : t.directory.lapseList = l at relists
  refine h.of_one_address r.address ?_ ?_ others ((Iff.of_eq ?_).trans (exists_awaits_iff after address apart).symm)
  all_goals rw [list]
  · cases relists with
    | kept => exact nodup
    | dropped => exact nodup.filter _
    | lapses live =>
      split
      · exact nodup
      · exact List.nodup_append.mpr ⟨nodup, List.nodup_singleton _, fun a ha b hb => by
          rw [List.mem_singleton.mp hb]
          rintro rfl
          exact live (State.awaitsProbe_iff.mp (listed.mp ha)).1⟩
  · intro a ha
    cases relists with
    | kept => exact Iff.rfl
    | dropped => simp [ha]
    | lapses => split <;> simp [ha]
  · rw [eq_iff_iff, awaits]
    cases relists with
    | kept lapsed identity => rw [listed, State.awaitsProbe_iff, lapsed, identity]
    | dropped lapsed => simp [lapsed]
    | lapses live lapsed identity =>
      have absent : r.address ∉ s.directory.lapseList := fun ha => live (State.awaitsProbe_iff.mp (listed.mp ha)).1
      by_cases aimed : s.isTarget r = true
      · simp [aimed, absent, identity, (s.isTarget_iff r).mp aimed]
      · have : s.target ≠ some (r.address, r.identity) := fun e => aimed ((s.isTarget_iff r).mpr e)
        simp [aimed, lapsed, identity, this]

theorem State.LapseListed.map {s : State} {f : Record → Record} (h : s.LapseListed) (keeps : KeepsIdentity f) :
    (s.mapRecords f).LapseListed := by
  have awaits : ∀ r, (s.mapRecords f).awaitsProbe (f r) = s.awaitsProbe r := fun r => by
    rw [Bool.eq_iff_iff, State.awaitsProbe_iff, State.awaitsProbe_iff, keeps.state, keeps.address, keeps.identity]
    exact Iff.rfl
  obtain ⟨nodup, only, all⟩ := h
  refine ⟨nodup, fun a ha => ?_, fun p hp aw => ?_⟩
  · obtain ⟨r, hr, rfl, aw⟩ := only a ha
    exact ⟨f r, List.mem_map_of_mem hr, keeps.address r, (awaits r).trans aw⟩
  · obtain ⟨r, hr, rfl⟩ := List.mem_map.mp hp
    rw [keeps.address]
    exact all r hr ((awaits r).symm.trans aw)

theorem State.LapseListed.create {s : State} {r : Record} (h : s.LapseListed) (placed : s.Placed)
    (may : s.MayCreate r) : ((s.takeAddress r.address).createRecord r).LapseListed := by
  have live : ∀ t : State, t.awaitsProbe r ≠ true := fun t aw => may.live (State.awaitsProbe_iff.mp aw).1
  have member : ∀ p, p ∈ ((s.takeAddress r.address).createRecord r).directory.records ↔
      p = r ∨ p ∈ s.directory.records := fun p => mem_insertRecord r p s.directory.records
  refine h.of_one_address r.address h.1 (fun a _ => Iff.rfl) (fun p hp => ?_) ⟨fun listed => ?_, ?_⟩
  · rw [member]
    have : p ≠ r := fun e => hp (e ▸ rfl)
    simp [this, State.awaitsProbe_iff, State.target, State.createRecord_eq, State.takeAddress_eq]
  · obtain ⟨p, hp, address, -⟩ := h.awaits_of_mem listed
    exact absurd address (may.apart placed p hp)
  · rintro ⟨p, hp, mem, aw⟩
    rcases (member p).mp mem with rfl | mem
    · exact absurd aw (live _)
    · exact absurd hp (may.apart placed p mem)

theorem State.LapseListed.ends {s : State} (h : s.LapseListed) (place : Place) (r : Record) :
    (s.endRecord place r).LapseListed := by
  rw [State.endRecord_eq]
  refine h.of_one_address r.address (h.1.filter _) (fun a ha => by simp [ha]) (fun p hp => ?_) ?_
  · simp [mem_removeRecord, hp, State.awaitsProbe_iff, State.target]
  · refine iff_of_false (by simp) ?_
    rintro ⟨p, hp, mem, -⟩
    exact ((mem_removeRecord _ _ _).mp mem).2 hp

theorem State.LapseListed.supplant {s : State} {r q : Record} (h : s.LapseListed) (address : q.address = r.address)
    (live : q.state ≠ .lapsed) : ((s.endRecord .passedOn r).createRecord q).LapseListed := by
  have ended := h.ends .passedOn r
  have member : ∀ p, p ∈ ((s.endRecord .passedOn r).createRecord q).directory.records ↔
      p = q ∨ p ∈ (s.endRecord .passedOn r).directory.records := fun p => mem_insertRecord q p _
  have absent : ∀ p ∈ (s.endRecord .passedOn r).directory.records, p.address ≠ r.address := fun p hp => by
    rw [State.records_endRecord] at hp
    exact ((mem_removeRecord _ _ _).mp hp).2
  refine ended.of_one_address r.address ended.1 (fun a _ => Iff.rfl) (fun p hp => ?_) ⟨fun listed => ?_, ?_⟩
  · rw [member]
    have : p ≠ q := fun e => hp (e ▸ address)
    simp [this, State.awaitsProbe_iff, State.target, State.createRecord_eq]
  · obtain ⟨p, hp, hpr, -⟩ := ended.awaits_of_mem listed
    exact absurd hpr (absent p hp)
  · rintro ⟨p, hp, mem, aw⟩
    rcases (member p).mp mem with rfl | mem
    · exact absurd (State.awaitsProbe_iff.mp aw).1 live
    · exact absurd hp (absent p mem)

/-- A record taken as target stands in no list (R22). -/
theorem State.LapseListed.aim {s : State} {r : Record} {c : ProbeContext} {l : List Nat} (h : s.LapseListed)
    (placed : s.Placed) (mem : r ∈ s.directory.records) (idle : s.prober.context = none)
    (address : c.target = r.address) (identity : c.identity = r.identity)
    (leaves : l = s.directory.lapseList.filter (fun b => b != r.address)
      ∨ (r.state ≠ .lapsed ∧ l = s.directory.lapseList)) :
    ((s.setDirectory { s.directory with lapseList := l }).setProber
      { s.prober with context := some c }).LapseListed := by
  have before : s.target = none := by simp [State.target, idle]
  have absent : r.address ∉ l := by
    rcases leaves with rfl | ⟨live, rfl⟩
    · simp
    · exact h.not_mem placed mem fun aw => live (State.awaitsProbe_iff.mp aw).1
  generalize after : (s.setDirectory { s.directory with lapseList := l }).setProber
    { s.prober with context := some c } = t
  have target : t.target = some (r.address, r.identity) := by simp [← after, State.target, address, identity]
  have records : t.directory.records = s.directory.records := by simp [← after]
  have list : t.directory.lapseList = l := by simp [← after]
  refine h.of_one_address r.address ?_ (fun a ha => ?_) (fun p hp => ?_) ?_
  · rw [list]
    rcases leaves with rfl | ⟨-, rfl⟩
    · exact h.1.filter _
    · exact h.1
  · rw [list]
    rcases leaves with rfl | ⟨-, rfl⟩
    · simp [ha]
    · exact Iff.rfl
  · simp [State.awaitsProbe_iff, records, target, before, Ne.symm hp]
  · rw [list, iff_false_intro absent, false_iff]
    rintro ⟨p, hp, hmem, aw⟩
    rw [records] at hmem
    rw [placed.eq_of_address hmem mem hp] at aw
    exact (State.awaitsProbe_iff.mp aw).2 target

/-- A target still LAPSED when its probe ends goes back to the list (R98). -/
theorem State.LapseListed.release {s : State} {a : Nat} {i : Identity} {l : List Nat} (h : s.LapseListed)
    (placed : s.Placed) (aimed : s.target = some (a, i)) (releases : s.Releases a i l) :
    (s.emptyContext.setDirectory { s.directory with lapseList := l }).LapseListed := by
  have before : ∀ p : Record, s.awaitsProbe p = true ↔ p.state = .lapsed ∧ ¬ (p.address = a ∧ p.identity = i) := by
    intro p
    rw [State.awaitsProbe_iff, aimed]
    refine and_congr_right fun _ => not_congr ?_
    simp only [Option.some.injEq, Prod.mk.injEq]
    exact and_congr eq_comm eq_comm
  have after : ∀ p : Record, (s.emptyContext.setDirectory { s.directory with lapseList := l }).awaitsProbe p = true ↔
      p.state = .lapsed := fun p => by
    simp [State.awaitsProbe_iff, State.target, State.emptyContext_eq]
  have listed := (State.lapseListed_iff.mp h).2
  refine h.of_one_address a ?_ (fun b hb => ?_) (fun p hp => ?_) ?_
  · cases releases with
    | @tail r found identity lapsed | @head r found identity lapsed =>
      obtain ⟨mem, address⟩ := State.mem_of_recordAt found
      have absent := h.not_mem placed mem fun aw => ((before r).mp aw).2 ⟨address, identity⟩
      rw [address] at absent
      have nodup : (a :: s.directory.lapseList).Nodup := List.nodup_cons.mpr ⟨absent, h.1⟩
      simpa [(List.perm_append_singleton a s.directory.lapseList).nodup_iff] using nodup
    | kept => exact h.1
  · cases releases <;> simp [hb]
  · rw [after, before]
    simp [hp]
  · simp only [after]
    cases releases with
    | @tail r found identity lapsed | @head r found identity lapsed =>
      obtain ⟨mem, address⟩ := State.mem_of_recordAt found
      simp only [State.setDirectory_directory, List.mem_append, List.mem_cons, List.not_mem_nil, or_false, or_true,
        true_or, true_iff]
      exact ⟨r, address, mem, lapsed⟩
    | kept other =>
      refine (listed a).trans (exists_congr fun p => and_congr_right fun hp => and_congr_right fun mem => ?_)
      rw [before]
      refine and_iff_left_of_imp fun lapsed same => ?_
      exact other p (placed.recordAt_eq_some.mpr ⟨mem, hp⟩) same.2 lapsed

theorem edit_keeps_lapseListed {s t : State} (h : Edit s t) (placed : s.Placed) (hs : s.LapseListed) :
    t.LapseListed := by
  cases h with
  | aside same => exact hs.congr same.records same.lapseList same.target
  | tune | note | collect | shrink | grow | pool => exact hs.congr rfl rfl rfl
  | map keeps => exact hs.map keeps
  | replace mem may relists =>
    obtain ⟨rest, before, after, apart⟩ := placed.replaced mem may.address
    exact hs.swap before after apart may.address rfl relists
  | create may => exact hs.create placed may
  | ends => exact hs.ends _ _
  | supplant mem may => exact hs.supplant may.address may.settled.2
  | aim mem idle address identity leaves => exact hs.aim placed mem idle address identity leaves
  | release aimed releases => exact hs.release placed aimed releases
  | clear cleared =>
    unfold State.LapseListed
    simp [cleared.records, cleared.lapseList]

end Sys2Proof.Machine
end

section
/-! SUPPORT. The laws of the marks (R18) and of the member lists (R132, R133) under an edit. -/

namespace Sys2Proof.Machine

/-! ## Setting one mark -/

theorem mem_insertMark (a : Nat) (m : Mark) (p : Nat × Mark) (ms : List (Nat × Mark)) :
    p ∈ insertMark a m ms ↔ p = (a, m) ∨ p ∈ ms := by
  induction ms with
  | nil => simp [insertMark]
  | cons q qs ih =>
    unfold insertMark
    split
    · exact List.mem_cons
    · rw [List.mem_cons, List.mem_cons, ih]
      exact or_left_comm

theorem mem_setMark (a : Nat) (m : Mark) (p : Nat × Mark) (ms : List (Nat × Mark)) :
    p ∈ setMark a m ms ↔ (p = (a, m) ∧ m ≠ .clean) ∨ (p ∈ ms ∧ p.1 ≠ a) := by
  unfold setMark
  by_cases hm : m = .clean <;> simp [hm, mem_insertMark]

theorem pairwise_insertMark (a : Nat) (m : Mark) (ms : List (Nat × Mark)) (sorted : ms.Pairwise (fun p q => p.1 < q.1))
    (apart : ∀ p ∈ ms, p.1 ≠ a) : (insertMark a m ms).Pairwise (fun p q => p.1 < q.1) := by
  induction ms with
  | nil => simp [insertMark]
  | cons q qs ih =>
    obtain ⟨first, rest⟩ := List.pairwise_cons.mp sorted
    unfold insertMark
    split
    · next before =>
      refine List.pairwise_cons.mpr ⟨fun p hp => ?_, sorted⟩
      rcases List.mem_cons.mp hp with rfl | hp
      · exact before
      · exact before.trans (first p hp)
    · next after =>
      refine List.pairwise_cons.mpr ⟨fun p hp => ?_, ih rest fun p hp => apart p (List.mem_cons_of_mem _ hp)⟩
      rcases (mem_insertMark a m p qs).mp hp with rfl | hp
      · exact lt_of_le_of_ne (Nat.le_of_not_lt after) (apart q List.mem_cons_self)
      · exact first p hp

theorem pairwise_setMark (a : Nat) (m : Mark) (ms : List (Nat × Mark)) (sorted : ms.Pairwise (fun p q => p.1 < q.1)) :
    (setMark a m ms).Pairwise (fun p q => p.1 < q.1) := by
  unfold setMark
  dsimp only
  split
  · exact sorted.filter _
  · exact pairwise_insertMark a m _ (sorted.filter _) (by simp)

theorem State.mem_of_markOf {s : State} {a : Nat} (h : s.markOf a ≠ .clean) : (a, s.markOf a) ∈ s.directory.marks := by
  unfold State.markOf markIn at *
  cases found : s.directory.marks.find? (fun p => p.1 == a) with
  | none => simp [found] at h
  | some p =>
    have address : p.1 = a := by simpa using List.find?_some found
    rw [← address]
    exact List.mem_of_find?_eq_some found

/-! ## The marks, R18 -/

theorem State.Marked.congr {s t : State} (h : s.Marked) (marks : t.directory.marks = s.directory.marks)
    (addresses : ∀ a, a ∈ t.addresses ↔ a ∈ s.addresses) : t.Marked := by
  unfold State.Marked at *
  simpa only [marks, addresses] using h

theorem State.Marked.removed_iff {s : State} {a : Nat} (h : s.Marked) (listed : (a, s.markOf a) ∈ s.directory.marks) :
    s.markOf a = .removed ↔ a ∉ s.addresses := by
  obtain ⟨-, each⟩ := h
  obtain ⟨-, -, iff⟩ := each _ listed
  exact iff

theorem State.Marked.held {s : State} {a : Nat} (h : s.Marked) (ha : a ∈ s.addresses) : s.markOf a ≠ .removed := by
  intro removed
  have listed := State.mem_of_markOf (s := s) (a := a) (by simp [removed])
  exact (h.removed_iff listed).mp removed ha

theorem State.Marked.unheld {s : State} {a : Nat} (h : s.Marked) (ha : a ∉ s.addresses) :
    s.markOf a = .clean ∨ s.markOf a = .removed := by
  by_cases clean : s.markOf a = .clean
  · exact .inl clean
  · exact .inr ((h.removed_iff (State.mem_of_markOf clean)).mpr ha)

/-- The law after one mark is set beside which nothing changes. -/
theorem State.Marked.set {s t : State} {a : Nat} {m : Mark} (h : s.Marked)
    (marks : t.directory.marks = setMark a m s.directory.marks)
    (others : ∀ b, b ≠ a → (b ∈ t.addresses ↔ b ∈ s.addresses)) (inRange : leasable a = true)
    (truth : m ≠ .clean → (m = .removed ↔ a ∉ t.addresses)) : t.Marked := by
  obtain ⟨sorted, each⟩ := h
  unfold State.Marked
  rw [marks]
  refine ⟨List.pairwise_map.mpr (pairwise_setMark a m _ (List.pairwise_map.mp sorted)), fun p hp => ?_⟩
  rcases (mem_setMark a m p _).mp hp with ⟨rfl, live⟩ | ⟨hp, hpa⟩
  · exact ⟨inRange, live, truth live⟩
  · obtain ⟨range, live, mark⟩ := each p hp
    exact ⟨range, live, mark.trans (not_congr (others p.1 hpa).symm)⟩

theorem Mark.move_altered_ne_removed {m : Mark} (h : m ≠ .removed) : Mark.move .altered m ≠ .removed := by
  cases m <;> simp_all [Mark.move]

theorem Mark.move_created_ne_removed {m : Mark} (h : m = .clean ∨ m = .removed) : Mark.move .created m ≠ .removed := by
  rcases h with rfl | rfl <;> simp [Mark.move]

theorem Mark.move_removed_eq {m : Mark} (h : Mark.move .removed m ≠ .clean) : Mark.move .removed m = .removed := by
  cases m <;> simp_all [Mark.move]

theorem State.Marked.note {s : State} {a : Nat} (h : s.Marked) (placed : s.Placed) (held : a ∈ s.addresses) :
    (s.note .altered a).Marked := by
  refine h.set rfl (fun b _ => Iff.rfl) ((placed.mem_iff a).mp (.inr held)) fun _ => ?_
  exact iff_of_false (Mark.move_altered_ne_removed (h.held held)) (not_not_intro held)

theorem State.mem_addresses_createRecord {s : State} {r : Record} {a : Nat} :
    a ∈ (s.createRecord r).addresses ↔ a = r.address ∨ a ∈ s.addresses :=
  ((perm_insertRecord r s.directory.records).map (fun p => p.address)).mem_iff.trans List.mem_cons

theorem State.Marked.created {s : State} {r : Record} (h : s.Marked) (inRange : leasable r.address = true)
    (fresh : r.address ∉ s.addresses) : (s.createRecord r).Marked := by
  refine h.set rfl (fun b hb => by simp [State.mem_addresses_createRecord, hb]) inRange fun _ => ?_
  exact iff_of_false (Mark.move_created_ne_removed (h.unheld fresh)) (by simp [State.mem_addresses_createRecord])

theorem State.Marked.ends {s : State} {place : Place} {r : Record} (h : s.Marked)
    (inRange : leasable r.address = true) : (s.endRecord place r).Marked := by
  refine h.set (a := r.address) (m := Mark.move .removed (s.markOf r.address)) ?_ (fun b hb => ?_) inRange
    fun live => ?_
  · rw [State.endRecord_eq]
  · simp [State.addresses_endRecord, hb]
  · exact iff_of_true (Mark.move_removed_eq live) (by simp [State.addresses_endRecord])

theorem State.Marked.supplant {s : State} {r q : Record} (h : s.Marked) (placed : s.Placed)
    (mem : r ∈ s.directory.records) (address : q.address = r.address) :
    ((s.endRecord .passedOn r).createRecord q).Marked := by
  have inRange := placed.leasable_of_mem mem
  refine (h.ends inRange).created (address ▸ inRange) ?_
  simp [State.addresses_endRecord, address]

theorem State.Marked.collect {s : State} (h : s.Marked) (n : Nat) :
    (s.setDirectory { s.directory with marks := s.directory.marks.drop n }).Marked := by
  obtain ⟨sorted, each⟩ := h
  exact ⟨sorted.sublist ((List.drop_sublist n _).map _), fun p hp => each p (List.mem_of_mem_drop hp)⟩

/-! ## The member lists, R132 and R133 -/

theorem State.Grouped.congr {s t : State} (h : s.Grouped) (groups : t.groups = s.groups)
    (addresses : ∀ a ∈ s.addresses, a ∈ t.addresses) : t.Grouped := by
  obtain ⟨count, total, each⟩ := h
  unfold State.Grouped
  rw [groups]
  refine ⟨count, total, fun g hg => ?_⟩
  obtain ⟨size, nodup, held⟩ := each g hg
  exact ⟨size, nodup, fun a ha => addresses a (held a ha)⟩

theorem memberTotal_le_of_forall₂ {gs' gs : List Group}
    (h : List.Forall₂ (fun g' g => g'.members.Sublist g.members) gs' gs) : memberTotal gs' ≤ memberTotal gs := by
  induction h with
  | nil => exact le_refl _
  | cons sub _ ih =>
    simp only [memberTotal, List.map_cons, List.sum_cons] at ih ⊢
    exact Nat.add_le_add sub.length_le ih

theorem exists_of_forall₂ {gs' gs : List Group} (h : List.Forall₂ (fun g' g => g'.members.Sublist g.members) gs' gs) :
    ∀ g' ∈ gs', ∃ g ∈ gs, g'.members.Sublist g.members := by
  induction h with
  | nil => simp
  | cons sub _ ih =>
    intro g' hg'
    rcases List.mem_cons.mp hg' with rfl | hg'
    · exact ⟨_, List.mem_cons_self, sub⟩
    · obtain ⟨g, hg, sub⟩ := ih g' hg'
      exact ⟨g, List.mem_cons_of_mem _ hg, sub⟩

/-- Lists that only lose members, and no record's address, keep the law. -/
theorem State.Grouped.shrink {s t : State} (h : s.Grouped)
    (sub : List.Forall₂ (fun g' g => g'.members.Sublist g.members) t.groups s.groups)
    (held : ∀ g ∈ t.groups, ∀ a ∈ g.members, a ∈ s.addresses → a ∈ t.addresses) : t.Grouped := by
  obtain ⟨count, total, each⟩ := h
  refine ⟨sub.length_eq.trans count, (memberTotal_le_of_forall₂ sub).trans total, fun g' hg' => ?_⟩
  obtain ⟨g, hg, gsub⟩ := exists_of_forall₂ sub g' hg'
  obtain ⟨size, nodup, members⟩ := each g hg
  exact ⟨gsub.length_le.trans size, gsub.nodup nodup, fun a ha => held g' hg' a ha (members a (gsub.subset ha))⟩

/-- Member lists after each has lost some members. -/
theorem forall₂_filter_members (p : Nat → Bool) (gs : List Group) :
    List.Forall₂ (fun g' g => g'.members.Sublist g.members)
      (gs.map (fun g => { g with members := g.members.filter p })) gs := by
  induction gs with
  | nil => exact .nil
  | cons g gs ih => exact .cons List.filter_sublist ih

/-- The group of a number: one of the groups, or an empty one. -/
theorem State.group_mem_or (s : State) (g : Nat) : s.group g ∈ s.groups ∨ (s.group g).members = [] := by
  unfold State.group
  rw [List.getD_eq_getElem?_getD]
  cases found : s.groups[g - 1]? with
  | none => exact .inr rfl
  | some v => exact .inl (List.mem_of_getElem? found)

theorem State.Grouped.held {s : State} {g a : Nat} (h : s.Grouped) (ha : a ∈ (s.group g).members) :
    a ∈ s.addresses := by
  rcases s.group_mem_or g with mem | none
  · obtain ⟨-, -, each⟩ := h
    obtain ⟨-, -, held⟩ := each _ mem
    exact held a ha
  · simp [none] at ha

theorem State.Grouped.nodup {s : State} (h : s.Grouped) (g : Nat) : (s.group g).members.Nodup := by
  rcases s.group_mem_or g with mem | none
  · obtain ⟨-, -, each⟩ := h
    obtain ⟨-, distinct, -⟩ := each _ mem
    exact distinct
  · simp [none]

theorem length_getD_le_memberTotal (gs : List Group) (n : Nat) :
    (gs.getD n { mode := .opened, members := [] }).members.length ≤ memberTotal gs := by
  induction gs generalizing n with
  | nil => simp
  | cons g gs ih =>
    cases n with
    | zero => simp [memberTotal]
    | succ n =>
      have := ih n
      simp only [memberTotal, List.map_cons, List.sum_cons, List.getD_cons_succ] at this ⊢
      omega

/-- Writing one list moves the total by that list. -/
theorem memberTotal_set (gs : List Group) (n : Nat) (v : Group) :
    memberTotal (gs.set n v) ≤ memberTotal gs + v.members.length
      - (gs.getD n { mode := .opened, members := [] }).members.length := by
  induction gs generalizing n with
  | nil => simp [memberTotal]
  | cons g gs ih =>
    cases n with
    | zero =>
      simp only [memberTotal, List.set_cons_zero, List.map_cons, List.sum_cons, List.getD_cons_zero]
      omega
    | succ n =>
      have le := length_getD_le_memberTotal gs n
      have := ih n
      simp only [memberTotal, List.set_cons_succ, List.map_cons, List.sum_cons, List.getD_cons_succ] at this le ⊢
      omega

theorem State.Grouped.grow {s : State} {g a : Nat} (h : s.Grouped) (held : a ∈ s.addresses)
    (new : a ∉ (s.group g).members) (room : (s.group g).members.length < Config.groupMembers)
    (entry : s.freeEntries ≠ 0) :
    (s.setGroup g { s.group g with members := (s.group g).members ++ [a] }).Grouped := by
  have total : memberTotal (s.groups.set (g - 1) { s.group g with members := (s.group g).members ++ [a] })
      ≤ Config.memberEntries := by
    have bound := memberTotal_set s.groups (g - 1) { s.group g with members := (s.group g).members ++ [a] }
    unfold State.freeEntries at entry
    unfold State.group at bound ⊢
    rw [List.length_append, List.length_singleton] at bound
    omega
  refine ⟨by simpa [State.setGroup] using h.1, total, fun v hv => ?_⟩
  rcases List.mem_or_eq_of_mem_set hv with hv | rfl
  · exact h.2.2 v hv
  · refine ⟨by simpa using room, ?_, fun b hb => ?_⟩
    · exact List.nodup_append.mpr ⟨h.nodup g, List.nodup_singleton a, fun b hb c hc e =>
        new (List.mem_singleton.mp hc ▸ e ▸ hb)⟩
    · rcases List.mem_append.mp hb with hb | hb
      · exact h.held hb
      · rw [List.mem_singleton.mp hb]
        exact held

theorem State.Grouped.ends {s : State} (h : s.Grouped) (place : Place) (r : Record) :
    (s.endRecord place r).Grouped := by
  have groups : (s.endRecord place r).groups
      = s.groups.map (fun g => { g with members := g.members.filter (fun b => b != r.address) }) := by
    rw [State.endRecord_eq]
  refine h.shrink (groups ▸ forall₂_filter_members _ _) fun g hg a ha held => ?_
  rw [groups] at hg
  obtain ⟨g, -, rfl⟩ := List.mem_map.mp hg
  rw [State.addresses_endRecord]
  exact List.mem_filter.mpr ⟨held, (List.mem_filter.mp ha).2⟩

theorem edit_keeps_grouped {s t : State} (h : Edit s t) (hs : s.Grouped) : t.Grouped := by
  cases h with
  | aside same => exact hs.congr same.groups fun a ha => same.addresses ▸ ha
  | tune | note | collect | pool | aim | release => exact hs.congr rfl fun _ ha => ha
  | map keeps => exact hs.congr rfl fun a ha => addresses_mapRecords keeps s ▸ ha
  | replace => exact hs.congr rfl fun a ha => by simpa [State.addresses] using ha
  | shrink sub => exact hs.shrink sub fun _ _ _ _ ha => ha
  | grow held new room entry => exact hs.grow held new room entry
  | create => exact hs.congr rfl fun _ ha => State.mem_addresses_createRecord.mpr (.inr ha)
  | ends => exact hs.ends _ _
  | supplant => exact (hs.ends .passedOn _).congr rfl fun _ ha => State.mem_addresses_createRecord.mpr (.inr ha)
  | clear cleared =>
    refine ⟨cleared.count hs.1, ?_, fun g hg => by simp [cleared.members g hg]⟩
    have none : t.groups.map (fun g => g.members.length) = t.groups.map (fun _ => 0) :=
      List.map_congr_left fun g hg => by simp [cleared.members g hg]
    simp [memberTotal, none]

theorem edit_keeps_marked {s t : State} (h : Edit s t) (placed : s.Placed) (grouped : s.Grouped) (hs : s.Marked) :
    t.Marked := by
  cases h with
  | aside same => exact hs.congr same.marks fun a => by rw [same.addresses]
  | tune | shrink | grow | pool | aim | release => exact hs.congr rfl fun _ => Iff.rfl
  | map keeps => exact hs.congr rfl fun a => by rw [addresses_mapRecords keeps]
  | replace => exact hs.congr rfl fun a => by simp [State.addresses]
  | note held =>
    refine hs.note placed ?_
    rcases held with held | ⟨g, hg, ha⟩
    · exact held
    · obtain ⟨-, -, each⟩ := grouped
      obtain ⟨-, -, members⟩ := each g hg
      exact members _ ha
  | collect n => exact hs.collect n
  | create may =>
    obtain ⟨inPool, fresh⟩ := may.in_pool placed
    exact (hs.congr (t := s.takeAddress _) rfl fun _ => Iff.rfl).created ((placed.mem_iff _).mp (.inl inPool)) fresh
  | ends mem => exact hs.ends (placed.leasable_of_mem mem)
  | supplant mem may => exact hs.supplant placed mem may.address
  | clear cleared =>
    unfold State.Marked
    simp [cleared.marks]

end Sys2Proof.Machine
end

section
/-! SUPPORT. What a record of each state carries (R1, R2, R13), said once for each state, and the records that the rules
make of others. -/

namespace Sys2Proof.Machine

/-! ## The fields of a record by its state -/

theorem Record.fits_reserved {r : Record} (state : r.state = .reserved) : r.fits = true ↔
    r.offer = none ∧ r.term = 0 ∧ r.granted = none ∧ r.quiet = 0 ∧ r.attempts = 0 ∧ r.rival = none ∧ r.hold = none := by
  cases offer : r.offer <;> simp only [Record.fits, Record.shaped, Record.inRange, state, offer] <;>
    grind [Option.isNone_iff_eq_none]

theorem Record.fits_offered {r : Record} (state : r.state = .offered) : r.fits = true ↔
    ∃ o, r.offer = some o ∧ r.offeredFits o = true ∧ termFits o.term = true ∧ o.wait ≤ 255 ∧ r.term ≤ 65535
      ∧ r.granted.all termFits = true ∧ r.quiet ≤ 65535 ∧ r.attempts = 0 ∧ r.rival = none ∧ r.hold = none := by
  cases offer : r.offer <;> simp only [Record.fits, Record.shaped, Record.inRange, state, offer] <;>
    grind [Option.isNone_iff_eq_none]

theorem Record.fits_bound {r : Record} (state : r.state = .bound) : r.fits = true ↔
    r.offer = none ∧ r.term ≤ 65535 ∧ (∃ g, r.granted = some g ∧ termFits g = true) ∧ r.quiet ≤ 65535 ∧ r.attempts = 0
      ∧ r.rival = none ∧ r.hold = none := by
  cases offer : r.offer <;> cases granted : r.granted <;>
    simp only [Record.fits, Record.shaped, Record.inRange, state, offer, granted] <;> grind [Option.isNone_iff_eq_none]

theorem Record.fits_lapsed {r : Record} (state : r.state = .lapsed) : r.fits = true ↔
    r.offer = none ∧ r.pinned = false ∧ r.term = 0 ∧ (∃ g, r.granted = some g ∧ termFits g = true) ∧ r.quiet ≤ 65535
      ∧ r.attempts ≤ 6 ∧ r.rival = none ∧ r.hold = none := by
  cases offer : r.offer <;> cases granted : r.granted <;>
    simp only [Record.fits, Record.shaped, Record.inRange, state, offer, granted] <;> grind [Option.isNone_iff_eq_none]

theorem Record.fits_disputed {r : Record} (state : r.state = .disputed) : r.fits = true ↔
    r.offer = none ∧ r.term ≤ 65535 ∧ r.granted.all termFits = true ∧ r.quiet ≤ 65535 ∧ r.attempts = 0
      ∧ r.hold.all (fun h => 1 ≤ h && h ≤ 255) = true := by
  cases offer : r.offer <;> simp only [Record.fits, Record.shaped, Record.inRange, state, offer] <;>
    grind [Option.isNone_iff_eq_none]

/-- The ranges that hold in every state. -/
theorem Record.ranges_of_fits {r : Record} (h : r.fits = true) :
    r.term ≤ 65535 ∧ r.granted.all termFits = true ∧ r.quiet ≤ 65535 := by
  simp only [Record.fits, Record.inRange] at h
  grind

/-! ## Terms -/

theorem termFits_iff {t : Nat} : termFits t = true ↔ 1 ≤ t ∧ t ≤ 65535 := by simp [termFits]

/-- The term granted on any request is in range. -/
theorem State.termFits_grantTerm {s : State} (h : s.Ranged) (requested : Nat) :
    termFits (s.grantTerm requested) = true := by
  simp only [State.Ranged, Params.inRange, Bool.and_eq_true, termFits_iff] at h
  rw [termFits_iff, State.grantTerm]
  split <;> omega

theorem State.termFits_grantedOf {s : State} {r : Record} (h : s.Ranged) (fits : r.fits = true) :
    termFits (s.grantedOf r) = true := by
  obtain ⟨-, granted, -⟩ := Record.ranges_of_fits fits
  unfold State.grantedOf
  cases g : r.granted with
  | none => exact s.termFits_grantTerm h 0
  | some t => simpa [g] using granted

/-! ## The records that the rules make -/

/-- A record as State.bindRecord stores it. -/
def Record.bound (r : Record) : Record :=
  { r with state := .bound, attempts := 0, offer := none, rival := none, hold := none }

theorem Record.bound_fits {r : Record} {g : Nat} (granted : r.granted = some g) (fits : termFits g = true)
    (term : r.term ≤ 65535) (quiet : r.quiet ≤ 65535) : r.bound.fits = true :=
  (Record.fits_bound rfl).mpr ⟨rfl, term, ⟨g, granted, fits⟩, quiet, rfl, rfl, rfl⟩

theorem Record.lapsedNow_fits {r : Record} (h : r.fits = true) (pinned : r.pinned = false)
    (state : r.state = .bound ∨ (r.state = .offered ∧ r.offer.all (fun o => o.origin == .rebind) = true)) :
    r.lapsedNow.fits = true := by
  refine (Record.fits_lapsed rfl).mpr ?_
  rcases state with state | ⟨state, origin⟩
  · obtain ⟨-, -, granted, quiet, -, rival, hold⟩ := (Record.fits_bound state).mp h
    exact ⟨rfl, pinned, rfl, granted, quiet, Nat.zero_le 6, rival, hold⟩
  · obtain ⟨o, offer, fits, -, -, -, granted, quiet, -, rival, hold⟩ := (Record.fits_offered state).mp h
    have rebind : o.origin = .rebind := by simpa [offer] using origin
    have some : r.granted.isSome = true := by simpa [Record.offeredFits, rebind] using fits
    obtain ⟨g, hg⟩ := Option.isSome_iff_exists.mp some
    exact ⟨rfl, pinned, rfl, ⟨g, hg, by simpa [hg] using granted⟩, quiet, Nat.zero_le 6, rival, hold⟩

theorem State.disputedRecord_fits {s : State} {r : Record} (ranged : s.Ranged) (h : r.fits = true)
    (rival : Option Identity) : (s.disputedRecord r rival).fits = true := by
  obtain ⟨term, granted, quiet⟩ := Record.ranges_of_fits h
  refine (Record.fits_disputed rfl).mpr ⟨rfl, term, granted, quiet, rfl, ?_⟩
  simp only [State.Ranged, Params.inRange, Bool.and_eq_true, decide_eq_true_eq] at ranged
  unfold State.disputedRecord
  by_cases hold : s.params.disputeHold = 0
  · simp [hold]
  · simp [hold]
    omega

/-- A record whose quiet count alone is reset. -/
theorem Record.fits_quiet_zero {r : Record} (h : r.fits = true) : ({ r with quiet := 0 } : Record).fits = true := by
  simp only [Record.fits, Record.shaped, Record.inRange, Record.offeredFits] at h ⊢
  grind

theorem Record.fits_pinned {r : Record} (h : r.fits = true) (b : Bool) (live : r.state = .lapsed → b = false) :
    ({ r with pinned := b } : Record).fits = true := by
  simp only [Record.fits, Record.shaped, Record.inRange, Record.offeredFits] at h ⊢
  grind

/-- A BOUND record with a new term. -/
theorem Record.fits_renewed {r : Record} {t quiet attempts : Nat} (state : r.state = .bound)
    (term : termFits t = true) (small : quiet ≤ 65535) (fresh : attempts = 0) (h : r.fits = true) :
    ({ r with term := t, granted := some t, quiet := quiet, attempts := attempts } : Record).fits = true := by
  obtain ⟨offer, -, -, -, -, rival, hold⟩ := (Record.fits_bound state).mp h
  exact (Record.fits_bound (by exact state)).mpr
    ⟨offer, (termFits_iff.mp term).2, ⟨t, rfl, term⟩, small, fresh, rival, hold⟩

theorem Record.aged_fits {r : Record} (h : r.fits = true) : r.aged.fits = true := by
  unfold Record.aged
  split
  · next ages =>
    have state : r.state = .bound := by simp_all [Record.ages]
    obtain ⟨offer, term, granted, rest⟩ := (Record.fits_bound state).mp h
    exact (Record.fits_bound (by exact state)).mpr ⟨offer, (Nat.sub_le _ _).trans term, granted, rest⟩
  · exact h

theorem Record.quieter_fits {r : Record} (h : r.fits = true) : r.quieter.fits = true := by
  unfold Record.quieter
  split
  · next state =>
    obtain ⟨offer, term, granted, -, rest⟩ := (Record.fits_bound state).mp h
    exact (Record.fits_bound (by exact state)).mpr ⟨offer, term, granted, Nat.min_le_right _ _, rest⟩
  · next state =>
    obtain ⟨offer, pinned, term, granted, -, rest⟩ := (Record.fits_lapsed state).mp h
    exact (Record.fits_lapsed (by exact state)).mpr ⟨offer, pinned, term, granted, Nat.min_le_right _ _, rest⟩
  · next state =>
    obtain ⟨offer, term, granted, -, rest⟩ := (Record.fits_disputed state).mp h
    exact (Record.fits_disputed (by exact state)).mpr ⟨offer, term, granted, Nat.min_le_right _ _, rest⟩
  · exact h
  · exact h

theorem Record.waited_fits {r : Record} (h : r.fits = true) : r.waited.fits = true := by
  cases offer : r.offer with
  | none =>
    have same : r.waited = r := by cases r; simp_all [Record.waited]
    rw [same]
    exact h
  | some o =>
    simp only [Record.waited, Record.fits, Record.shaped, Record.inRange, Record.offeredFits, offer] at h ⊢
    grind

theorem Record.held_fits {r : Record} (h : r.fits = true) (running : r.held.hold ≠ some 0) : r.held.fits = true := by
  cases hold : r.hold with
  | none =>
    have same : r.held = r := by cases r; simp_all [Record.held]
    rw [same]
    exact h
  | some n =>
    have some : 1 ≤ n - 1 := by
      simp only [Record.held, hold, Option.map_some, ne_eq, Option.some.injEq] at running
      omega
    simp only [Record.held, Record.fits, Record.shaped, Record.inRange, Record.offeredFits, hold] at h ⊢
    grind

theorem keepsIdentity_aged : KeepsIdentity Record.aged where
  address r := by unfold Record.aged; split <;> rfl
  identity r := by unfold Record.aged; split <;> rfl
  state r := by unfold Record.aged; split <;> rfl
  rival r := by unfold Record.aged; split <;> rfl

theorem keepsIdentity_quieter : KeepsIdentity Record.quieter where
  address r := by unfold Record.quieter; split <;> rfl
  identity r := by unfold Record.quieter; split <;> rfl
  state r := by unfold Record.quieter; split <;> rfl
  rival r := by unfold Record.quieter; split <;> rfl

theorem keepsIdentity_waited : KeepsIdentity Record.waited := ⟨fun _ => rfl, fun _ => rfl, fun _ => rfl, fun _ => rfl⟩

theorem keepsIdentity_held : KeepsIdentity Record.held := ⟨fun _ => rfl, fun _ => rfl, fun _ => rfl, fun _ => rfl⟩

end Sys2Proof.Machine
end

section
/-! SUPPORT. The shared operations on records as runs of edits, and the three passes over many records. -/

namespace Sys2Proof.Machine

/-! ## One record in the place of another -/

/-- A record that keeps its holder takes the place of itself. -/
theorem State.MayReplace.of_holder {s : State} {r q : Record} (address : q.address = r.address)
    (identity : q.identity = r.identity) (fits : s.Ranged → r.fits = true → q.fits = true)
    (rival : q.rival = none ∨ (q.rival = r.rival ∧ q.state = r.state))
    (offers : q.state = .offered → r.state = .offered) : s.MayReplace r q where
  address := address
  fits := fits
  named valid rivalFits := by
    refine ⟨identity ▸ valid, ?_⟩
    rcases rival with none | ⟨same, state⟩
    · simp [Record.rivalFits, none]
    · simpa [Record.rivalFits, same, state, identity] using rivalFits
  unique := .inl identity
  offers h := .inl (offers h)

theorem State.addresses_putRecord (q : Record) (s : State) : (s.putRecord q).addresses = s.addresses :=
  map_address_replaceRecord q s.directory.records

/-- The fields of a record change, and its place in the lapse list stays. -/
theorem putRecord_edits {s : State} {r q : Record} (mem : r ∈ s.directory.records) (may : s.MayReplace r q)
    (lapsed : q.state = .lapsed ↔ r.state = .lapsed) (identity : q.identity = r.identity) : Edits s (s.putRecord q) :=
  .single (.replace mem may (.kept lapsed identity))

/-- The fields of a record change that neither its state nor its holder rests on. -/
theorem updateRecord_edits {s : State} {r q : Record} (mem : r ∈ s.directory.records)
    (standing : q.address = r.address ∧ q.identity = r.identity ∧ q.state = r.state ∧ q.rival = r.rival)
    (fits : s.Ranged → r.fits = true → q.fits = true) : Edits s (s.putRecord q) := by
  obtain ⟨address, identity, state, rival⟩ := standing
  exact putRecord_edits mem (.of_holder address identity fits (.inr ⟨rival, state⟩) (state ▸ id)) (by rw [state])
    identity

/-- A record's fields and its place among the states change, its place in the lapse list does not, and the change is an
alteration. -/
theorem alterRecord_edits {s : State} {r q : Record} (mem : r ∈ s.directory.records) (may : s.MayReplace r q)
    (lapsed : q.state = .lapsed ↔ r.state = .lapsed) (identity : q.identity = r.identity) :
    Edits s ((s.putRecord q).note .altered r.address) := by
  refine (putRecord_edits mem may lapsed identity).tail (.note (.inl ?_))
  rw [State.addresses_putRecord]
  exact State.mem_addresses_of_mem mem

/-- A record takes another's place in a state other than LAPSED: it leaves the lapse list, and that is an alteration. -/
theorem withdrawRecord_edits {s : State} {r q : Record} (mem : r ∈ s.directory.records) (may : s.MayReplace r q)
    (live : q.state ≠ .lapsed) : Edits s (((s.putRecord q).dropLapse r.address).note .altered r.address) := by
  refine .tail (.single (.replace mem may (.dropped live))) (.note (.inl ?_))
  have held := State.mem_addresses_of_mem mem
  rwa [← s.addresses_putRecord q] at held

theorem bindRecord_edits {s : State} {r q : Record} (mem : r ∈ s.directory.records) (may : s.MayReplace r q.bound) :
    Edits s (s.bindRecord q) := by
  have address : q.address = r.address := may.address
  have run := withdrawRecord_edits mem may (by simp [Record.bound])
  rw [← address] at run
  exact run

/-- A record becomes BOUND with its holder unchanged. -/
theorem bindHolder_edits {s : State} {r q : Record} (mem : r ∈ s.directory.records) (address : q.address = r.address)
    (identity : q.identity = r.identity) (fits : s.Ranged → r.fits = true → q.bound.fits = true) :
    Edits s (s.bindRecord q) :=
  bindRecord_edits mem (.of_holder address identity fits (.inl rfl) (by simp [Record.bound]))

/-- A record becomes BOUND with a term in range. -/
theorem bindTerm_edits {s : State} {r : Record} {term quiet attempts : Nat} (mem : r ∈ s.directory.records)
    (fits : s.Ranged → r.fits = true → termFits term = true ∧ quiet ≤ 65535) :
    Edits s (s.bindRecord { r with term := term, granted := some term, quiet := quiet, attempts := attempts }) :=
  bindHolder_edits mem rfl rfl fun ranged h => by
    obtain ⟨termFits, small⟩ := fits ranged h
    exact Record.bound_fits rfl termFits (termFits_iff.mp termFits).2 small

/-- A record becomes BOUND with its granted term, and its quiet count 0. -/
theorem bindRefreshed_edits {s : State} {r : Record} (mem : r ∈ s.directory.records) :
    Edits s (s.bindRecord { s.refreshed r with quiet := 0 }) :=
  bindTerm_edits (r := r) (term := s.grantedOf r) mem fun ranged h => ⟨s.termFits_grantedOf ranged h, Nat.zero_le _⟩

theorem lapseRecord_edits {s : State} {r : Record} (mem : r ∈ s.directory.records) (pinned : r.pinned = false)
    (state : r.state = .bound ∨ (r.state = .offered ∧ r.offer.all (fun o => o.origin == .rebind) = true)) :
    Edits s (s.lapseRecord r) := by
  have before : r.state ≠ .lapsed := by rcases state with h | ⟨h, -⟩ <;> simp [h]
  have may : s.MayReplace r r.lapsedNow :=
    { address := rfl
      fits := fun _ h => Record.lapsedNow_fits h pinned state
      named := fun valid rival => by
        refine ⟨valid, ?_⟩
        rcases state with h | ⟨h, -⟩ <;> cases rv : r.rival <;> simp_all [Record.rivalFits, Record.lapsedNow]
      unique := .inl rfl
      offers := by simp [Record.lapsedNow] }
  have put := Edit.replace mem may (.lapses before rfl rfl)
  rw [State.lapseRecord_eq]
  refine Relation.ReflTransGen.tail (.single put) (.note (.inl ?_))
  have held := State.mem_addresses_of_mem mem
  rwa [← s.addresses_putRecord r.lapsedNow] at held

/-! ## Disputes -/

theorem claimOrDrop_same (o : Originator) (f : Frame) (s : State) : s.SameTables (s.claimOrDrop o f) :=
  .of_frame (s.claimOrDrop_frame o f)

theorem retire_edits {s : State} {r : Record} (mem : r ∈ s.directory.records) : Edits s (s.retire r) :=
  .single (.ends mem (by simp))

theorem State.endRecord_congr (place : Place) {r q : Record} (address : q.address = r.address)
    (identity : q.identity = r.identity) (s : State) : s.endRecord place q = s.endRecord place r := by
  cases place <;> simp [State.endRecord, State.returnAddress, address, identity]

theorem State.revokeDisputed_congr {r q : Record} (address : q.address = r.address) (identity : q.identity = r.identity)
    (s : State) : s.revokeDisputed q = s.revokeDisputed r := by
  simp only [State.revokeDisputed, State.retire, address, State.endRecord_congr _ address identity]

theorem revokeDisputed_edits {s : State} {r : Record} (mem : r ∈ s.directory.records) :
    Edits s (s.revokeDisputed r) := by
  have aside := claimOrDrop_same .dispute (untargetedRevoke r.address) s
  exact .tail (.single (.aside aside)) (.ends (aside.records ▸ mem) (by simp))

/-- A rival may be recorded: none, or a valid identity other than the record's. -/
def RivalAllowed (r : Record) (rival : Option Identity) : Prop :=
  ∀ i, rival = some i → validIdentity i = true ∧ i ≠ r.identity

theorem mayReplace_disputed {s : State} {r : Record} {rival : Option Identity} (allowed : RivalAllowed r rival) :
    s.MayReplace r (s.disputedRecord r rival) where
  address := rfl
  fits ranged h := State.disputedRecord_fits ranged h rival
  named valid _ := by
    refine ⟨valid, ?_⟩
    cases rival with
    | none => rfl
    | some i =>
      obtain ⟨rivalValid, other⟩ := allowed i rfl
      simp [Record.rivalFits, State.disputedRecord, rivalValid, other]
  unique := .inl rfl
  offers := by simp [State.disputedRecord]

theorem enterDisputed_edits {s : State} {r : Record} {rival : Option Identity} (mem : r ∈ s.directory.records)
    (allowed : RivalAllowed r rival) : Edits s (s.enterDisputed r rival) :=
  withdrawRecord_edits mem (mayReplace_disputed allowed) (by simp)

theorem mem_enterDisputed {s : State} {r : Record} (rival : Option Identity) (mem : r ∈ s.directory.records) :
    s.disputedRecord r rival ∈ (s.enterDisputed r rival).directory.records := by
  rw [State.enterDisputed_eq]
  exact (mem_replaceRecord _ _ _).mpr (.inr ⟨rfl, r, mem, rfl⟩)

theorem raiseDispute_edits {s : State} {r : Record} {rival : Option Identity} (mem : r ∈ s.directory.records)
    (allowed : RivalAllowed r rival) : Edits s (s.raiseDispute r rival) := by
  have entered := enterDisputed_edits mem allowed
  cases policy : s.params.disputePolicy with
  | hold =>
    rw [State.raiseDispute_hold r rival policy]
    exact entered.tail (.aside (.of_frame rfl))
  | revoke =>
    rw [State.raiseDispute_revoke r rival policy]
    rw [← State.revokeDisputed_congr (r := r) (q := s.disputedRecord r rival) rfl rfl]
    exact entered.trans (revokeDisputed_edits (mem_enterDisputed rival mem))

theorem fillRival_edits {s : State} {r : Record} {i : Identity} (mem : r ∈ s.directory.records)
    (state : r.state = .disputed) (valid : validIdentity i = true) : Edits s (s.fillRival r i) := by
  unfold State.fillRival
  split
  · exact .refl
  · next other =>
    have apart : i ≠ r.identity := fun e => other (.inl e.symm)
    refine alterRecord_edits mem ?_ Iff.rfl rfl
    exact {
      address := rfl
      fits := fun _ h => (Record.fits_disputed (by exact state)).mpr ((Record.fits_disputed state).mp h)
      named := fun v _ => ⟨v, by simp [Record.rivalFits, state, valid, apart]⟩
      unique := .inl rfl
      offers := fun h => .inl h }

/-! ## Passes over many records -/

/-- A law kept by an operation on each record of a list, the records standing where they stood until their turn. -/
theorem foldl_records_keep {P : State → Prop} {good : Record → Prop} {f : State → Record → State}
    (step : ∀ {u r}, P u → r ∈ u.directory.records → good r → P (f u r))
    (others : ∀ {u r p}, p ∈ u.directory.records → p.address ≠ r.address → p ∈ (f u r).directory.records)
    (l : List Record) (apart : l.Pairwise (fun p q => p.address < q.address)) {s : State} (hs : P s)
    (mem : ∀ r ∈ l, r ∈ s.directory.records ∧ good r) : P (l.foldl f s) := by
  induction l generalizing s with
  | nil => exact hs
  | cons r l ih =>
    obtain ⟨first, rest⟩ := List.pairwise_cons.mp apart
    obtain ⟨hr, hgood⟩ := mem r List.mem_cons_self
    refine ih rest (step hs hr hgood) fun p hp => ?_
    obtain ⟨hp', hpgood⟩ := mem p (List.mem_cons_of_mem _ hp)
    exact ⟨others hp' (first p hp).ne', hpgood⟩

/-- Replacing a record leaves the others. -/
theorem mem_replaceRecord_of_ne {q p : Record} {rs : List Record} (mem : p ∈ rs) (apart : p.address ≠ q.address) :
    p ∈ replaceRecord q rs := (mem_replaceRecord q p rs).mpr (.inl ⟨mem, apart⟩)

/-- A law that every edit keeps, and the countdown of the dispute holds too, is kept by every change, where the
addresses obey their law. -/
theorem Change.keep_of_edit {P : State → Prop} (placed : ∀ {s}, P s → s.Placed) (edit : ∀ {s t}, Edit s t → P s → P t)
    (held : ∀ {s}, P s → P (s.mapRecords Record.held)) {s t : State} (h : Change s t) (hs : P s) : P t := by
  cases h with
  | edit h => exact edit h hs
  | lapses =>
    refine foldl_records_keep (good := fun r => r.pinned = false ∧ r.state = .bound)
      (fun hu mem ⟨pinned, state⟩ => (lapseRecord_edits mem pinned (.inl state)).keep edit hu)
      (fun mem apart => ?_) _ ((placed hs).sorted.filter _) hs fun r hr => ?_
    · rw [State.lapseRecord_eq]
      exact mem_replaceRecord_of_ne mem apart
    · obtain ⟨mem, ages⟩ := List.mem_filter.mp hr
      simp only [Record.ages, Bool.and_eq_true, beq_iff_eq, Bool.not_eq_true'] at ages
      obtain ⟨⟨state, pinned⟩, -⟩ := ages
      exact ⟨mem, pinned, state⟩
  | holds =>
    refine foldl_records_keep (good := fun _ => True) (fun hu mem _ => (revokeDisputed_edits mem).keep edit hu)
      (fun mem apart => ?_) _ ((placed (held hs)).sorted.filter _) (held hs)
      fun r hr => ⟨List.mem_of_mem_filter hr, trivial⟩
    rw [State.revokeDisputed_eq, State.endRecord_eq]
    exact (mem_removeRecord _ _ _).mpr ⟨mem, apart⟩
  | rivals i =>
    refine foldl_records_keep (good := fun _ => True) (fun hu mem _ => (bindRefreshed_edits mem).keep edit hu)
      (fun mem apart => ?_) _ ((placed hs).sorted.filter _) hs fun r hr => ⟨List.mem_of_mem_filter hr, trivial⟩
    simp only [State.bindRecord_eq]
    exact mem_replaceRecord_of_ne mem apart

theorem mem_foldl_revokeDisputed (l : List Record) (s : State) {p : Record}
    (hp : p ∈ (l.foldl (fun u r => u.revokeDisputed r) s).directory.records) :
    p ∈ s.directory.records ∧ ∀ r ∈ l, p.address ≠ r.address := by
  induction l generalizing s with
  | nil => exact ⟨hp, by simp⟩
  | cons r l ih =>
    obtain ⟨mem, apart⟩ := ih (s.revokeDisputed r) hp
    rw [State.revokeDisputed_eq, State.endRecord_eq] at mem
    obtain ⟨mem, ne⟩ := (mem_removeRecord _ _ _).mp mem
    exact ⟨mem, List.forall_mem_cons.mpr ⟨ne, apart⟩⟩

theorem params_foldl_revokeDisputed (l : List Record) (s : State) :
    (l.foldl (fun u r => u.revokeDisputed r) s).params = s.params := by
  induction l generalizing s with
  | nil => rfl
  | cons r l ih =>
    rw [List.foldl_cons, ih, State.revokeDisputed_eq, State.endRecord_eq]

/-- The holds that run out leave only records whose hold still runs (R51). -/
theorem State.Fitted.countHolds {s : State} (hs : s.Fitted) : s.countHolds.Fitted := by
  obtain ⟨ranged, fits⟩ := hs
  constructor
  · unfold State.Ranged State.countHolds
    rw [params_foldl_revokeDisputed]
    exact ranged
  · intro p hp
    obtain ⟨mem, apart⟩ := mem_foldl_revokeDisputed _ _ hp
    obtain ⟨r, hr, rfl⟩ := List.mem_map.mp mem
    refine Record.held_fits (fits r hr) fun out => ?_
    exact apart r.held (List.mem_filter.mpr ⟨mem, by simp [out]⟩) rfl

theorem State.Fitted.bindRecord {s : State} {r : Record} (hs : s.Fitted) (h : r.bound.fits = true) :
    (s.bindRecord r).Fitted := by
  obtain ⟨ranged, fits⟩ := hs
  refine ⟨ranged, fun p hp => ?_⟩
  rcases (mem_replaceRecord _ _ _).mp hp with ⟨mem, -⟩ | ⟨rfl, -⟩
  · exact fits p mem
  · exact h

theorem State.Fitted.lapseRecord {s : State} {r : Record} (hs : s.Fitted) (h : r.lapsedNow.fits = true) :
    (s.lapseRecord r).Fitted := by
  obtain ⟨ranged, fits⟩ := hs
  rw [State.lapseRecord_eq]
  refine ⟨ranged, fun p hp => ?_⟩
  rcases (mem_replaceRecord _ _ _).mp hp with ⟨mem, -⟩ | ⟨rfl, -⟩
  · exact fits p mem
  · exact h

/-- The fields of the records (R1, R2, R13) are kept by every change. No law of the addresses is needed. -/
theorem change_keeps_fitted {s t : State} (h : Change s t) (hs : s.Fitted) : t.Fitted := by
  cases h with
  | edit h => exact edit_keeps_fitted h hs
  | holds => exact hs.countHolds
  | lapses =>
    refine List.foldlRecOn _ _ hs fun u hu r hr => hu.lapseRecord ?_
    obtain ⟨mem, ages⟩ := List.mem_filter.mp hr
    simp only [Record.ages, Bool.and_eq_true, beq_iff_eq, Bool.not_eq_true'] at ages
    obtain ⟨⟨state, pinned⟩, -⟩ := ages
    exact Record.lapsedNow_fits (hs.2 r mem) pinned (.inl state)
  | rivals i =>
    refine List.foldlRecOn _ _ hs fun u hu r hr => hu.bindRecord ?_
    have term := u.termFits_grantedOf hu.1 (hs.2 r (List.mem_of_mem_filter hr))
    exact Record.bound_fits rfl term (termFits_iff.mp term).2 (Nat.zero_le _)

/-! ## Each law under a run of changes -/

theorem changes_keep_fitted {s t : State} (h : Changes s t) (hs : s.Fitted) : t.Fitted := h.keep change_keeps_fitted hs

theorem State.Placed.mapHeld {s : State} (h : s.Placed) : (s.mapRecords Record.held).Placed :=
  h.congr rfl (addresses_mapRecords keepsIdentity_held s)

theorem changes_keep_placed {s t : State} (h : Changes s t) (hs : s.Placed) : t.Placed :=
  h.keep (fun change => change.keep_of_edit id edit_keeps_placed State.Placed.mapHeld) hs

/-- A law that every edit keeps beside the law of the addresses is kept by a run of changes. -/
theorem Changes.keep_beside_placed {P : State → Prop} (edit : ∀ {s t}, Edit s t → s.Placed → P s → P t)
    (held : ∀ {s : State}, P s → P (s.mapRecords Record.held)) {s t : State} (h : Changes s t) (placed : s.Placed)
    (hs : P s) : P t :=
  (h.keep (P := fun u => u.Placed ∧ P u) (fun change => change.keep_of_edit And.left
    (fun e ⟨placed, hs⟩ => ⟨edit_keeps_placed e placed, edit e placed hs⟩)
    fun ⟨placed, hs⟩ => ⟨placed.mapHeld, held hs⟩) ⟨placed, hs⟩).2

theorem changes_keep_identified {s t : State} (h : Changes s t) (placed : s.Placed) (hs : s.Identified) :
    t.Identified :=
  h.keep_beside_placed edit_keeps_identified (fun hs => hs.map keepsIdentity_held) placed hs

theorem changes_keep_withinLimits {s t : State} (h : Changes s t) (placed : s.Placed) (hs : s.WithinLimits) :
    t.WithinLimits :=
  h.keep_beside_placed edit_keeps_withinLimits (fun hs => hs.map keepsIdentity_held) placed hs

theorem changes_keep_lapseListed {s t : State} (h : Changes s t) (placed : s.Placed) (hs : s.LapseListed) :
    t.LapseListed :=
  h.keep_beside_placed edit_keeps_lapseListed (fun hs => hs.map keepsIdentity_held) placed hs

/-- The laws of the addresses, the member lists and the marks, which hold together. -/
structure State.Listed (s : State) : Prop where
  placed : s.Placed
  grouped : s.Grouped
  marked : s.Marked

theorem changes_keep_listed {s t : State} (h : Changes s t) (hs : s.Listed) : t.Listed := by
  refine h.keep (fun change => change.keep_of_edit State.Listed.placed (fun edit hs => ?_) fun {u} hs => ?_) hs
  · exact ⟨edit_keeps_placed edit hs.placed, edit_keeps_grouped edit hs.grouped,
      edit_keeps_marked edit hs.placed hs.grouped hs.marked⟩
  · have addresses := addresses_mapRecords keepsIdentity_held u
    exact ⟨hs.placed.mapHeld, hs.grouped.congr rfl fun a ha => addresses ▸ ha,
      hs.marked.congr rfl fun a => by rw [addresses]⟩

end Sys2Proof.Machine
end

section
/-! SUPPORT. Every meaning of Machine/ as a run of changes of the tables: what leaves the tables alone, the member
lists, and joining. -/

namespace Sys2Proof.Machine

/-! ## What leaves the tables alone -/

theorem State.SameTables.changes {s t : State} (h : s.SameTables t) : Changes s t := .single (.edit (.aside h))

theorem Changes.then_same {s t u : State} (h : Changes s t) (k : t.SameTables u) : Changes s u := h.trans k.changes

theorem queueReply_same (o : Originator) (f : Frame) (s : State) : s.SameTables (s.queueReply o f) := .of_frame rfl

theorem enqueue_same (cls : TxClass) (o : Originator) (f : Frame) (s : State) : s.SameTables (s.enqueue cls o f) :=
  .of_frame rfl

theorem raise_same (c : Cause) (s : State) : s.SameTables (s.raise c) := .of_frame rfl

theorem complete_same (o : OutcomeCode) (results : Bool) (s : State) : s.SameTables (s.complete o results) :=
  .of_frame rfl

theorem finish_same (o : OutcomeCode) (s : State) : s.SameTables (s.finish o) := .of_frame rfl

theorem setLine_same (l : Line) (s : State) : s.SameTables (s.setLine l) := .of_frame rfl

theorem setQueue_same (q : TxQueue) (s : State) : s.SameTables (s.setQueue q) := .of_frame rfl

theorem setPort_same (p : Port) (s : State) : s.SameTables (s.setPort p) := .of_frame rfl

theorem setClock_same (c : Clock) (s : State) : s.SameTables (s.setClock c) := .of_frame rfl

theorem freezeClock_same (s : State) : s.SameTables s.freezeClock := .of_frame rfl

theorem setResults_same (bs : List Byte) (s : State) : s.SameTables (s.setResults bs) := .of_frame rfl

theorem setCensus_same (c : Census) (s : State) : s.SameTables (s.setCensus c) := .of_frame rfl

theorem enterPhase_same (ph : LinePhase) (s : State) : s.SameTables (s.enterPhase ph) := .of_frame (s.enterPhase_eq ph)

theorem grantWaiting_same (s : State) : s.SameTables s.grantWaiting := by
  unfold State.grantWaiting
  split
  · split
    · exact .of_frame rfl
    · exact .refl s
  · exact .refl s

theorem commandRevoke_same (f : Frame) (s : State) : s.SameTables (s.commandRevoke f) := by
  unfold State.commandRevoke
  split
  · exact finish_same _ s
  · split <;> exact .of_frame rfl

/-- The sweep context is no part of the tables. -/
theorem setSweep_same (w : Option Sweep) (s : State) : s.SameTables (s.setProber { s.prober with sweep := w }) :=
  ⟨rfl, rfl, rfl, rfl, rfl, rfl, rfl⟩

/-! ## The member lists -/

theorem forall₂_set (gs : List Group) (n : Nat) {v : Group}
    (sub : v.members.Sublist (gs.getD n { mode := .opened, members := [] }).members) :
    List.Forall₂ (fun g' g => g'.members.Sublist g.members) (gs.set n v) gs := by
  have same : ∀ gs : List Group, List.Forall₂ (fun g' g : Group => g'.members.Sublist g.members) gs gs := fun gs =>
    List.forall₂_same.mpr fun _ _ => List.Sublist.refl _
  induction gs generalizing n with
  | nil => exact .nil
  | cons g gs ih =>
    cases n with
    | zero => exact .cons sub (same gs)
    | succ n => exact .cons (List.Sublist.refl _) (ih n sub)

/-- A list that only loses members is written. -/
theorem setGroup_changes {s : State} {g : Nat} {v : Group} (sub : v.members.Sublist (s.group g).members) :
    Changes s (s.setGroup g v) := .single (.edit (.shrink (forall₂_set _ _ sub)))

theorem State.exists_group_of_mem {s : State} {g a : Nat} (ha : a ∈ (s.group g).members) :
    ∃ v ∈ s.groups, a ∈ v.members := by
  rcases s.group_mem_or g with mem | none
  · exact ⟨_, mem, ha⟩
  · simp [none] at ha

theorem addMember_changes {s : State} {g a : Nat} (held : a ∈ s.addresses)
    (new : (s.group g).members.contains a = false) (room : ¬ Config.groupMembers ≤ (s.group g).members.length)
    (entry : ¬ s.freeEntries = 0) :
    Changes s (s.addMember g a) := by
  have grown := Edit.grow held (by simpa using new) (Nat.lt_of_not_le room) entry
  exact .tail (.single (.edit grown)) (.edit (.note (.inl held)))

theorem removeMember_changes {s : State} {g a : Nat} (member : (s.group g).members.contains a = true) :
    Changes s (s.removeMember g a) := by
  have noted : Changes s (s.note .altered a) :=
    .single (.edit (.note (.inr (State.exists_group_of_mem (by simpa using member)))))
  exact noted.trans (setGroup_changes (s := s.note .altered a) (g := g) List.filter_sublist)

theorem usable_held {s : State} {a : Nat} (usable : s.usable a = true) : a ∈ s.addresses := by
  unfold State.usable at usable
  cases found : s.recordAt a with
  | none => simp [found] at usable
  | some r =>
    obtain ⟨mem, address⟩ := State.mem_of_recordAt found
    exact address ▸ State.mem_addresses_of_mem mem

theorem answerGroup_same (a g : Nat) (o : GroupOutcome) (s : State) : s.SameTables (s.answerGroup a g o) :=
  queueReply_same _ _ s

theorem takeGroupJoin_changes (a g : Nat) (s : State) : Changes s (s.takeGroupJoin a g) := by
  unfold State.takeGroupJoin
  split
  · exact (answerGroup_same ..).changes
  next usable =>
  split
  · exact (answerGroup_same ..).changes
  split
  · exact (answerGroup_same ..).changes
  split
  · exact (answerGroup_same ..).changes
  next new =>
  split
  · exact (answerGroup_same ..).changes
  next room =>
  split
  · exact (answerGroup_same ..).changes
  next entry =>
  exact (addMember_changes (usable_held (by simpa using usable)) (by simpa using new) room entry).then_same
    (answerGroup_same ..)

theorem takeGroupLeave_changes (a g : Nat) (s : State) : Changes s (s.takeGroupLeave a g) := by
  unfold State.takeGroupLeave
  split
  · next h =>
    have member : (s.group g).members.contains a = true := by
      simp only [Bool.and_eq_true] at h
      exact h.2
    exact (removeMember_changes member).then_same (answerGroup_same ..)
  · exact (answerGroup_same ..).changes

theorem takeGroupExpand_changes (a g : Nat) (s : State) : Changes s (s.takeGroupExpand a g) := by
  unfold State.takeGroupExpand
  split <;> exact (answerGroup_same ..).changes

theorem groupAssign_changes (s : State) : Changes s s.groupAssign := by
  unfold State.groupAssign
  dsimp only
  split
  · exact (finish_same ..).changes
  split
  · exact (finish_same ..).changes
  next held =>
  split
  · exact (finish_same ..).changes
  next new =>
  split
  · exact (finish_same ..).changes
  next room =>
  split
  · exact (finish_same ..).changes
  next entry =>
  have mem : s.p 1 ∈ s.addresses := by
    by_contra absent
    exact held (by simp [State.recordAt_eq_none_iff.mpr absent])
  exact (addMember_changes mem (by simpa using new) room entry).then_same (finish_same ..)

theorem groupRemove_changes (s : State) : Changes s s.groupRemove := by
  unfold State.groupRemove
  dsimp only
  split
  · exact (finish_same ..).changes
  split
  · next member => exact (removeMember_changes member).then_same (finish_same ..)
  · exact (finish_same ..).changes

theorem readGroup_changes (s : State) : Changes s s.readGroup := by
  unfold State.readGroup
  dsimp only
  split <;> exact (State.SameTables.of_frame rfl).changes

theorem setGroupMode_changes (s : State) : Changes s s.setGroupMode := by
  unfold State.setGroupMode
  dsimp only
  split
  · split
    · exact Changes.then_same (setGroup_changes (by exact List.Sublist.refl _)) (finish_same ..)
    · exact (finish_same ..).changes
  · exact (finish_same ..).changes

theorem foldl_note_setGroups (l : List Nat) (gs : List Group) (s : State) :
    l.foldl (fun t a => t.note .altered a) (s.setGroups gs)
      = (l.foldl (fun t a => t.note .altered a) s).setGroups gs := by
  induction l generalizing s with
  | nil => rfl
  | cons a l ih => exact ih (s.note .altered a)

theorem foldl_note_groups (l : List Nat) (s : State) :
    (l.foldl (fun t a => t.note .altered a) s).groups = s.groups := by
  induction l generalizing s with
  | nil => rfl
  | cons a l ih => exact ih (s.note .altered a)

/-- Alterations are noted at members. -/
theorem foldl_note_changes {l : List Nat} {s : State} (member : ∀ a ∈ l, ∃ g ∈ s.groups, a ∈ g.members) :
    Changes s (l.foldl (fun t a => t.note .altered a) s) := by
  induction l generalizing s with
  | nil => exact .refl
  | cons a l ih =>
    have noted : Changes s (s.note .altered a) := .single (.edit (.note (.inr (member a List.mem_cons_self))))
    exact noted.trans (ih fun b hb => member b (List.mem_cons_of_mem _ hb))

theorem clearGroup_changes (s : State) : Changes s s.clearGroup := by
  unfold State.clearGroup
  dsimp only
  split
  · rw [State.setGroup, foldl_note_setGroups]
    have noted : Changes s ((s.group (s.p 0)).members.foldl (fun t a => t.note .altered a) s) :=
      foldl_note_changes fun a ha => State.exists_group_of_mem ha
    have emptied := setGroup_changes (s := (s.group (s.p 0)).members.foldl (fun t a => t.note .altered a) s)
      (g := s.p 0) (v := { s.group (s.p 0) with members := [] }) (List.nil_sublist _)
    rw [State.setGroup, foldl_note_groups] at emptied
    exact Changes.then_same (noted.trans emptied) (finish_same ..)
  · exact (finish_same ..).changes

/-! ## Joining -/

theorem refuseJoin_changes (i : Identity) (x : RefusalReason) (s : State) : Changes s (s.refuseJoin i x) := by
  unfold State.refuseJoin
  cases x <;> exact (State.SameTables.of_frame rfl).changes

/-- A record's offer under way fits R1 and R2. -/
theorem offered_fits {s : State} {r : Record} {o : Origin} {requested : Nat} (ranged : s.Ranged) (h : r.fits = true)
    (state : (r.state = .reserved ∧ o = .reserved) ∨ ((r.state = .bound ∨ r.state = .lapsed) ∧ o = .rebind)) :
    ({ r with state := .offered, attempts := 0,
              offer := some { origin := o, term := s.grantTerm requested, wait := s.params.offerWait } } : Record).fits
      = true := by
  have term := s.termFits_grantTerm ranged requested
  have wait : s.params.offerWait ≤ 255 := by
    simp only [State.Ranged, Params.inRange, Bool.and_eq_true, decide_eq_true_eq] at ranged
    omega
  refine (Record.fits_offered rfl).mpr ⟨_, rfl, ?_, term, wait, ?_⟩
  · rcases state with ⟨state, rfl⟩ | ⟨state | state, rfl⟩
    · obtain ⟨-, term, granted, quiet, -⟩ := (Record.fits_reserved state).mp h
      simp [Record.offeredFits, term, granted, quiet]
    · obtain ⟨-, -, ⟨g, granted, -⟩, -⟩ := (Record.fits_bound state).mp h
      simp [Record.offeredFits, granted]
    · obtain ⟨-, -, -, ⟨g, granted, -⟩, -⟩ := (Record.fits_lapsed state).mp h
      simp [Record.offeredFits, granted]
  · obtain ⟨term, granted, quiet⟩ := Record.ranges_of_fits h
    refine ⟨term, granted, quiet, rfl, ?_⟩
    rcases state with ⟨state, -⟩ | ⟨state | state, -⟩
    · obtain ⟨-, -, -, -, -, rival, hold⟩ := (Record.fits_reserved state).mp h
      exact ⟨rival, hold⟩
    · obtain ⟨-, -, -, -, -, rival, hold⟩ := (Record.fits_bound state).mp h
      exact ⟨rival, hold⟩
    · obtain ⟨-, -, -, -, -, -, rival, hold⟩ := (Record.fits_lapsed state).mp h
      exact ⟨rival, hold⟩

/-- Outside DISPUTED no rival stands. -/
theorem Record.rival_eq_none {r : Record} (h : r.rivalFits = true) (state : r.state ≠ .disputed) : r.rival = none := by
  unfold Record.rivalFits at h
  split at h
  · simp [state] at h
  · assumption

theorem offerAgain_changes {s : State} {r : Record} {o : Origin} {requested : Nat} (mem : r ∈ s.directory.records)
    (room : s.countIn .offered < Config.maxOffered)
    (state : (r.state = .reserved ∧ o = .reserved) ∨ ((r.state = .bound ∨ r.state = .lapsed) ∧ o = .rebind)) :
    Changes s (s.offerAgain o r requested) := by
  have calm : r.state ≠ .disputed := by rcases state with ⟨h, -⟩ | ⟨h | h, -⟩ <;> simp [h]
  refine Changes.then_same (Edits.changes (withdrawRecord_edits mem ?_ (by simp))) (queueReply_same ..)
  exact {
    address := rfl
    fits := fun ranged h => offered_fits ranged h state
    named := fun valid rival => ⟨valid, by simp [Record.rivalFits, Record.rival_eq_none rival calm]⟩
    unique := .inl rfl
    offers := fun _ => .inr room }

theorem resendOffer_changes {s : State} {r : Record} (mem : r ∈ s.directory.records) (state : r.state = .offered) :
    Changes s (s.resendOffer r) := by
  unfold State.resendOffer
  split
  · next o offer =>
    refine Changes.then_same (Edits.changes ?_) (queueReply_same ..)
    refine updateRecord_edits mem ⟨rfl, rfl, rfl, rfl⟩ fun ranged h => ?_
    have wait : s.params.offerWait ≤ 255 := by
      simp only [State.Ranged, Params.inRange, Bool.and_eq_true, decide_eq_true_eq] at ranged
      omega
    obtain ⟨o', offer', fits, term, -, rest⟩ := (Record.fits_offered state).mp h
    obtain rfl : o = o' := Option.some.inj (offer.symm.trans offer')
    exact (Record.fits_offered (by exact state)).mpr ⟨_, rfl, fits, term, wait, rest⟩
  · exact (queueReply_same ..).changes

theorem joinKnown_changes {s : State} {r : Record} (requested : Nat) (mem : r ∈ s.directory.records) :
    Changes s (s.joinKnown r requested) := by
  unfold State.joinKnown
  split
  · next state =>
    split
    · next room => exact offerAgain_changes mem room (.inl ⟨state, rfl⟩)
    · exact refuseJoin_changes ..
  · next state =>
    split
    · next room => exact offerAgain_changes mem room (.inr ⟨.inl state, rfl⟩)
    · exact refuseJoin_changes ..
  · next state =>
    split
    · next room => exact offerAgain_changes mem room (.inr ⟨.inr state, rfl⟩)
    · exact refuseJoin_changes ..
  · next state => exact resendOffer_changes mem state
  · exact refuseJoin_changes ..

theorem chooseAddress_mem {s : State} {hint a : Nat} {i : Identity} (chosen : s.chooseAddress hint i = some a) :
    a ∈ s.pool.free ∨ ∃ q ∈ s.pool.quarantine, q.address = a := by
  unfold State.chooseAddress at chosen
  split at chosen
  · next free =>
    obtain rfl := Option.some.inj chosen
    exact .inl (by simpa using free)
  split at chosen
  · next quarantined =>
    obtain rfl := Option.some.inj chosen
    obtain ⟨q, hq, h⟩ := List.any_eq_true.mp quarantined
    simp only [Bool.and_eq_true, beq_iff_eq] at h
    exact .inr ⟨q, hq, h.1⟩
  · exact .inl (List.mem_of_mem_head? chosen)

theorem offerNew_changes {s : State} {i : Identity} {a requested : Nat} (valid : validIdentity i = true)
    (place : a ∈ s.pool.free ∨ ∃ q ∈ s.pool.quarantine, q.address = a) (new : s.recordOf i = none)
    (room : s.directory.records.length < Config.maxRecords) (offers : s.countIn .offered < Config.maxOffered) :
    Changes s (s.offerNew i a requested) := by
  refine Changes.then_same (.single (.edit (.create ?_))) (queueReply_same ..)
  exact {
    place := place.elim .inl fun h => .inr (.inl h)
    room := room
    fits := fun ranged => by
      have term := s.termFits_grantTerm ranged requested
      simp only [State.Ranged, Params.inRange, Bool.and_eq_true, decide_eq_true_eq] at ranged
      have wait : s.params.offerWait ≤ 255 := by omega
      exact (Record.fits_offered rfl).mpr
        ⟨_, rfl, rfl, term, wait, Nat.zero_le _, rfl, Nat.zero_le _, rfl, rfl, rfl⟩
    named := ⟨valid, rfl⟩
    new := new
    offers := fun _ => offers
    live := by simp }

theorem takeJoin_changes {i : Identity} (valid : validIdentity i = true) (hint requested : Nat) (s : State) :
    Changes s (s.takeJoin i hint requested) := by
  unfold State.takeJoin
  split
  · exact refuseJoin_changes ..
  split
  · exact refuseJoin_changes ..
  split
  · next r found => exact joinKnown_changes requested (State.mem_of_recordOf found).1
  next new =>
  split
  · exact refuseJoin_changes ..
  next room =>
  split
  · exact refuseJoin_changes ..
  next offers =>
  split
  · next a chosen =>
    exact offerNew_changes valid (chooseAddress_mem chosen) new (Nat.lt_of_not_le room) (Nat.lt_of_not_le offers)
  · exact refuseJoin_changes ..

theorem completeOffer_changes {s : State} {r : Record} {o : OfferContext} (mem : r ∈ s.directory.records)
    (state : r.state = .offered) (offer : r.offer = some o) : Changes s (s.completeOffer r o.term) :=
  (bindTerm_edits mem fun _ h => by
    obtain ⟨o', offer', -, term, -⟩ := (Record.fits_offered state).mp h
    obtain rfl : o = o' := Option.some.inj (offer.symm.trans offer')
    exact ⟨term, Nat.zero_le _⟩).changes

theorem takeAccept_changes (a : Nat) (i : Identity) (s : State) : Changes s (s.takeAccept a i) := by
  unfold State.takeAccept
  split
  · next r found =>
    split
    · next o offer =>
      split
      · next h =>
        exact (completeOffer_changes (State.mem_of_recordAt found).1 h.1 offer).tail (.rivals i)
      · exact (claimOrDrop_same ..).changes
    · exact (claimOrDrop_same ..).changes
  · exact (claimOrDrop_same ..).changes

theorem expireOffer_changes {s : State} {r : Record} {o : OfferContext} (mem : r ∈ s.directory.records)
    (state : r.state = .offered) (offer : r.offer = some o) : Changes s (s.expireOffer r o) := by
  unfold State.expireOffer
  split
  · exact .single (.edit (.ends mem (by simp)))
  · next origin =>
    have fits : r.fits = true → ({ r with state := .reserved, term := 0, attempts := 0, offer := none } : Record).fits
        = true := fun h => by
      obtain ⟨o', offer', fits, -, -, -, -, -, -, rival, hold⟩ := (Record.fits_offered state).mp h
      obtain rfl : o = o' := Option.some.inj (offer.symm.trans offer')
      simp only [Record.offeredFits, origin, Bool.and_eq_true, beq_iff_eq, Option.isNone_iff_eq_none] at fits
      obtain ⟨⟨-, granted⟩, quiet⟩ := fits
      exact (Record.fits_reserved rfl).mpr ⟨rfl, rfl, granted, quiet, rfl, rival, hold⟩
    refine Edits.changes (alterRecord_edits mem ?_ (by simp [state]) rfl)
    exact {
      address := rfl
      fits := fun _ => fits
      named := fun valid rival => ⟨valid, by
        simp [Record.rivalFits, Record.rival_eq_none rival (by simp [state])]⟩
      unique := .inl rfl
      offers := by simp }
  · next origin =>
    split
    · exact (bindTerm_edits (r := r) (term := s.grantedOf r) mem fun ranged h =>
        have ⟨_, _, quiet⟩ := Record.ranges_of_fits h
        ⟨s.termFits_grantedOf ranged h, quiet⟩).changes
    · next pinned =>
      exact (lapseRecord_edits mem (by simpa using pinned) (.inr ⟨state, by simp [offer, origin]⟩)).changes

end Sys2Proof.Machine
end

section
/-! SUPPORT. Runs of changes, continued: renewal and departure, the census, the Prober, the Epoch Clock and the line. -/

namespace Sys2Proof.Machine

/-! ## Renewal, departure and evidence -/

theorem grantRenew_changes {s : State} {r : Record} (requested : Nat) (mem : r ∈ s.directory.records)
    (state : r.state = .bound ∨ r.state = .lapsed) : Changes s (s.grantRenew r requested) := by
  unfold State.grantRenew
  dsimp only
  split
  · exact Edits.changes (bindTerm_edits mem fun ranged _ => ⟨s.termFits_grantTerm ranged requested, Nat.zero_le _⟩)
  · next live =>
    have bound : r.state = .bound := state.resolve_right live
    refine Edits.changes (updateRecord_edits mem ⟨rfl, rfl, rfl, rfl⟩ fun ranged h => ?_)
    exact Record.fits_renewed bound (s.termFits_grantTerm ranged requested) (Nat.zero_le _) rfl h

theorem rivalAllowed_none (r : Record) : RivalAllowed r none := fun _ h => nomatch h

theorem rivalAllowed_some {r : Record} {i : Identity} (valid : validIdentity i = true) (other : r.identity ≠ i) :
    RivalAllowed r (some i) := fun _ h => Option.some.inj h ▸ ⟨valid, other.symm⟩

theorem takeEvidence_changes {s : State} {r : Record} {i : Identity} (mem : r ∈ s.directory.records)
    (valid : validIdentity i = true) : Changes s (s.takeEvidence r i) := by
  unfold State.takeEvidence
  split
  · next state => exact (fillRival_edits mem state valid).changes
  split
  · exact .refl
  · next other => exact (raiseDispute_edits mem (rivalAllowed_some valid other)).changes

theorem takeRenew_changes (a : Nat) {i : Identity} (requested : Nat) (valid : validIdentity i = true) (s : State) :
    Changes s (s.takeRenew a i requested) := by
  unfold State.takeRenew
  split
  · exact (queueReply_same ..).changes
  next r found =>
  obtain ⟨mem, -⟩ := State.mem_of_recordAt found
  have evidence := (takeEvidence_changes mem valid).then_same (queueReply_same .reply (renewReply a .disputed 0) _)
  have granted : r.state = .bound ∨ r.state = .lapsed → Changes s (if r.identity = i then
      (s.grantRenew r requested).queueReply .reply (renewReply a .ok (s.grantTerm requested))
      else (s.takeEvidence r i).queueReply .reply (renewReply a .disputed 0)) := fun state => by
    split
    · exact (grantRenew_changes requested mem state).then_same (queueReply_same ..)
    · exact evidence
  split
  · exact (queueReply_same ..).changes
  · exact (queueReply_same ..).changes
  · exact evidence
  · next state => exact granted (.inl state)
  · next state => exact granted (.inr state)

theorem takeLeave_changes (a : Nat) (i : Identity) (s : State) : Changes s (s.takeLeave a i) := by
  unfold State.takeLeave
  split
  · exact .refl
  next r found =>
  have retired : Changes s (if r.identity = i then s.retire r else s) := by
    split
    · exact (retire_edits (State.mem_of_recordAt found).1).changes
    · exact .refl
  split
  · exact retired
  · exact retired
  · exact retired
  · exact .refl
  · exact .refl

theorem takeResolveIdentity_changes (a : Nat) (i : Identity) (s : State) : Changes s (s.takeResolveIdentity a i) := by
  unfold State.takeResolveIdentity
  split <;> exact (queueReply_same ..).changes

theorem takeResolveAddress_changes (a b : Nat) (s : State) : Changes s (s.takeResolveAddress a b) := by
  unfold State.takeResolveAddress
  split <;> exact (queueReply_same ..).changes

theorem takeClashReport_changes (a : Nat) {i : Identity} (valid : validIdentity i = true) (s : State) :
    Changes s (s.takeClashReport a i) := by
  unfold State.takeClashReport
  split
  · exact .refl
  next r found =>
  obtain ⟨mem, -⟩ := State.mem_of_recordAt found
  have raised : Changes s (s.raiseDispute r (if r.identity = i then none else some i)) := by
    refine (raiseDispute_edits mem ?_).changes
    split
    · exact rivalAllowed_none r
    · next other => exact rivalAllowed_some valid other
  split
  · exact raised
  · exact raised
  · next state => exact (fillRival_edits mem state valid).changes
  · exact .refl
  · exact .refl

/-! ## The census -/

theorem queueCensus_same (s : State) : s.SameTables s.queueCensus := by
  unfold State.queueCensus
  dsimp only
  split
  · exact setQueue_same ..
  · exact claimOrDrop_same ..

theorem beginCensus_same (s : State) : s.SameTables s.beginCensus := (setCensus_same _ s).trans (queueCensus_same _)

theorem finishCensus_same (s : State) : s.SameTables s.finishCensus := .of_frame rfl

theorem startCensus_changes (s : State) : Changes s s.startCensus := by
  unfold State.startCensus
  split
  · exact ((beginCensus_same s).trans (finish_same ..)).changes
  · exact (finish_same ..).changes

theorem endCensus_changes (s : State) : Changes s s.endCensus := by
  unfold State.endCensus
  split
  · exact ((finishCensus_same s).trans (finish_same ..)).changes
  · exact (finish_same ..).changes

theorem addClaimGroups_changes {a : Nat} (gs : List Nat) {s : State} (held : a ∈ s.addresses) :
    Changes s (s.addClaimGroups a gs).1 := by
  induction gs generalizing s with
  | nil => exact .refl
  | cons g gs ih =>
    unfold State.addClaimGroups
    split
    · exact ih held
    next fits =>
    split
    · exact .refl
    next entry =>
    simp only [Bool.or_eq_true, decide_eq_true_eq, not_or, Bool.not_eq_true] at fits
    obtain ⟨⟨-, new⟩, room⟩ := fits
    exact (addMember_changes held new room entry).trans (ih held)

theorem answerGranted_changes {a : Nat} (term : Nat) (gs : List Nat) {s : State} (held : a ∈ s.addresses) :
    Changes s (s.answerGranted a term gs) :=
  (addClaimGroups_changes gs held).then_same (queueReply_same ..)

theorem answerClaim_same (a : Nat) (o : ClaimOutcome) (s : State) : s.SameTables (s.answerClaim a o) :=
  queueReply_same _ _ s

theorem claimedRecord_fits {a : Nat} {i : Identity} {term : Nat} (fits : termFits term = true) :
    (claimedRecord a i term).fits = true :=
  Record.bound_fits (r := claimedRecord a i term) rfl fits (termFits_iff.mp fits).2 (Nat.zero_le _)

theorem grantClaim_changes {s : State} {r : Record} {requested : Nat} (mem : r ∈ s.directory.records) :
    Changes s (s.grantClaim r (s.grantTerm requested)) := by
  unfold State.grantClaim
  dsimp only
  split
  · next bound =>
    refine Edits.changes (updateRecord_edits mem ⟨rfl, rfl, rfl, rfl⟩ fun ranged h => ?_)
    exact Record.fits_renewed bound (s.termFits_grantTerm ranged requested) (Nat.zero_le _) rfl h
  · exact Edits.changes (bindTerm_edits mem fun ranged _ => ⟨s.termFits_grantTerm ranged requested, Nat.zero_le _⟩)

theorem addresses_grantClaim {s : State} {r : Record} (term : Nat) : (s.grantClaim r term).addresses = s.addresses := by
  unfold State.grantClaim
  dsimp only
  split <;> exact map_address_replaceRecord _ _

theorem claimAgainst_changes {s : State} {r : Record} {i : Identity} {requested : Nat} (gs : List Nat)
    (mem : r ∈ s.directory.records) (valid : validIdentity i = true) (other : r.identity ≠ i)
    (unique : s.HeldOnlyAt i r.address) : Changes s (s.claimAgainst r i (s.grantTerm requested) gs) := by
  have raised : Changes s ((s.raiseDispute r (some i)).answerClaim r.address .disputed) :=
    (raiseDispute_edits mem (rivalAllowed_some valid other)).changes.then_same (answerClaim_same ..)
  unfold State.claimAgainst
  split
  · exact raised
  · exact raised
  · exact raised
  · next state => exact (fillRival_edits mem state valid).changes.then_same (answerClaim_same ..)
  · split
    · exact raised
    · have supplanted : Edit s ((s.endRecord .passedOn r).createRecord
          (claimedRecord r.address i (s.grantTerm requested))) :=
        .supplant mem {
          address := rfl
          fits := fun ranged => claimedRecord_fits (s.termFits_grantTerm ranged requested)
          named := ⟨valid, rfl⟩
          unique := unique
          settled := by simp [claimedRecord] }
      exact .trans (.single (.edit supplanted))
        (answerGranted_changes _ gs (State.mem_addresses_createRecord.mpr (.inl rfl)))

theorem decideClaim_changes {a : Nat} {i : Identity} (requested : Nat) (gs : List Nat) (valid : validIdentity i = true)
    (inRange : leasable a = true) (s : State) : Changes s (s.decideClaim a i requested gs) := by
  unfold State.decideClaim
  dsimp only
  split
  · exact (answerClaim_same ..).changes
  next elsewhere =>
  have unique : s.HeldOnlyAt i a := fun p found => by simpa [found] using elsewhere
  split
  · next none =>
    split
    · exact (answerClaim_same ..).changes
    next room =>
    have new : s.recordOf i = Option.none := by
      cases found : s.recordOf i with
      | none => rfl
      | some p => exact absurd (unique p found) (State.recordAt_eq_none.mp none p (State.mem_of_recordOf found).1)
    have created : Edit s ((s.takeAddress a).createRecord (claimedRecord a i (s.grantTerm requested))) :=
      .create (r := claimedRecord a i (s.grantTerm requested)) {
        place := .inr (.inr ⟨inRange, none⟩)
        room := Nat.lt_of_not_le room
        fits := fun ranged => claimedRecord_fits (s.termFits_grantTerm ranged requested)
        named := ⟨valid, rfl⟩
        new := new
        offers := by simp [claimedRecord]
        live := by simp [claimedRecord] }
    exact .trans (.single (.edit created))
      (answerGranted_changes _ gs (State.mem_addresses_createRecord.mpr (.inl rfl)))
  · next r found =>
    obtain ⟨mem, address⟩ := State.mem_of_recordAt found
    split
    · split
      · exact (answerClaim_same ..).changes
      · refine (grantClaim_changes mem).trans (answerGranted_changes _ gs ?_)
        rw [addresses_grantClaim, ← address]
        exact State.mem_addresses_of_mem mem
    · next other => exact claimAgainst_changes gs mem valid other (address ▸ unique)

theorem takeClaim_changes {a : Nat} {i : Identity} (requested : Nat) (gs : List Nat) (valid : validIdentity i = true)
    (inRange : leasable a = true) (s : State) : Changes s (s.takeClaim a i requested gs) := by
  unfold State.takeClaim
  split
  · exact decideClaim_changes requested gs valid inRange s
  · exact (answerClaim_same ..).changes

/-! ## The Prober -/

theorem State.target_of_context {s : State} {c : ProbeContext} (context : s.prober.context = some c) :
    s.target = some (c.target, c.identity) := by simp [State.target, context]

/-- The probe of a record still LAPSED ends, and the record goes to the tail of the list. -/
theorem releaseLapsed_changes {s : State} {c : ProbeContext} {r : Record} (context : s.prober.context = some c)
    (found : s.recordAt c.target = some r) (identity : r.identity = c.identity) (lapsed : r.state = .lapsed) :
    Changes s (s.emptyContext.appendLapse r.address) := by
  obtain ⟨-, address⟩ := State.mem_of_recordAt found
  rw [address]
  exact .single (.edit (.release (State.target_of_context context) (.tail found identity lapsed)))

/-- The probe of a record that is not LAPSED, or is gone, ends. -/
theorem releaseOther_changes {s : State} {c : ProbeContext} (context : s.prober.context = some c)
    (other : ∀ r, s.recordAt c.target = some r → r.identity = c.identity → r.state ≠ .lapsed) :
    Changes s s.emptyContext :=
  .single (.edit (.release (State.target_of_context context) (.kept other)))

/-! A record that leaves the lapse list, or ends, leaves it also where it was put there just before. -/

theorem State.appendLapse_endDispute (r : Record) (s : State) :
    (s.appendLapse r.address).endDispute r = s.endDispute r := by
  simp [State.endDispute, State.bindRecord_eq, State.refreshed, State.grantedOf, State.grantTerm, State.appendLapse,
    State.setDirectory, State.markOf]

theorem State.appendLapse_retire (r : Record) (s : State) : (s.appendLapse r.address).retire r = s.retire r := by
  simp [State.retire, State.endRecord_eq, State.returnAddress_quarantineTail, State.appendLapse, State.setDirectory,
    State.markOf]

theorem State.appendLapse_enterDisputed (r : Record) (rival : Option Identity) (s : State) :
    (s.appendLapse r.address).enterDisputed r rival = s.enterDisputed r rival := by
  simp [State.enterDisputed_eq, State.appendLapse, State.setDirectory, State.markOf]

theorem State.appendLapse_raiseDispute (r : Record) (rival : Option Identity) (s : State) :
    (s.appendLapse r.address).raiseDispute r rival = s.raiseDispute r rival := by
  unfold State.raiseDispute
  rw [State.appendLapse_enterDisputed]
  rfl

/-- Writing a record just before it ends changes nothing more. -/
theorem State.putRecord_retire {r q : Record} (address : q.address = r.address) (identity : q.identity = r.identity)
    (s : State) : (s.putRecord q).retire q = s.retire r := by
  have gone : removeRecord r.address (replaceRecord q s.directory.records)
      = removeRecord r.address s.directory.records := by
    simp only [removeRecord, replaceRecord, address]
    induction s.directory.records with
    | nil => rfl
    | cons p ps ih =>
      by_cases hp : p.address = r.address <;> simp [hp, address, ih]
  simp [State.retire, State.endRecord_eq, State.returnAddress_quarantineTail, State.putRecord_eq, State.markOf, address,
    identity, gone]

theorem applyLapseOutcome_changes {s : State} {c : ProbeContext} {o : ProbeOutcome} {r : Record}
    (context : s.prober.context = some c) (kind : c.kind = .lapse) (found : s.recordAt c.target = some r)
    (identity : r.identity = c.identity) (lapsed : r.state = .lapsed)
    (valid : ∀ i, o = .reply i → validIdentity i = true) : Changes s (s.emptyContext.applyOutcome c o r) := by
  have released := releaseLapsed_changes context found identity lapsed
  have mem : r ∈ (s.emptyContext.appendLapse r.address).directory.records := (State.mem_of_recordAt found).1
  unfold State.applyOutcome
  rw [kind]
  cases o with
  | reply i =>
    dsimp only
    split
    · refine released.trans ?_
      have bound : Changes _ ((s.emptyContext.appendLapse r.address).endDispute r) := (bindRefreshed_edits mem).changes
      rwa [State.appendLapse_endDispute] at bound
    · next other =>
      refine released.trans ?_
      have raised := (raiseDispute_edits mem (rivalAllowed_some (valid i rfl) (Ne.symm other))).changes
      rwa [State.appendLapse_raiseDispute] at raised
  | noAnswer =>
    dsimp only
    unfold State.failLapseProbe
    dsimp only
    refine released.trans ?_
    split
    · next below =>
      have put : Changes (s.emptyContext.appendLapse r.address)
          ((s.emptyContext.appendLapse r.address).putRecord { r with attempts := c.attempt }) := by
        refine Edits.changes (updateRecord_edits mem ⟨rfl, rfl, rfl, rfl⟩ fun ranged h => ?_)
        have limit : s.params.probeAttempts ≤ 7 := by
          have ranged : s.Ranged := ranged
          simp only [State.Ranged, Params.inRange, Bool.and_eq_true, decide_eq_true_eq] at ranged
          omega
        have few : c.attempt ≤ 6 := Nat.le_of_lt_succ (Nat.lt_of_lt_of_le below limit)
        obtain ⟨offer, pinned, term, granted, quiet, -, rest⟩ := (Record.fits_lapsed lapsed).mp h
        exact (Record.fits_lapsed (by exact lapsed)).mpr ⟨offer, pinned, term, granted, quiet, few, rest⟩
      exact put
    · rw [State.putRecord_retire (r := r) (q := { r with attempts := c.attempt }) rfl rfl, ← State.appendLapse_retire]
      exact (retire_edits mem).changes

theorem applySweepOutcome_changes {s : State} {c : ProbeContext} {o : ProbeOutcome} {r : Record}
    (context : s.prober.context = some c) (kind : c.kind = .sweep) (found : s.recordAt c.target = some r)
    (bound : r.state = .bound) (unpinned : o = .noAnswer → r.pinned = false)
    (valid : ∀ i, o = .reply i → validIdentity i = true) : Changes s (s.emptyContext.applyOutcome c o r) := by
  have released := releaseOther_changes context fun p hp _ => by
    obtain rfl : r = p := Option.some.inj (found.symm.trans hp)
    simp [bound]
  have mem : r ∈ s.emptyContext.directory.records := (State.mem_of_recordAt found).1
  unfold State.applyOutcome
  rw [kind]
  refine released.trans ?_
  cases o with
  | reply i =>
    dsimp only
    split
    · refine Edits.changes (updateRecord_edits mem ⟨rfl, rfl, rfl, rfl⟩ fun ranged h => ?_)
      obtain ⟨-, -, -, -, attempts, -⟩ := (Record.fits_bound bound).mp h
      exact Record.fits_renewed (r := r) bound (s.termFits_grantedOf ranged h) (Nat.zero_le _) attempts h
    · next other => exact (raiseDispute_edits mem (rivalAllowed_some (valid i rfl) (Ne.symm other))).changes
  | noAnswer => exact (lapseRecord_edits mem (unpinned rfl) (.inl bound)).changes

theorem placeDiscarded_changes {s : State} {c : ProbeContext} (context : s.prober.context = some c) :
    Changes s (s.emptyContext.placeDiscarded c) := by
  have same : s.emptyContext.recordAt c.target = s.recordAt c.target := rfl
  unfold State.placeDiscarded
  rw [same]
  split
  · next r found =>
    split
    · next h => exact releaseLapsed_changes context found h.1 h.2
    · next h =>
      exact releaseOther_changes context fun p hp identity lapsed => h (by
        obtain rfl : r = p := Option.some.inj (found.symm.trans hp)
        exact ⟨identity, lapsed⟩)
  · next none => exact releaseOther_changes context fun p hp => by simp [none] at hp

theorem endAttempt_changes {o : ProbeOutcome} (valid : ∀ i, o = .reply i → validIdentity i = true) (s : State) :
    Changes s (s.endAttempt o) := by
  unfold State.endAttempt
  split
  · exact .refl
  next c context =>
  split
  · next r applies =>
    unfold State.outcomeTarget at applies
    split at applies
    · next p found =>
      split at applies
      · next h =>
        obtain rfl := Option.some.inj applies
        obtain ⟨identity, state, unpinned⟩ := h
        cases kind : c.kind with
        | lapse =>
          have lapsed : p.state = .lapsed := by simpa [kind, ProbeKind.expected] using state
          exact applyLapseOutcome_changes context kind found identity lapsed valid
        | sweep =>
          have bound : p.state = .bound := by simpa [kind, ProbeKind.expected] using state
          refine applySweepOutcome_changes context kind found bound (fun silent => ?_) valid
          simpa [kind, silent] using unpinned
      · exact nomatch applies
    · exact nomatch applies
  · exact placeDiscarded_changes context

theorem noAnswer_changes (s : State) : Changes s (s.endAttempt .noAnswer) := endAttempt_changes (by simp) s

theorem takeProbeReply_changes (a : Nat) {i : Identity} (valid : validIdentity i = true) (s : State) :
    Changes s (s.takeProbeReply a i) := by
  unfold State.takeProbeReply
  split
  · split
    · exact endAttempt_changes (fun j h => ProbeOutcome.reply.inj h ▸ valid) s
    · exact .refl
  · exact .refl

theorem discardContext_changes (s : State) : Changes s s.discardContext := by
  unfold State.discardContext
  split
  · exact .refl
  next c context =>
  split
  · next r found =>
    split
    · next h =>
      obtain ⟨-, address⟩ := State.mem_of_recordAt found
      rw [address]
      exact .single (.edit (.release (State.target_of_context context) (.head found h.1 h.2)))
    · next h =>
      exact releaseOther_changes context fun p hp identity lapsed => h (by
        obtain rfl : r = p := Option.some.inj (found.symm.trans hp)
        exact ⟨identity, lapsed⟩)
  · next none => exact releaseOther_changes context fun p hp => by simp [none] at hp

theorem endPass_same (w : Sweep) (s : State) : s.SameTables (s.endPass w) := by
  unfold State.endPass
  dsimp only
  split
  · exact (setSweep_same _ s).trans (raise_same ..)
  · exact setSweep_same _ s

theorem sweepOn_changes (w : Sweep) {s : State} (idle : s.prober.context = none) : Changes s (s.sweepOn w) := by
  unfold State.sweepOn
  split
  · next r found =>
    have bound : r.state = .bound := by
      have := List.find?_some found
      simp only [Sweep.candidate, Bool.and_eq_true, beq_iff_eq] at this
      obtain ⟨⟨⟨⟨bound, -⟩, -⟩, -⟩, -⟩ := this
      exact bound
    have aimed : Edit (s.setProber { s.prober with sweep := some { w with cursor := r.address + 1 } }) _ :=
      .aim (r := r)
        (c := { target := r.address, identity := r.identity, kind := .sweep, attempt := 1, phase := .queued })
        (List.mem_of_find?_eq_some found) idle rfl rfl (.inr ⟨by simp [bound], rfl⟩)
    exact Changes.then_same (((setSweep_same _ s).changes).tail (.edit aimed)) (enqueue_same ..)
  · exact (endPass_same w s).changes

theorem choose_changes {s : State} (idle : s.prober.context = none) : Changes s s.choose := by
  unfold State.choose
  split
  · next a rest list =>
    split
    · next r found =>
      obtain ⟨mem, rfl⟩ := State.mem_of_recordAt found
      have aimed := Edit.aim (s := s) (r := r)
        (c := { target := r.address, identity := r.identity, kind := .lapse, attempt := r.attempts + 1,
                phase := .queued })
        mem idle rfl rfl (.inl rfl)
      exact Changes.then_same (.single (.edit aimed)) (enqueue_same ..)
    · exact .refl
  · split
    · split
      · exact sweepOn_changes _ idle
      · exact .refl
    · exact .refl

theorem startSweep_changes (s : State) : Changes s s.startSweep := by
  unfold State.startSweep
  split
  · split
    · exact ((setSweep_same _ s).trans (finish_same ..)).changes
    · exact (finish_same ..).changes
  · exact (finish_same ..).changes

theorem stopSweep_changes (s : State) : Changes s s.stopSweep := ((setSweep_same _ s).trans (finish_same ..)).changes

/-! ## The Epoch Clock -/

theorem ageTerms_changes (s : State) : Changes s s.ageTerms :=
  .tail (.single (.edit (.map keepsIdentity_aged fun _ => Record.aged_fits))) .lapses

theorem countQuiet_changes (s : State) : Changes s s.countQuiet :=
  .single (.edit (.map keepsIdentity_quieter fun _ => Record.quieter_fits))

theorem directoryPart_changes (s : State) : Changes s s.directoryPart :=
  Changes.then_same (((ageTerms_changes s).trans (countQuiet_changes _)).tail .holds)
    ⟨rfl, rfl, rfl, rfl, rfl, rfl, rfl⟩

theorem proberPart_same (s : State) : s.SameTables s.proberPart := by
  unfold State.proberPart
  split
  · split
    · exact setSweep_same _ s
    · exact .refl s
  · exact .refl s

theorem censusPart_same (s : State) : s.SameTables s.censusPart := by
  unfold State.censusPart
  split
  · split
    · exact (setCensus_same ..).trans (queueCensus_same _)
    · exact finishCensus_same s
  · exact .refl s

theorem partOf_changes (o : EpochOwner) (s : State) : Changes s (s.partOf o) := by
  cases o with
  | leaseDirectory => exact directoryPart_changes s
  | addressPool => exact .single (.edit .pool)
  | prober => exact (proberPart_same s).changes
  | censusUnit => exact (censusPart_same s).changes

theorem takePart_changes (o : EpochOwner) (s : State) : Changes s (s.takePart o) := by
  unfold State.takePart
  split
  · exact .refl
  · exact (partOf_changes o s).then_same (setClock_same ..)

theorem takeParts_changes (order : List EpochOwner) (s : State) : Changes s (s.takeParts order) :=
  List.foldlRecOn _ _ .refl fun _ hu o _ => hu.trans (takePart_changes o _)

theorem expire_changes (order : List EpochOwner) (s : State) : Changes s (s.expire order) :=
  (takeParts_changes order s).then_same (setClock_same ..)

theorem finishExpiry_changes (s : State) : Changes s s.finishExpiry := by
  unfold State.finishExpiry
  split
  · exact expire_changes [] s
  · exact .refl

theorem countBits_same (s : State) : s.SameTables s.countBits := .of_frame s.countBits_frame

theorem tick_changes (s : State) : Changes s s.tick := by
  have waited : Changes s (s.mapRecords Record.waited) :=
    .single (.edit (.map keepsIdentity_waited fun _ => Record.waited_fits))
  have same := countBits_same s
  refine waited.then_same ⟨?_, same.lapseList, same.marks, same.pool, same.groups, same.params, ?_⟩
  · exact congrArg (List.map Record.waited) same.records
  · have target : s.tick.target = s.countBits.target := by
      have kept : ∀ c : ProbeContext, (c.waited.target, c.waited.identity) = (c.target, c.identity) := fun c => by
        unfold ProbeContext.waited
        split <;> rfl
      simp only [State.target, State.tick, Option.map_map, Function.comp_def, kept]
    exact target.trans same.target

/-! ## The line -/

theorem report_changes (o : Originator) (sent : Bool) (s : State) : Changes s (s.report o sent) := by
  unfold State.report
  split
  · split
    · next c context =>
      split
      · split
        · refine State.SameTables.changes ⟨rfl, rfl, rfl, rfl, rfl, rfl, ?_⟩
          simp [State.target, context]
        · exact noAnswer_changes s
      · exact .refl
    · exact .refl
  · exact (finish_same ..).changes
  all_goals exact .refl

theorem leaveQueue_changes (e : TxEntry) (sent : Bool) (s : State) : Changes s (s.leaveQueue e sent) :=
  ((setQueue_same _ s).trans (grantWaiting_same _)).changes.trans (report_changes ..)

theorem countAttempt_changes (e : TxEntry) (s : State) : Changes s (s.countAttempt e) := by
  unfold State.countAttempt
  split
  · exact leaveQueue_changes ..
  · exact (setQueue_same ..).changes

theorem settleSlot_changes (e : TxEntry) (dominant : Bool) (s : State) : Changes s (s.settleSlot e dominant) := by
  unfold State.settleSlot
  dsimp only
  split
  · exact leaveQueue_changes ..
  · exact countAttempt_changes ..

theorem changeLine_same (new : LineState) (s : State) : s.SameTables (s.changeLine new) := by
  unfold State.changeLine
  dsimp only
  split <;> exact .of_frame rfl

theorem censusOnline_same (s : State) : s.SameTables s.censusOnline := by
  unfold State.censusOnline
  split
  · exact (setCensus_same ..).trans (beginCensus_same _)
  split
  · exact queueCensus_same s
  · exact .refl s

theorem cutOff_changes (s : State) : Changes s s.cutOff := by
  unfold State.cutOff
  split
  · exact countAttempt_changes ..
  · exact .refl

theorem lineEnable_changes (s : State) : Changes s s.lineEnable := by
  unfold State.lineEnable
  split
  · exact (((changeLine_same _ s).trans (enterPhase_same ..)).trans (finish_same ..)).changes
  · exact (finish_same ..).changes

theorem lineDisable_changes (s : State) : Changes s s.lineDisable := by
  have purged : Changes s s.finishExpiry.purgeAll := (finishExpiry_changes s).then_same (setQueue_same ..)
  have off : s.finishExpiry.purgeAll.discardContext.SameTables s.finishExpiry.purgeAll.discardContext.lineOff :=
    (changeLine_same .disabled _).trans (setLine_same ..)
  exact Changes.then_same (purged.trans (discardContext_changes _))
    ((off.trans (setClock_same ..)).trans (finish_same ..))

theorem setBitRate_changes (s : State) : Changes s s.setBitRate := by
  unfold State.setBitRate
  split
  · exact (finish_same ..).changes
  split
  · exact (finish_same ..).changes
  · exact ((setLine_same ..).trans (finish_same ..)).changes

end Sys2Proof.Machine
end

section
/-! SUPPORT. Runs of changes, concluded: the host's commands, reception, and every command and step. -/

namespace Sys2Proof.Machine

/-! ## The host's commands on the directory -/

theorem reservedRecord_fits (e : ReservationEntry) : (reservedRecord e).fits = true :=
  (Record.fits_reserved rfl).mpr ⟨rfl, rfl, rfl, rfl, rfl, rfl, rfl⟩

/-- A reservation that passes its checks may be made. -/
theorem reserveCheck_allows {s : State} {e : ReservationEntry} (passes : s.reserveCheck e = none) :
    s.MayCreate (reservedRecord e) := by
  unfold State.reserveCheck at passes
  split at passes
  · exact nomatch passes
  next given =>
  split at passes
  · exact nomatch passes
  next free =>
  split at passes
  · exact nomatch passes
  next new =>
  split at passes
  · exact nomatch passes
  next room =>
  simp only [Bool.not_eq_true', Bool.and_eq_false_iff, not_or, Bool.not_eq_false] at given
  obtain ⟨⟨-, valid⟩, -⟩ := given
  refine {
    place := ?_
    room := Nat.lt_of_not_le room
    fits := fun _ => reservedRecord_fits e
    named := ⟨valid, rfl⟩
    new := Option.not_isSome_iff_eq_none.mp new
    offers := by simp [reservedRecord]
    live := by simp [reservedRecord] }
  unfold State.statusOf at free
  split at free
  · next h => exact .inl (by simpa [reservedRecord] using h)
  split at free
  · next h => exact .inr (.inl (by simpa [reservedRecord] using h))
  · exact absurd rfl free

theorem reserveOne_changes (e : ReservationEntry) (s : State) : Changes s (s.reserveOne e).1 := by
  unfold State.reserveOne
  split
  · exact .refl
  · next passes => exact .single (.edit (.create (reserveCheck_allows passes)))

theorem reserve_changes (s : State) : Changes s s.reserve := (reserveOne_changes _ s).then_same (finish_same ..)

theorem reserveAll_changes (es : List ReservationEntry) (s : State) : Changes s (s.reserveAll es).1 := by
  induction es generalizing s with
  | nil => exact .refl
  | cons e es ih => exact (reserveOne_changes e s).trans (ih _)

theorem loadReservations_changes (s : State) : Changes s s.loadReservations := by
  unfold State.loadReservations
  dsimp only
  split
  · have run := reserveAll_changes ((List.range (s.p 0)).map (reservationAt s.port.buffer)) s
    generalize s.reserveAll ((List.range (s.p 0)).map (reservationAt s.port.buffer)) = t at run ⊢
    exact run.then_same (((setPort_same ..).trans (setResults_same ..)).trans (complete_same ..))
  · exact (finish_same ..).changes

/-- A command that names an address acts on the record there or is refused. -/
theorem withRecord_changes {body : Record → State → State}
    (acts : ∀ {r : Record} {s : State}, r ∈ s.directory.records → Changes s (body r s)) (s : State) :
    Changes s (s.withRecord body) := by
  unfold State.withRecord
  split
  · split
    · next r found => exact acts (State.mem_of_recordAt found).1
    · exact (finish_same ..).changes
  · exact (finish_same ..).changes

theorem releaseRecord_changes {r : Record} {s : State} (mem : r ∈ s.directory.records) :
    Changes s (s.releaseRecord r) := by
  unfold State.releaseRecord
  split
  · exact Changes.then_same (.single (.edit (.ends mem (by simp)))) (finish_same ..)
  · exact (finish_same ..).changes

theorem evictRecord_changes {r : Record} {s : State} (mem : r ∈ s.directory.records) : Changes s (s.evictRecord r) := by
  have retired : ∀ f, Changes s ((s.retire r).commandRevoke f) := fun f =>
    (retire_edits mem).changes.then_same (commandRevoke_same f _)
  unfold State.evictRecord
  split
  · exact (finish_same ..).changes
  · split
    · exact retired _
    · exact Changes.then_same (.single (.edit (.ends mem (by simp)))) (finish_same ..)
  · exact retired _
  · exact retired _
  · exact retired _

/-- The pinned flag of a record that is not LAPSED, or that is cleared, is written, and that is an alteration. -/
theorem setPinned_changes {r : Record} {s : State} {b : Bool} (mem : r ∈ s.directory.records)
    (live : r.state = .lapsed → b = false) :
    Changes s ((s.putRecord { r with pinned := b }).note .altered r.address) :=
  Edits.changes (alterRecord_edits mem
    (.of_holder rfl rfl (fun _ h => Record.fits_pinned h b live) (.inr ⟨rfl, rfl⟩) id) Iff.rfl rfl)

theorem pinRecord_changes {r : Record} {s : State} (mem : r ∈ s.directory.records) : Changes s (s.pinRecord r) := by
  unfold State.pinRecord
  split
  · exact (finish_same ..).changes
  split
  · exact (finish_same ..).changes
  split
  · next lapsed =>
    refine Changes.then_same ?_ (finish_same ..)
    refine Edits.changes (bindHolder_edits mem rfl rfl fun _ h => ?_)
    obtain ⟨-, -, term, ⟨g, granted, fits⟩, -⟩ := (Record.fits_lapsed lapsed).mp h
    exact Record.bound_fits granted fits (by simp [term]) (Nat.zero_le _)
  · next live => exact (setPinned_changes mem fun lapsed => absurd lapsed live).then_same (finish_same ..)

theorem unpinRecord_changes {r : Record} {s : State} (mem : r ∈ s.directory.records) : Changes s (s.unpinRecord r) := by
  unfold State.unpinRecord
  split
  · exact (finish_same ..).changes
  split
  · exact (setPinned_changes mem fun _ => rfl).then_same (finish_same ..)
  · exact (finish_same ..).changes

theorem awardRecorded_changes {r : Record} {s : State} (mem : r ∈ s.directory.records) :
    Changes s (s.awardRecorded r) := by
  have bound := (bindRefreshed_edits mem).changes
  unfold State.awardRecorded
  dsimp only
  split
  · exact bound.then_same (commandRevoke_same ..)
  · exact bound.then_same (finish_same ..)

theorem awardRival_changes {r : Record} {i : Identity} {s : State} (mem : r ∈ s.directory.records)
    (rival : r.rival = some i) (unique : s.HeldOnlyAt i r.address) : Changes s (s.awardRival r i) := by
  have struck : Changes s (s.strike r.address) := .single (.edit (.shrink (forall₂_filter_members _ _)))
  unfold State.awardRival
  dsimp only
  refine Changes.then_same (struck.trans (Edits.changes (bindRecord_edits mem ?_))) (commandRevoke_same ..)
  exact {
    address := rfl
    fits := fun ranged _ =>
      have term := s.termFits_grantTerm ranged 0
      Record.bound_fits rfl term (termFits_iff.mp term).2 (Nat.zero_le _)
    named := fun _ h => by
      simp only [Record.rivalFits, rival, Bool.and_eq_true] at h
      obtain ⟨⟨-, valid⟩, -⟩ := h
      exact ⟨valid, rfl⟩
    unique := .inr unique
    offers := by simp [Record.bound] }

theorem award_changes (s : State) : Changes s s.award := by
  unfold State.award
  split
  · exact (finish_same ..).changes
  split
  · exact (finish_same ..).changes
  next r found =>
  obtain ⟨mem, -⟩ := State.mem_of_recordAt found
  split
  · exact (finish_same ..).changes
  split
  · exact awardRecorded_changes mem
  split
  · exact (finish_same ..).changes
  next i rival =>
  split
  · exact (finish_same ..).changes
  · next elsewhere => exact awardRival_changes mem rival fun p held => by simpa [held] using elsewhere

theorem clearDirectory_changes (s : State) : Changes s s.clearDirectory := by
  unfold State.clearDirectory
  dsimp only
  refine Changes.then_same (.single (.edit (.clear ?_))) ((setQueue_same ..).trans (finish_same ..))
  exact {
    records := rfl
    lapseList := rfl
    marks := rfl
    pool := rfl
    count := fun h => by simpa using h
    members := fun g hg => by
      obtain ⟨g, -, rfl⟩ := List.mem_map.mp hg
      rfl
    params := id
    target := rfl }

/-! ## Parameters and reads -/

theorem inRange_eq_some {lo hi v n : Nat} (h : inRange lo hi v = some n) : lo ≤ n ∧ n ≤ hi := by
  unfold inRange at h
  split at h
  · next bounds => exact Option.some.inj h ▸ bounds
  · exact nomatch h

/-- A parameter that Set Parameter takes is in its range. -/
theorem Params.set_inRange {q q' : Params} {id v : Nat} (h : q.set id v = some q') (ranged : q.inRange = true) :
    q'.inRange = true := by
  simp only [Params.inRange, termFits, Bool.and_eq_true, decide_eq_true_eq] at ranged ⊢
  unfold Params.set at h
  split at h
  case h_18 => exact nomatch h
  all_goals obtain ⟨n, taken, rfl⟩ := Option.map_eq_some_iff.mp h
  case h_10 | h_12 | h_13 | h_14 | h_15 | h_16 | h_17 => exact ranged
  all_goals
    have bounds := inRange_eq_some taken
    dsimp only
    omega

theorem setParameter_changes (s : State) : Changes s s.setParameter := by
  unfold State.setParameter
  dsimp only
  split
  · split
    · exact ((setPort_same ..).trans (finish_same ..)).changes
    · exact (finish_same ..).changes
  · split
    · next q taken => exact Changes.then_same (.single (.edit (.tune (Params.set_inRange taken)))) (finish_same ..)
    · exact (finish_same ..).changes

theorem readRecord_changes (s : State) : Changes s s.readRecord := by
  unfold State.readRecord
  dsimp only
  split
  · exact (finish_same ..).changes
  · split <;> exact (State.SameTables.of_frame rfl).changes

theorem readDirectory_changes (s : State) : Changes s s.readDirectory := by
  unfold State.readDirectory
  dsimp only
  split <;> exact (State.SameTables.of_frame rfl).changes

theorem collectChanges_changes (s : State) : Changes s s.collectChanges :=
  Changes.then_same (.single (.edit (.collect Config.snapshotSize))) (.of_frame rfl)

/-! ## The Control Port -/

theorem takeCommand_changes (code : Byte) {body : State → State} (acts : ∀ s, Changes s (body s)) (s : State) :
    Changes s (s.takeCommand code body) := by
  unfold State.takeCommand
  split
  · exact (setPort_same ..).changes
  · exact (setPort_same ..).changes.trans (acts _)

theorem restartPort_same (s : State) : s.SameTables s.restartPort := .of_frame rfl

theorem commandBody_changes (code : Nat) (s : State) : Changes s (commandBody code s) := by
  unfold commandBody
  split
  · exact setParameter_changes s
  · exact (State.SameTables.of_frame rfl).changes
  · exact (State.SameTables.of_frame rfl).changes
  · exact (State.SameTables.of_frame rfl).changes
  · exact reserve_changes s
  · exact loadReservations_changes s
  · exact withRecord_changes releaseRecord_changes s
  · exact clearDirectory_changes s
  · exact withRecord_changes evictRecord_changes s
  · exact withRecord_changes pinRecord_changes s
  · exact withRecord_changes unpinRecord_changes s
  · exact award_changes s
  · exact startCensus_changes s
  · exact endCensus_changes s
  · exact startSweep_changes s
  · exact stopSweep_changes s
  · exact groupAssign_changes s
  · exact groupRemove_changes s
  · exact readGroup_changes s
  · exact setGroupMode_changes s
  · exact clearGroup_changes s
  · exact lineEnable_changes s
  · exact lineDisable_changes s
  · exact setBitRate_changes s
  · exact readRecord_changes s
  · exact readDirectory_changes s
  · exact collectChanges_changes s
  · exact (State.SameTables.of_frame rfl).changes
  · exact (State.SameTables.of_frame rfl).changes
  · exact (finish_same ..).changes

/-- A host command that the code names. -/
theorem takeCode_changes (code : Byte) (s : State) : Changes s (s.takeCommand code (commandBody code.toNat)) :=
  takeCommand_changes code (commandBody_changes code.toNat) s

theorem writeCode_changes (code : Byte) (s : State) : Changes s (s.writeCode code) := by
  unfold State.writeCode
  split
  · exact (restartPort_same s).changes
  · exact takeCode_changes code s

theorem writeBufferByte_same (data : Byte) (s : State) : s.SameTables (s.writeBufferByte data) := by
  unfold State.writeBufferByte
  split
  · exact .refl s
  · exact setPort_same ..

theorem windowWrite_changes (offset : Nat) (data : List Byte) (s : State) : Changes s (s.windowWrite offset data) := by
  unfold State.windowWrite
  split
  · exact .refl
  split
  · exact (setPort_same ..).changes
  split
  · exact writeCode_changes _ s
  split
  · exact (setPort_same ..).changes
  split
  · unfold State.writePointer
    split
    · exact .refl
    · exact (setPort_same ..).changes
  split
  · exact List.foldlRecOn _ _ .refl fun _ hu b _ => Changes.then_same hu (writeBufferByte_same b _)
  · exact .refl

theorem transaction_changes (header : Byte) (data : List Byte) (s : State) : Changes s (s.transaction header data) := by
  unfold State.transaction
  split
  · exact windowWrite_changes ..
  · exact List.foldlRecOn _ _ .refl fun u hu _ _ => Changes.then_same hu (.of_frame (u.readWindowByte_frame _))

/-! ## Reception -/

theorem handleStray_same (a : Nat) (s : State) : s.SameTables (s.handleStray a) := by
  unfold State.handleStray
  split
  · exact .refl s
  · exact ⟨rfl, rfl, rfl, rfl, rfl, rfl, rfl⟩

theorem heardFrom_changes (a : Nat) (limited : Bool) (s : State) : Changes s (s.heardFrom a limited) := by
  unfold State.heardFrom
  split
  · exact (handleStray_same a s).changes
  next r found =>
  obtain ⟨mem, -⟩ := State.mem_of_recordAt found
  have quiet : Changes s (s.putRecord { r with quiet := 0 }) :=
    Edits.changes (updateRecord_edits mem ⟨rfl, rfl, rfl, rfl⟩ fun _ h => Record.fits_quiet_zero h)
  dsimp only
  split
  · exact (handleStray_same a s).changes
  · exact .refl
  · exact quiet
  · next bound =>
    split
    · refine Edits.changes (updateRecord_edits mem ⟨rfl, rfl, rfl, rfl⟩ fun ranged h => ?_)
      obtain ⟨-, -, -, -, attempts, -⟩ := (Record.fits_bound bound).mp h
      exact Record.fits_renewed (r := r) bound (s.termFits_grantedOf ranged h) (Nat.zero_le _) attempts h
    · exact quiet
  · split
    · exact (bindRefreshed_edits mem).changes
    · exact quiet

theorem heard_changes (f : Frame) (s : State) : Changes s (s.heard f) := by
  unfold State.heard
  split
  · exact heardFrom_changes ..
  · exact .refl

/-- A request that admission takes has passed the checks of its source and its identity. -/
theorem admission_checks {f : Frame} {s : State} {k : RequestKind} (h : s.admission f = some k) :
    f.sourceFits k = true ∧ f.identityFits k = true := by
  unfold State.admission at h
  split at h
  · split at h
    · split at h
      · next checks =>
        obtain rfl := Option.some.inj h
        simp only [Bool.and_eq_true] at checks
        obtain ⟨⟨⟨-, source⟩, identity⟩, -⟩ := checks
        exact ⟨source, identity⟩
      · exact nomatch h
    · exact nomatch h
  · exact nomatch h

theorem handOver_changes {k : RequestKind} {f : Frame} (source : f.sourceFits k = true)
    (identity : f.identityFits k = true) (s : State) : Changes s (s.handOver k f) := by
  cases k with
  | join => exact takeJoin_changes identity _ _ s
  | accept => exact takeAccept_changes ..
  | renew => exact takeRenew_changes _ _ identity s
  | leave => exact takeLeave_changes ..
  | claim => exact takeClaim_changes _ _ identity source s
  | probeReply => exact takeProbeReply_changes _ identity s
  | clashReport => exact takeClashReport_changes _ identity s
  | groupJoin => exact takeGroupJoin_changes ..
  | groupLeave => exact takeGroupLeave_changes ..
  | groupExpand => exact takeGroupExpand_changes ..
  | resolveIdentity => exact takeResolveIdentity_changes ..
  | resolveAddress => exact takeResolveAddress_changes ..

theorem takeFrame_changes (f : Frame) (s : State) : Changes s (s.takeFrame f) := by
  unfold State.takeFrame
  split
  · exact (State.SameTables.of_frame rfl).changes
  split
  · exact (heard_changes f s).then_same (setLine_same ..)
  · next k taken =>
    obtain ⟨source, identity⟩ := admission_checks taken
    dsimp only
    have setAside : Changes s
        (if k.needsReply then s.setQueue { s.queue with setAside := s.queue.setAside + 1 } else s) := by
      split
      · exact (setQueue_same ..).changes
      · exact .refl
    exact Changes.then_same ((setAside.trans (heard_changes f _)).trans (handOver_changes source identity _))
      (setLine_same ..)

theorem receiveFrame_changes (f : Frame) (s : State) : Changes s (s.receiveFrame f) := by
  unfold State.receiveFrame
  split
  · exact .refl
  split
  · exact (State.SameTables.of_frame (s.stopAtLength_frame f)).changes
  · have passed : s.SameTables (s.passFrame f) := .of_frame (s.passFrame_frame f)
    exact Changes.then_same (passed.changes.trans (takeFrame_changes f _))
      (.of_frame (State.endFrame_frame f f.check _))

theorem stopReception_same (s : State) : s.SameTables s.stopReception := .of_frame s.stopReception_frame

theorem receiveInvalid_changes (cause : InvalidReception) (s : State) : Changes s (s.receiveInvalid cause) := by
  unfold State.receiveInvalid
  split
  · exact .refl
  split
  · exact ((stopReception_same s).trans (setLine_same ..)).changes
  · split
    · exact ((stopReception_same s).trans (.of_frame (State.feedField_eq _ _))).changes
    · exact .refl
  · next f check =>
    split
    · exact receiveFrame_changes f s
    split
    · exact (State.SameTables.of_frame (s.stopAtLength_frame f)).changes
    · have passed : s.SameTables (s.passFrame f) := .of_frame (s.passFrame_frame f)
      exact ((passed.trans (setLine_same ..)).trans (.of_frame (State.endFrame_frame f check _))).changes

/-! ## Every command and every step -/

/-- What a command answers is reached by changes of the tables. -/
def State.Leads (s : State) (o : Host.Outcome State Fault Refusal) : Prop := ∀ t, o = .next t → Changes s t

theorem State.leads_next {s t : State} (h : Changes s t) : s.Leads (.next t) := fun _ e =>
  Host.Outcome.next.inj e ▸ h

theorem State.leads_stay (s : State) : s.Leads (.next s) := State.leads_next .refl

theorem execPartReset_leads (f g a e : Bool) (s : State) : s.Leads (execPartReset f g a e s) := by
  have ranged : Params.reset.inRange = true := by decide
  refine State.leads_next (.single (.edit (.clear ?_)))
  exact {
    records := rfl
    lapseList := rfl
    marks := rfl
    pool := rfl
    count := fun _ => rfl
    members := fun g hg => by
      obtain rfl := List.eq_of_mem_replicate hg
      rfl
    params := fun _ => ranged
    target := rfl }

theorem execTransmitBegin_leads (s : State) : s.Leads (execTransmitBegin s) := by
  unfold execTransmitBegin
  split
  · split
    · exact State.leads_next (State.SameTables.of_frame rfl).changes
    · exact s.leads_stay
  · exact s.leads_stay

theorem execArbitrationLost_leads (s : State) : s.Leads (execArbitrationLost s) := by
  unfold execArbitrationLost
  split
  · next e _ =>
    have received : s.SameTables ((s.enterPhase .receiving).runsDrawn (s.bitsToLoss e.frame)) := .of_frame rfl
    refine State.leads_next ?_
    split
    · exact received.changes.trans (leaveQueue_changes ..)
    · exact (received.trans (setQueue_same ..)).changes
  · exact s.leads_stay

theorem execEchoDifference_leads (s : State) : s.Leads (execEchoDifference s) := by
  unfold execEchoDifference
  split
  · next e _ =>
    have stopped : s.SameTables ((s.enterPhase .stopped).runsDrawn (s.bitsToDifference e)) := .of_frame rfl
    exact State.leads_next (stopped.changes.trans (countAttempt_changes ..))
  · exact s.leads_stay

theorem execAcknowledgeSlot_leads (dominant : Bool) (s : State) : s.Leads (execAcknowledgeSlot dominant s) := by
  unfold execAcknowledgeSlot
  split
  · next e _ =>
    have ended : s.SameTables ((s.enterPhase .afterFrame).runsOf (e.frame.wholeBits e.check !dominant)) := .of_frame rfl
    exact State.leads_next (ended.changes.trans (settleSlot_changes ..))
  · exact s.leads_stay

theorem execLineOnline_leads (s : State) : s.Leads (execLineOnline s) := by
  unfold execLineOnline
  split
  · have online : s.SameTables ((s.changeLine .online).enterPhase .idle) :=
      (changeLine_same _ s).trans (enterPhase_same ..)
    exact State.leads_next (((online.trans (setLine_same ..)).trans (setClock_same ..)).trans
      (censusOnline_same _)).changes
  · exact s.leads_stay

theorem execLineFault_leads (s : State) : s.Leads (execLineFault s) := by
  unfold execLineFault
  split
  · have fault :=
      ((changeLine_same .fault s.finishExpiry.cutOff).trans (enterPhase_same .idle _)).trans (freezeClock_same _)
    exact State.leads_next (((finishExpiry_changes s).trans (cutOff_changes _)).trans fault.changes)
  · exact s.leads_stay

theorem execFaultRecovery_leads (s : State) : s.Leads (execFaultRecovery s) := by
  unfold execFaultRecovery
  split
  · exact State.leads_next ((changeLine_same _ s).trans (enterPhase_same ..)).changes
  · exact s.leads_stay

theorem execEpochExpiry_leads (order : List EpochOwner) (s : State) : s.Leads (execEpochExpiry order s) := by
  unfold execEpochExpiry
  split
  · exact State.leads_next (expire_changes order s)
  · exact s.leads_stay

theorem execLapse_leads (address : Byte) (s : State) : s.Leads (execLapse address s) := by
  unfold execLapse
  split
  · split
    · exact State.leads_next (takePart_changes ..)
    · exact s.leads_stay
  · exact s.leads_stay

theorem execDisputeHoldExpiry_leads (address : Byte) (s : State) : s.Leads (execDisputeHoldExpiry address s) := by
  unfold execDisputeHoldExpiry
  split
  · split
    · exact State.leads_next (takePart_changes ..)
    · exact s.leads_stay
  · exact s.leads_stay

theorem execQuarantineHoldExpiry_leads (s : State) : s.Leads (execQuarantineHoldExpiry s) := by
  unfold execQuarantineHoldExpiry
  split
  · exact State.leads_next (takePart_changes ..)
  · exact s.leads_stay

theorem execCensusWindowEnd_leads (s : State) : s.Leads (execCensusWindowEnd s) := by
  unfold execCensusWindowEnd
  split
  · exact State.leads_next (takePart_changes ..)
  · exact s.leads_stay

theorem execOfferWaitExpiry_leads (address : Byte) (s : State) : s.Leads (execOfferWaitExpiry address s) := by
  unfold execOfferWaitExpiry
  split
  · next r found =>
    split
    · next o offer =>
      refine State.leads_next ?_
      split
      · next state => exact expireOffer_changes (State.mem_of_recordAt found).1 state offer
      · exact .refl
    · exact s.leads_stay
  · exact s.leads_stay

theorem execProbeWaitExpiry_leads (s : State) : s.Leads (execProbeWaitExpiry s) := by
  unfold execProbeWaitExpiry
  split
  · split
    · exact State.leads_next (noAnswer_changes s)
    · exact s.leads_stay
  · exact s.leads_stay

theorem execProbeChoose_leads (s : State) : s.Leads (execProbeChoose s) := by
  refine State.leads_next ?_
  split
  · next may =>
    simp only [State.mayChoose, Bool.and_eq_true, Option.isNone_iff_eq_none] at may
    obtain ⟨⟨idle, -⟩, -⟩ := may
    exact choose_changes idle
  · exact .refl

theorem execLineIdle_leads (s : State) : s.Leads (execLineIdle s) := by
  unfold execLineIdle
  split
  · exact State.leads_next (State.SameTables.of_frame rfl).changes
  · exact s.leads_stay

theorem execStartMarkReceived_leads (s : State) : s.Leads (execStartMarkReceived s) := by
  unfold execStartMarkReceived
  split
  · exact State.leads_next (State.SameTables.of_frame rfl).changes
  · exact s.leads_stay

theorem execDestinationFieldRead_leads (d : Byte) (s : State) : s.Leads (execDestinationFieldRead d s) := by
  unfold execDestinationFieldRead
  split
  · have read : s.SameTables (s.readDestination d.toNat) := .of_frame (s.readDestination_frame d.toNat)
    exact State.leads_next (read.trans (.of_frame (State.feedField_eq _ _))).changes
  · exact s.leads_stay

theorem exec_leads (c : Instr) (s : State) : s.Leads (exec c s) := by
  have host : ∀ code : Byte, s.Leads (.next (s.takeCommand code (commandBody code.toNat))) := fun code =>
    State.leads_next (takeCode_changes code s)
  have received : ∀ f : Frame, s.Leads (.next (s.receiveFrame f)) := fun f =>
    State.leads_next (receiveFrame_changes f s)
  cases c with
  | partReset f g a e => exact execPartReset_leads f g a e s
  | frameInvalid cause => exact State.leads_next (receiveInvalid_changes cause s)
  | frameHeard | foreignDirectoryFrame | join | accept | renew | leave | clashReport | probeReply | resolveIdentity
  | resolveAddress | claim | groupJoin | groupLeave | groupExpand => exact received _
  | transmitBegin => exact execTransmitBegin_leads s
  | arbitrationLost => exact execArbitrationLost_leads s
  | echoDifference => exact execEchoDifference_leads s
  | acknowledgeSlot dominant => exact execAcknowledgeSlot_leads dominant s
  | waitingClaimGranted => exact State.leads_next (grantWaiting_same s).changes
  | lineOnline => exact execLineOnline_leads s
  | lineFault => exact execLineFault_leads s
  | faultRecovery => exact execFaultRecovery_leads s
  | epochExpiry order => exact execEpochExpiry_leads order s
  | lapse address => exact execLapse_leads address s
  | disputeHoldExpiry address => exact execDisputeHoldExpiry_leads address s
  | quarantineHoldExpiry => exact execQuarantineHoldExpiry_leads s
  | censusWindowEnd => exact execCensusWindowEnd_leads s
  | offerWaitExpiry address => exact execOfferWaitExpiry_leads address s
  | probeWaitExpiry => exact execProbeWaitExpiry_leads s
  | probeChoose => exact execProbeChoose_leads s
  | setParameter => exact host 0x01
  | readParameters => exact host 0x02
  | readSummary => exact host 0x03
  | acknowledgeAttention => exact host 0x04
  | reserve => exact host 0x10
  | loadReservations => exact host 0x11
  | releaseReservation => exact host 0x12
  | clearDirectory => exact host 0x20
  | evict => exact host 0x21
  | pin => exact host 0x22
  | unpin => exact host 0x23
  | award => exact host 0x24
  | startCensus => exact host 0x30
  | endCensus => exact host 0x31
  | startSweep => exact host 0x32
  | stopSweep => exact host 0x33
  | groupAssign => exact host 0x40
  | groupRemove => exact host 0x41
  | readGroup => exact host 0x42
  | setGroupMode => exact host 0x43
  | clearGroup => exact host 0x44
  | lineEnable => exact host 0x50
  | lineDisable => exact host 0x51
  | setBitRate => exact host 0x52
  | readRecord => exact host 0x60
  | readDirectory => exact host 0x61
  | collectChanges => exact host 0x62
  | readFreeList => exact host 0x63
  | readQuarantine => exact host 0x64
  | portRestart => exact State.leads_next (restartPort_same s).changes
  | badCommand code => exact State.leads_next (writeCode_changes code s)
  | commandWriteWhileBusy code => exact State.leads_next (writeCode_changes code s)
  | bufferDataRead => exact State.leads_next (setPort_same ..).changes
  | bufferDataWrite data => exact State.leads_next (writeBufferByte_same data s).changes
  | attentionEnablesWrite data => exact State.leads_next (setPort_same ..).changes
  | registerWrite header data => exact State.leads_next (transaction_changes header data s)
  | lineIdle => exact execLineIdle_leads s
  | startMarkReceived => exact execStartMarkReceived_leads s
  | destinationFieldRead destination => exact execDestinationFieldRead_leads destination s

/-- One step changes the tables by a run of changes: the command at the front of the queue, or 5 ms of time. -/
theorem step_changes {s t : State} (h : step s = .next t) : Changes s t := by
  unfold step at h
  split at h
  · next c rest _ =>
    have taken : s.SameTables { s with pending := rest } := .of_frame rfl
    exact taken.changes.trans (exec_leads c _ t h)
  · exact Host.Outcome.next.inj h ▸ tick_changes s

end Sys2Proof.Machine
end

section
/-! The statements of the family "The Lease Directory" about every step: each law follows from what a step can do to the
tables (`step_changes`) and from what an edit keeps. -/

namespace Sys2Proof.Machine

/-- Settles O6: a step is a run of changes, and each keeps the identities where the addresses obey their law. -/
theorem recordedIdentitiesStayValidAndDistinct : Obligations.RecordedIdentitiesStayValidAndDistinct := by
  intro s t placed identified h
  exact changes_keep_identified (step_changes h) placed identified

/-- Settles O7: the fields are kept together with the parameters' ranges; the probe context is not needed. -/
theorem recordsKeepTheFieldsOfTheirState : Obligations.RecordsKeepTheFieldsOfTheirState := by
  intro s t shaped ranged _ h
  obtain ⟨-, fits⟩ := changes_keep_fitted (step_changes h) ⟨ranged, State.shaped_iff.mp shaped⟩
  exact State.shaped_iff.mpr fits

/-- Settles O8: a step is a run of changes, and each keeps the counts where the addresses obey their law. -/
theorem recordCountsStayWithinTheLimits : Obligations.RecordCountsStayWithinTheLimits := by
  intro s t placed limits h
  exact changes_keep_withinLimits (step_changes h) placed limits

/-- Settles O9: a step is a run of changes, and each keeps the lapse list exact where the addresses obey their law. -/
theorem lapseListStaysExact : Obligations.LapseListStaysExact := by
  intro s t placed listed h
  exact changes_keep_lapseListed (step_changes h) placed listed

/-- Settles O10: the marks are kept together with the addresses and the member lists. -/
theorem marksStayTrueOfTheRecords : Obligations.MarksStayTrueOfTheRecords := by
  intro s t placed grouped marked h
  exact (changes_keep_listed (step_changes h) ⟨placed, grouped, marked⟩).marked

end Sys2Proof.Machine
end

section
/-! The host's commands that name an address in P0, Pin and Unpin, and the statements of the family "The Lease
Directory" about single commands. -/

namespace Sys2Proof.Machine

/-! ## What an alteration leaves -/

theorem State.markOf_note (e : MarkEvent) (a b : Nat) (s : State) :
    (s.note e a).markOf b = if b = a then Mark.move e (s.markOf a) else s.markOf b :=
  markIn_setMark a b _ s.directory.marks

/-- A directory in which a record has taken another's place, with its address's mark moved as an alteration. -/
theorem State.alters_of_directory {s t : State} {r : Record}
    (directory : t.directory = { s.directory with
      records := replaceRecord r s.directory.records
      lapseList := s.directory.lapseList.filter (fun b => b != r.address)
      marks := setMark r.address (Mark.move .altered (s.markOf r.address)) s.directory.marks }) : s.Alters t r := by
  have marks := congrArg Directory.marks directory
  dsimp only at marks
  refine ⟨?_, ?_, ?_⟩
  · rw [marks]
    exact directory
  · rw [State.markOf, marks, markIn_setMark, if_pos rfl]
  · rw [marks]
    exact filter_setMark _ _ _

/-- A live record is in no place of the lapse list. -/
theorem State.LapseListed.filter_eq {s : State} {r : Record} (h : s.LapseListed) (placed : s.Placed)
    (mem : r ∈ s.directory.records) (live : r.state ≠ .lapsed) :
    s.directory.lapseList.filter (fun b => b != r.address) = s.directory.lapseList := by
  have absent := h.not_mem placed mem fun aw => live (State.awaitsProbe_iff.mp aw).1
  refine List.filter_eq_self.mpr fun a ha => ?_
  simpa using fun e : a = r.address => absent (e ▸ ha)

/-! ## Commands that name a record -/

/-- The state in which a command of the code has been taken, R159. -/
def State.taken (code : Byte) (s : State) : State :=
  { s with port := { s.port with error := false, collide := false, state := .busy, code := code } }

/-- A command taken and completed leaves the port as R160 gives. -/
theorem State.finish_taken (code : Byte) (o : OutcomeCode) (s : State) :
    (s.taken code).finish o = { s with port := s.port.completed code o } := rfl

/-- A command that names the address of a record acts on that record. -/
theorem takeCommand_withRecord {s : State} {r : Record} (code : Byte) (body : Record → State → State)
    (ready : s.port.state ≠ .busy) (inRange : leasable (s.p 0) = true) (found : s.recordAt (s.p 0) = some r) :
    s.takeCommand code (State.withRecord body) = body r (s.taken code) := by
  have h : (s.taken code).recordAt ((s.taken code).p 0) = some r := found
  have l : leasable ((s.taken code).p 0) = true := inRange
  rw [State.takeCommand_taken code _ ready]
  change State.withRecord body (s.taken code) = _
  simp only [State.withRecord, l, h, if_true]

/-- A command that names an address is refused by the range, the record or its state, section 11.3. -/
theorem takeCommand_withRecord_refused {s : State} (code : Byte) {body : Record → State → State}
    {accepted : RecordState → Bool} (ready : s.port.state ≠ .busy)
    (refuses : ∀ r u, accepted r.state = false → body r u = State.finish .wrongState u)
    (refused : s.recordOutcome (s.p 0) accepted ≠ .ok) :
    s.takeCommand code (State.withRecord body) =
      { s with port := s.port.completed code (s.recordOutcome (s.p 0) accepted) } := by
  rw [State.takeCommand_taken code _ ready]
  change State.withRecord body (s.taken code) = _
  rw [← State.finish_taken]
  have p : (s.taken code).p 0 = s.p 0 := rfl
  have at' : ∀ a, (s.taken code).recordAt a = s.recordAt a := fun _ => rfl
  unfold State.recordOutcome at refused ⊢
  unfold State.withRecord
  rw [p, at']
  cases inRange : leasable (s.p 0) with
  | false => rfl
  | true =>
    simp only [inRange, Bool.true_eq_false, if_false, if_true] at refused ⊢
    cases found : s.recordAt (s.p 0) with
    | none => rfl
    | some r =>
      simp only [found] at refused ⊢
      cases ok : accepted r.state with
      | false => exact refuses r _ ok
      | true => simp [ok] at refused

/-! ## Pin and Unpin, R12 -/

theorem exec_pin (s : State) : exec .pin s = .next (s.takeCommand 0x22 (State.withRecord State.pinRecord)) := rfl

theorem exec_unpin (s : State) : exec .unpin s = .next (s.takeCommand 0x23 (State.withRecord State.unpinRecord)) := rfl

theorem pinRecord_offered {r : Record} (s : State) (state : r.state = .offered) :
    s.pinRecord r = s.finish .wrongState := by simp [State.pinRecord, state]

theorem pinRecord_pinned {r : Record} (s : State) (state : r.state ≠ .offered) (pinned : r.pinned = true) :
    s.pinRecord r = s.finish .ok := by simp [State.pinRecord, state, pinned]

theorem pinRecord_lapsed {r : Record} (s : State) (state : r.state = .lapsed) (pinned : r.pinned = false) :
    s.pinRecord r = (s.bindRecord { r with pinned := true, quiet := 0 }).finish .ok := by
  simp [State.pinRecord, state, pinned]

theorem pinRecord_live {r : Record} (s : State) (offered : r.state ≠ .offered) (lapsed : r.state ≠ .lapsed)
    (pinned : r.pinned = false) :
    s.pinRecord r = ((s.putRecord { r with pinned := true }).note .altered r.address).finish .ok := by
  simp [State.pinRecord, offered, lapsed, pinned]

theorem unpinRecord_offered {r : Record} (s : State) (state : r.state = .offered) :
    s.unpinRecord r = s.finish .wrongState := by simp [State.unpinRecord, state]

theorem unpinRecord_unpinned {r : Record} (s : State) (state : r.state ≠ .offered) (pinned : r.pinned = false) :
    s.unpinRecord r = s.finish .ok := by simp [State.unpinRecord, state, pinned]

theorem unpinRecord_pinned {r : Record} (s : State) (state : r.state ≠ .offered) (pinned : r.pinned = true) :
    s.unpinRecord r = ((s.putRecord { r with pinned := false }).note .altered r.address).finish .ok := by
  simp [State.unpinRecord, state, pinned]

/-- The flag written on a record that is not LAPSED is an alteration and nothing more. -/
theorem setPinned_alters {s : State} {r : Record} {code : Byte} {b : Bool} (placed : s.Placed) (listed : s.LapseListed)
    (mem : r ∈ s.directory.records) (live : r.state ≠ .lapsed) :
    s.Alters ((((s.taken code).putRecord { r with pinned := b }).note .altered r.address).finish .ok)
      { r with pinned := b } := by
  refine State.alters_of_directory ?_
  dsimp only
  rw [listed.filter_eq placed mem live]
  rfl

/-- Settles O45, by the record's state: Pin and Unpin write the flag of a live record, Pin binds a LAPSED one, and the
rest is refused or changes nothing. -/
theorem pinAndUnpinMoveOnlyTheFlagAndALapse : Obligations.PinAndUnpinMoveOnlyTheFlagAndALapse := by
  have offered : ∀ {x : RecordState}, (x != .offered) = false → x = .offered := by simp
  refine ⟨?_, ?_, ?_, ?_, ?_, ?_, ?_⟩
  · intro s r ready placed listed inRange found state pinned
    have live : r.state ≠ .offered ∧ r.state ≠ .lapsed := by rcases state with h | h | h <;> simp [h]
    refine ⟨_, rfl, ?_⟩
    rw [takeCommand_withRecord 0x22 _ ready inRange found, pinRecord_live _ live.1 live.2 pinned]
    exact ⟨setPinned_alters placed listed (State.mem_of_recordAt found).1 live.2, rfl⟩
  · intro s r ready inRange found lapsed pinned
    refine ⟨_, rfl, ?_⟩
    rw [takeCommand_withRecord 0x22 _ ready inRange found, pinRecord_lapsed _ lapsed pinned]
    exact ⟨State.alters_of_directory rfl, rfl⟩
  · intro s r ready inRange found state pinned
    rw [exec_pin, takeCommand_withRecord 0x22 _ ready inRange found, pinRecord_pinned _ state pinned,
      State.finish_taken]
  · intro s ready refused
    rw [exec_pin, takeCommand_withRecord_refused 0x22 ready (fun r u h => pinRecord_offered u (offered h)) refused]
  · intro s r ready placed listed shaped inRange found state pinned
    obtain ⟨mem, -⟩ := State.mem_of_recordAt found
    have live : r.state ≠ .lapsed := fun lapsed => by
      obtain ⟨-, unpinned, -⟩ := (Record.fits_lapsed lapsed).mp (State.shaped_iff.mp shaped r mem)
      simp [pinned] at unpinned
    refine ⟨_, rfl, ?_⟩
    rw [takeCommand_withRecord 0x23 _ ready inRange found, unpinRecord_pinned _ state pinned]
    exact ⟨setPinned_alters placed listed mem live, rfl⟩
  · intro s r ready inRange found state pinned
    rw [exec_unpin, takeCommand_withRecord 0x23 _ ready inRange found, unpinRecord_unpinned _ state pinned,
      State.finish_taken]
  · intro s ready refused
    rw [exec_unpin, takeCommand_withRecord_refused 0x23 ready (fun r u h => unpinRecord_offered u (offered h)) refused]

/-! ## Marks, steps and part reset -/

/-- Settles O59: the table is the definition of the move, and setting one mark leaves the others. -/
theorem marksMoveAsTheTableGives : Obligations.MarksMoveAsTheTableGives :=
  ⟨⟨rfl, rfl, rfl, rfl, rfl, rfl, rfl, rfl, rfl, rfl⟩, fun s e a b => s.markOf_note e a b⟩

/-- Settles O1. -/
theorem frontCommandIsWhatAStepRuns : Obligations.FrontCommandIsWhatAStepRuns := by
  intro s c rest waiting
  rw [step, waiting]

theorem strapRate_eq (f g : Bool) : strapRate f g = 2 * f.toNat + g.toNat := by
  cases f <;> cases g <;> rfl

/-- Settles O4, by the reset values of each block; the line's follow the straps. -/
theorem partResetLeavesThePartResetValues : Obligations.PartResetLeavesThePartResetValues := by
  intro s f g a e
  refine ⟨_, rfl, rfl, rfl, rfl, rfl, rfl, ?_, rfl, rfl, rfl, rfl, rfl⟩
  rw [← strapRate_eq]
  rfl

end Sys2Proof.Machine
end

section
/-! The statements of the family "Address Pool and Quarantine": the law of the addresses under every step, and the two
reads of the pool. -/

namespace Sys2Proof.Machine

/-- Settles O5: a step is a run of changes, and each keeps every address in exactly one place. -/
theorem addressesStayInExactlyOnePlace : Obligations.AddressesStayInExactlyOnePlace := by
  intro s t placed h
  exact changes_keep_placed (step_changes h) placed

/-! ## Reads into the buffer, R158 and R160 -/

/-- Bytes that fit in the buffer and that reach to its end in zeros are all that the buffer then holds, R158. -/
theorem State.setBuffer_padded {bs : List Byte} (fits : bs.length ≤ 256) (s : State) :
    s.setBuffer bs Config.bufferSize = { s with port := { s.port with buffer := padded bs, pointer := 0 } } := by
  have full : (padded bs).length = 256 := by
    simp only [padded, List.length_append, List.length_replicate]
    omega
  have whole : (padded bs ++ s.port.buffer.drop (padded bs).length).take 256 = padded bs := by
    rw [← full, List.take_left]
  change { s with port := { s.port with
    buffer := (padded bs ++ s.port.buffer.drop (padded bs).length).take 256, pointer := 0 } } = _
  rw [whole]

/-- A read that has been taken writes its bytes, its results and its outcome, and nothing else. -/
theorem State.read_taken {bs : List Byte} (fits : bs.length ≤ 256) (code : Byte) (results : List Byte) (s : State) :
    (((s.taken code).setBuffer bs Config.bufferSize).setResults results).complete .ok true =
      { s with port := s.port.shown code results (padded bs) } := by
  rw [State.setBuffer_padded fits]
  rfl

/-! ## The two reads of the pool, R35 and R36 -/

theorem exec_readFreeList (s : State) : exec .readFreeList s = .next (s.takeCommand 0x63 State.readFreeList) := rfl

theorem exec_readQuarantine (s : State) :
    exec .readQuarantine s = .next (s.takeCommand 0x64 State.readQuarantine) := rfl

/-- Settles O50: at most 239 addresses, a byte each, fit in the buffer. -/
theorem readFreeListShowsTheWholeList : Obligations.ReadFreeListShowsTheWholeList := by
  intro s ready short
  have fits : (s.pool.free.map byteOf).length ≤ 256 := by
    rw [List.length_map]
    omega
  rw [exec_readFreeList, State.takeCommand_taken _ _ ready, ← State.read_taken fits]
  rfl

/-- The entries that Read Quarantine writes: from the index in P0 on, at most 32, R36. -/
def State.quarantineRead (s : State) : List QuarantineEntry := (s.pool.quarantine.drop (s.p 0)).take 32

theorem State.length_quarantineRead_le (s : State) : s.quarantineRead.length ≤ 32 := List.length_take_le ..

theorem State.quarantineRead_of_length_le {s : State} (beyond : s.pool.quarantine.length ≤ s.p 0) :
    s.quarantineRead = [] := by
  rw [State.quarantineRead, List.drop_eq_nil_of_le beyond, List.take_nil]

/-- A quarantine entry is eight bytes, section 12.3. -/
theorem length_flatMap_quarantineBytes (qs : List QuarantineEntry) :
    (qs.flatMap quarantineBytes).length = qs.length * 8 := by
  simp [List.length_flatMap, quarantineBytes, bytesOfIdentity]

/-- Read Quarantine where the port is not BUSY: eight bytes an entry, so that the entries fit in the buffer. -/
theorem takeCommand_readQuarantine {s : State} (ready : s.port.state ≠ .busy) :
    s.takeCommand 0x64 State.readQuarantine =
      { s with port := s.port.shown 0x64 [byteOf s.quarantineRead.length, byteOf s.pool.quarantine.length]
                         (padded (s.quarantineRead.flatMap quarantineBytes)) } := by
  have fits : (s.quarantineRead.flatMap quarantineBytes).length ≤ 256 := by
    have := s.length_quarantineRead_le
    rw [length_flatMap_quarantineBytes]
    omega
  rw [State.takeCommand_taken _ _ ready, ← State.read_taken fits]
  rfl

/-- Settles O51: at most 32 entries fit in the buffer, whatever the length of the queue, and at an index at or beyond
its end there are none. -/
theorem readQuarantineShowsEntriesFromAnIndex : Obligations.ReadQuarantineShowsEntriesFromAnIndex := by
  intro s ready _
  refine ⟨_, rfl, ?_⟩
  rw [takeCommand_readQuarantine ready]
  refine ⟨rfl, fun beyond => ?_, rfl⟩
  rw [State.quarantineRead_of_length_le beyond]
  exact ⟨rfl, rfl⟩

end Sys2Proof.Machine
end

section
/-! Frames heard, and the statement of the family "Epochs, Terms and Lapse" about a valid frame that no request is
admitted from. -/

namespace Sys2Proof.Machine

/-! ## Heard events, R47 to R49 -/

/-- A record in the place of the one found at its address, as a change of the record at that address. -/
theorem State.Placed.map_at_address {s : State} {a : Nat} {r : Record} (h : s.Placed) (found : s.recordAt a = some r)
    (f : Record → Record) (address : (f r).address = r.address) :
    s.directory.records.map (fun p => if p.address = a then f p else p) = replaceRecord (f r) s.directory.records := by
  obtain ⟨mem, rfl⟩ := State.mem_of_recordAt found
  refine List.map_congr_left fun p hp => ?_
  by_cases same : p.address = r.address
  · simp [h.eq_of_address hp mem same, address]
  · simp [same, address]

/-- Where the change leaves the record at the address, it leaves all. -/
theorem map_at_address_self {rs : List Record} {a : Nat} {f : Record → Record}
    (same : ∀ p ∈ rs, p.address = a → f p = p) : rs.map (fun p => if p.address = a then f p else p) = rs := by
  conv_rhs => rw [← List.map_id rs]
  exact List.map_congr_left fun p hp => ite_eq_right_iff.mpr (same p hp)

theorem State.hasFreeEntry_iff {s : State} :
    s.hasFreeEntry = true ↔ s.queue.entries.length + s.queue.setAside < 8 := decide_eq_true_iff

/-- A frame from an address with no record, or with a RESERVED one, is a stray's, R80. -/
theorem State.handleStray_eq {s : State} {a : Nat}
    (stray : (s.recordAt a).all (fun r => r.state == .reserved) = true) :
    s.handleStray a = { s with
      directory := { s.directory with
        pacing := if s.strayRevoked a 0 then s.directory.pacing ++ [a] else s.directory.pacing },
      queue := if s.strayRevoked a 0 then s.queueWith (s.entryOf .directory .stray (untargetedRevoke a))
        else s.queue } := by
  have revoked : s.strayRevoked a 0 = true
      ↔ s.census.mode = .serving ∧ s.directory.pacing.contains a = false ∧ s.claimGranted = true := by
    simp [State.strayRevoked, State.claimGranted, s.hasFreeEntry_iff, stray, and_assoc]
  have refused : (decide (s.census.mode = .census) || s.directory.pacing.contains a || !s.claimGranted)
      = !s.strayRevoked a 0 := by
    rw [← Bool.not_eq_eq_eq_not, Bool.eq_iff_iff, revoked]
    cases s.census.mode <;> simp
  rw [State.handleStray, refused]
  cases s.strayRevoked a 0 <;> rfl

/-- A heard event from a stray changes no record. -/
theorem State.heardState_stray {s : State} {a : Nat} (placed : s.Placed) (leased : leasable a = true)
    (stray : (s.recordAt a).all (fun r => r.state == .reserved) = true) (renews : Bool) :
    s.heardState a renews 0 = s.handleStray a := by
  have reserved : ∀ p ∈ s.directory.records, p.address = a → p.state = .reserved := fun p hp ha => by
    simpa [placed.recordAt_eq_some.mpr ⟨hp, ha⟩] using stray
  have records := map_at_address_self (rs := s.directory.records) (a := a) (f := s.heardRecord renews)
    fun p hp ha => by simp [State.heardRecord, reserved p hp ha]
  have restores : s.restores a renews = false := by
    cases found : s.recordAt a with
    | none => simp [State.restores, found]
    | some r => simp [State.restores, found, show r.state = .reserved by simpa [found] using stray]
  rw [State.handleStray_eq stray]
  simp [State.heardState, leased, restores, records]

/-- A record at the source that is not RESERVED makes the frame no stray's. -/
theorem State.strayRevoked_of_record {s : State} {a : Nat} {r : Record} (found : s.recordAt a = some r)
    (live : r.state ≠ .reserved) (beside : Nat) : s.strayRevoked a beside = false := by
  simp [State.strayRevoked, found, live]

@[simp] theorem State.heardRecord_address (s : State) (renews : Bool) (r : Record) :
    (s.heardRecord renews r).address = r.address := by
  unfold State.heardRecord Record.boundWith
  cases r.state <;> cases renews <;> rfl

/-- A record put in its own place. -/
theorem State.Placed.putRecord_self {s : State} {r : Record} (h : s.Placed) (mem : r ∈ s.directory.records) :
    s.putRecord r = s := by
  obtain ⟨A, B, split, apart⟩ := h.split mem
  rw [State.putRecord_eq, split, replaceRecord_split rfl apart, ← split]

/-- A heard event at a record that keeps its mark and its place in the lapse list. -/
theorem State.heardState_put {s : State} {a : Nat} {r : Record} {renews : Bool} (placed : s.Placed)
    (leased : leasable a = true) (found : s.recordAt a = some r) (live : r.state ≠ .reserved)
    (kept : ¬ (renews = true ∧ r.state = .lapsed)) :
    s.heardState a renews 0 = s.putRecord (s.heardRecord renews r) := by
  have restores : s.restores a renews = false := by
    simp only [State.restores, found, Option.any_some]
    simpa using kept
  simp only [State.heardState, leased, restores, State.strayRevoked_of_record found live,
    placed.map_at_address found _ (s.heardRecord_address renews r)]
  rfl

/-- A heard event that passive renewal lets act restores a LAPSED record, R49. -/
theorem State.heardState_restored {s : State} {r : Record} (placed : s.Placed) (leased : leasable r.address = true)
    (found : s.recordAt r.address = some r) (lapsed : r.state = .lapsed) :
    s.heardState r.address true 0 = s.bindRecord { s.refreshed r with quiet := 0 } := by
  have restores : s.restores r.address true = true := by simp [State.restores, found, lapsed]
  have bound : s.heardRecord true r = r.boundWith (s.grantedOf r) 0 := by simp [State.heardRecord, lapsed]
  simp only [State.heardState, leased, restores, State.strayRevoked_of_record found (by simp [lapsed]),
    placed.map_at_address found _ (s.heardRecord_address true r), bound]
  rfl

/-- A heard event from a leasable address is what the statements say of it. -/
theorem State.heardFrom_eq {s : State} {a : Nat} (placed : s.Placed) (leased : leasable a = true) (limited : Bool) :
    s.heardFrom a limited = s.heardState a (s.params.passiveRenewal && !limited) 0 := by
  unfold State.heardFrom
  generalize (s.params.passiveRenewal && !limited) = renews
  cases found : s.recordAt a with
  | none => exact (State.heardState_stray placed leased (by simp [found]) renews).symm
  | some r =>
    obtain ⟨mem, rfl⟩ := State.mem_of_recordAt found
    cases state : r.state with
    | reserved =>
      rw [State.heardState_stray placed leased (by simp [found, state])]
      simp only [state]
    | offered =>
      have same : s.heardRecord renews r = r := by simp [State.heardRecord, state]
      rw [State.heardState_put placed leased found (by simp [state]) (by simp [state]), same,
        placed.putRecord_self mem]
      simp only [state]
    | bound =>
      rw [State.heardState_put placed leased found (by simp [state]) (by simp [state])]
      simp [State.heardRecord, state, State.refreshed]
    | lapsed =>
      cases renews with
      | true =>
        rw [State.heardState_restored placed leased found state]
        simp [state]
      | false =>
        rw [State.heardState_put placed leased found (by simp [state]) (by simp)]
        simp [State.heardRecord, state]
    | disputed =>
      rw [State.heardState_put placed leased found (by simp [state]) (by simp [state])]
      simp [State.heardRecord, state]

/-- A heard event: none from a source outside 1 to 239, R47. -/
theorem State.heard_eq {s : State} (placed : s.Placed) (f : Frame) :
    s.heard f = s.heardState f.source.toNat (s.params.passiveRenewal && !limitedHeard f) 0 := by
  unfold State.heard
  cases leased : leasable f.source.toNat with
  | true => exact State.heardFrom_eq placed leased _
  | false => simp [State.heardState, leased]

/-- A heard event looks at the line's state alone of the line, and changes nothing of it. -/
theorem State.heardState_setLine {s : State} {l : Line} (state : l.state = s.line.state) (a : Nat) (renews : Bool)
    (beside : Nat) : (s.setLine l).heardState a renews beside = (s.heardState a renews beside).setLine l := by
  have revoked : (s.setLine l).strayRevoked a beside = s.strayRevoked a beside := by
    simp only [State.strayRevoked, State.setLine_line, state]
    rfl
  unfold State.heardState
  rw [revoked]
  split <;> rfl

/-- The kinds whose heard event is limited, by their codes in section 12.2. -/
theorem carriesIdentity_iff : ∀ k : BitVec 6, (requestKindOf k).any RequestKind.carriesIdentity = true
    ↔ k ∈ ([0x02, 0x03, 0x04, 0x05, 0x06, 0x07] : List (BitVec 6)) := by decide

theorem limitedHeard_iff (f : Frame) : limitedHeard f = true ↔ f.destination = 0xFE
    ∧ f.kind ∈ ([0x02, 0x03, 0x04, 0x05, 0x06, 0x07] : List (BitVec 6)) := by
  have directory : f.destination.toNat = Config.directoryAddress ↔ f.destination = 0xFE :=
    (BitVec.toNat_inj (x := f.destination) (y := 0xFE))
  rw [limitedHeard, Bool.and_eq_true, beq_iff_eq, directory, carriesIdentity_iff]

/-! ## A frame received to its end mark, R147 and R155 -/

theorem exec_frameHeard (f : Frame) (s : State) : exec (.frameHeard f) s = .next (s.receiveFrame f) := rfl

theorem State.canReceive_iff {s : State} : s.canReceive = true ↔ s.Receives := by
  simp [State.canReceive, State.Receives, and_assoc]

theorem State.receiveFrame_deaf {s : State} (deaf : ¬ s.Receives) (f : Frame) : s.receiveFrame f = s := by
  have h : s.canReceive = false := Bool.eq_false_iff.mpr fun h => deaf (State.canReceive_iff.mp h)
  simp [State.receiveFrame, h]

/-- A frame of a fitting length, from a source other than FEh, that is not admitted: heard, and passed over. -/
theorem State.receiveFrame_heard {s : State} {f : Frame} (receives : s.Receives) (short : f.payload.length ≤ 24)
    (source : f.source.toNat ≠ 254) (refused : s.admission f = none) :
    s.receiveFrame f = (((s.passFrame f).heard f).setAcknowledged false).endFrame f f.check := by
  have fits : ¬ Config.maxPayload < f.payload.length := Nat.not_lt.mpr short
  have refused' : (s.passFrame f).admission f = none := by
    rw [State.passFrame_frame]
    exact refused
  have taken : (s.passFrame f).takeFrame f = ((s.passFrame f).heard f).setAcknowledged false := by
    have foreign : ¬ f.source.toNat = Config.directoryAddress := source
    rw [State.takeFrame, if_neg foreign, refused']
  rw [State.receiveFrame, State.canReceive_iff.mpr receives, if_neg (by decide), if_neg fits, taken]

/-- The termination of a frame's phase, R155. -/
theorem terminationFor_addressedPhase (p : Params) (d : Nat) :
    p.terminationFor (addressedPhase d) = some (if d = 254 then p.receive else p.pass) := by
  unfold addressedPhase Config.directoryAddress
  split <;> rfl

theorem terminationFor_afterFrame (p : Params) : p.terminationFor .afterFrame = none := rfl

/-- The line when a frame has passed, but for its runs, which the bits of the frame set. -/
theorem State.lineAfter_passFrame (s : State) (f : Frame) (driven : Bool) (runs : Nat × Nat) :
    s.LineAfter f.destination.toNat driven { (s.passFrame f).line with
      acknowledged := driven, recessiveRun := runs.1, dominantRun := runs.2 } := by
  unfold State.passFrame State.readDestination
  split
  · next same =>
    cases edge : s.line.segmentEnd <;>
      simp [State.LineAfter, State.enterPhase_eq, terminationFor_afterFrame, same, edge]
  · next other =>
    cases edge : s.line.segmentEnd <;>
      simp [State.LineAfter, State.enterPhase_eq, terminationFor_addressedPhase, terminationFor_afterFrame, other, edge]

/-- The runs of the statements are those that the model counts, R144. -/
theorem runsOver_zero (bits : List Bool) : runsOver true 0 bits = bits.foldl feedBit (0, 0) := rfl

/-- The end of a frame whose slot the DL416 does not drive: the runs are those of its bits to its end mark, with the
slot at some level. -/
theorem State.endFrame_undriven {s : State} (f : Frame) (undriven : s.line.acknowledged = false) :
    ∃ b : Bool, ∃ runs : Nat × Nat, runs = runsOver true 0 (f.lineBits ++ [b, true, true, true])
      ∧ s.endFrame f f.check = { s with
          line := { s.line with recessiveRun := runs.1, dominantRun := runs.2 }, chance := s.chance + 1 } := by
  refine ⟨Config.freeLevel s.chance, _, rfl, ?_⟩
  rw [State.endFrame, undriven]
  rfl

/-- Settles O32: a heard event depends on the line's state alone of the line, so that it is the same before and after
the line's part of the frame. -/
theorem validFramesAreHeardAndNoMoreUnlessAdmitted : Obligations.ValidFramesAreHeardAndNoMoreUnlessAdmitted := by
  refine ⟨?_, ?_, limitedHeard_iff⟩
  · rintro s f _ receives short source refused placed rfl
    have state : (s.passFrame f).line.state = s.line.state := (s.lineAfter_passFrame f false (0, 0)).1
    have passed : s.passFrame f = s.setLine (s.passFrame f).line := s.passFrame_frame f
    have heard : (s.passFrame f).heard f = (s.heardState f.source.toNat
        (s.params.passiveRenewal && !limitedHeard f) 0).setLine (s.passFrame f).line := by
      have placed' : (s.passFrame f).Placed := by
        rw [passed]
        exact placed.congr rfl rfl
      rw [State.heard_eq placed']
      nth_rw 1 2 [passed]
      exact State.heardState_setLine state _ _ _
    obtain ⟨b, runs, hruns, ended⟩ := State.endFrame_undriven
      (s := ((s.passFrame f).heard f).setAcknowledged false) f rfl
    rw [exec_frameHeard, State.receiveFrame_heard receives short source refused, ended, heard]
    exact ⟨_, rfl, rfl, s.lineAfter_passFrame f false runs, b, hruns⟩
  · intro s f deaf
    rw [exec_frameHeard, State.receiveFrame_deaf]
    rintro ⟨online, notSending, notStopped⟩
    rcases deaf with h | h | h
    exacts [h online, notSending h, notStopped h]

end Sys2Proof.Machine
end

section
/-! The Lease Directory's part of an epoch expiry (R41), as one equation: the passes over the records that lapse (R44)
and over those whose dispute hold runs out (R111). -/

namespace Sys2Proof.Machine

/-! ## Marks moved one after another, R18 -/

/-- The listing after the marks of the addresses move, in that order, as the event asks. -/
def marksMoved (e : MarkEvent) (as : List Nat) (marks : List (Nat × Mark)) : List (Nat × Mark) :=
  as.foldl (fun ms a => setMark a (Mark.move e (markIn ms a)) ms) marks

/-- Each of the addresses has its mark moved once, and no other address. -/
theorem markIn_marksMoved {as : List Nat} (nodup : as.Nodup) (e : MarkEvent) (marks : List (Nat × Mark)) (b : Nat) :
    markIn (marksMoved e as marks) b = if b ∈ as then Mark.move e (markIn marks b) else markIn marks b := by
  induction as generalizing marks with
  | nil => rfl
  | cons a as ih =>
    obtain ⟨fresh, rest⟩ := List.nodup_cons.mp nodup
    have step := ih rest (setMark a (Mark.move e (markIn marks a)) marks)
    rw [markIn_setMark] at step
    refine step.trans ?_
    by_cases same : b = a
    · simp [same, fresh]
    · simp [same]

/-! ## Passes over records at distinct addresses -/

/-- Records put at other addresses leave the first one. -/
theorem foldl_replaceRecord_cons {f : Record → Record} {l : List Record} {q : Record}
    (other : ∀ r ∈ l, q.address ≠ (f r).address) (qs : List Record) :
    l.foldl (fun qs r => replaceRecord (f r) qs) (q :: qs) = q :: l.foldl (fun qs r => replaceRecord (f r) qs) qs := by
  induction l generalizing qs with
  | nil => rfl
  | cons r l ih =>
    obtain ⟨first, rest⟩ := List.forall_mem_cons.mp other
    have kept : replaceRecord (f r) (q :: qs) = q :: replaceRecord (f r) qs := by simp [replaceRecord, first]
    rw [List.foldl_cons, kept, ih rest, List.foldl_cons]

/-- The records picked out take the values of f, and the others keep those of g. -/
theorem foldl_replaceRecord_filter {rs : List Record} {f g : Record → Record} (p : Record → Bool)
    (apart : rs.Pairwise (fun q r => q.address < r.address)) (keepsF : ∀ r, (f r).address = r.address)
    (keepsG : ∀ r, (g r).address = r.address) :
    (rs.filter p).foldl (fun qs r => replaceRecord (f r) qs) (rs.map g) =
      rs.map (fun r => if p r then f r else g r) := by
  induction rs with
  | nil => rfl
  | cons r rs ih =>
    obtain ⟨first, rest⟩ := List.pairwise_cons.mp apart
    have others : ∀ q ∈ rs.filter p, r.address ≠ (f q).address := fun q hq => by
      rw [keepsF]
      exact (first q (List.mem_of_mem_filter hq)).ne
    have untouched : replaceRecord (f r) (rs.map g) = rs.map g := replaceRecord_of_ne fun _ hq => by
      obtain ⟨q, mem, rfl⟩ := List.mem_map.mp hq
      rw [keepsG, keepsF]
      exact (first q mem).ne'
    have put : replaceRecord (f r) (g r :: rs.map g) = f r :: rs.map g := by
      have head : replaceRecord (f r) (g r :: rs.map g) = f r :: replaceRecord (f r) (rs.map g) := by
        simp [replaceRecord, keepsF, keepsG]
      rw [head, untouched]
    cases picked : p r with
    | true =>
      rw [List.filter_cons_of_pos picked, List.foldl_cons, List.map_cons, put,
        foldl_replaceRecord_cons fun q hq => by rw [keepsF r]; exact others q hq]
      simp [ih rest, picked]
    | false =>
      rw [List.filter_cons_of_neg (by simp [picked]), List.map_cons,
        foldl_replaceRecord_cons fun q hq => by rw [keepsG r]; exact others q hq]
      simp [ih rest, picked]

/-- The records to retire leave the list. -/
theorem filter_all_ne {rs : List Record} (p : Record → Bool)
    (apart : rs.Pairwise (fun q r => q.address < r.address)) :
    rs.filter (fun q => (rs.filter p).all (fun r => r.address != q.address)) = rs.filter (fun q => !p q) := by
  refine List.filter_congr fun q hq => ?_
  have distinct : (rs.map (fun r => r.address)).Nodup := List.pairwise_map.mpr (apart.imp Nat.ne_of_lt)
  rw [Bool.eq_iff_iff]
  simp only [List.all_eq_true, List.mem_filter, bne_iff_ne, Bool.not_eq_true', and_imp]
  refine ⟨fun h => Bool.eq_false_iff.mpr fun picked => h q hq picked rfl, fun h r hr picked same => ?_⟩
  rw [List.inj_on_of_nodup_map distinct hr hq same, h] at picked
  exact Bool.false_ne_true picked

theorem State.isTarget_setDirectory (d : Directory) (s : State) (r : Record) :
    (s.setDirectory d).isTarget r = s.isTarget r := rfl

/-- Lapses one after another, R44: the probe target does not join the lapse list. -/
theorem foldl_lapseRecord (l : List Record) (s : State) :
    l.foldl (fun u r => u.lapseRecord r) s = s.setDirectory { s.directory with
      records := l.foldl (fun rs r => replaceRecord r.lapsedNow rs) s.directory.records,
      lapseList := s.directory.lapseList ++ (l.filter (fun r => !s.isTarget r)).map (fun r => r.address),
      marks := marksMoved .altered (l.map (fun r => r.address)) s.directory.marks } := by
  induction l generalizing s with
  | nil => simp [marksMoved, State.setDirectory]
  | cons r l ih =>
    have lapsed : s.lapseRecord r = s.setDirectory { s.directory with
        records := replaceRecord r.lapsedNow s.directory.records,
        lapseList := if s.isTarget r then s.directory.lapseList else s.directory.lapseList ++ [r.address],
        marks := setMark r.address (Mark.move .altered (s.markOf r.address)) s.directory.marks } := s.lapseRecord_eq r
    rw [List.foldl_cons, lapsed, ih]
    cases target : s.isTarget r <;> simp [State.isTarget_setDirectory, target, marksMoved, State.markOf]

/-! ## Retirements one after another, R111 -/

/-- R26: the pool after the records are retired, in that order. -/
def poolRetiring (hold : Nat) (rs : List Record) (p : Pool) : Pool :=
  if hold = 0 then { p with free := p.free ++ rs.map (fun r => r.address) }
  else { p with quarantine := p.quarantine ++ rs.map (fun r =>
    { address := r.address, lastIdentity := r.identity, hold := hold }) }

/-- One record is retired before the others. -/
theorem poolRetiring_cons (hold : Nat) (r : Record) (l : List Record) (p : Pool) :
    poolRetiring hold (r :: l) p = poolRetiring hold l (poolRetiring hold [r] p) := by
  unfold poolRetiring
  split <;> simp

theorem State.poolWithHolds_eq (s : State) (p : Pool) :
    s.poolWithHolds p = poolRetiring s.params.quarantineHold s.heldOut p := rfl

/-- R140: the groups after the addresses of the records are struck from their member lists. -/
def groupsWithout (rs : List Record) (groups : List Group) : List Group :=
  groups.map (fun g => { g with members := g.members.filter (fun b => rs.all (fun r => r.address != b)) })

theorem groupsWithout_cons (r : Record) (l : List Record) (groups : List Group) :
    groupsWithout (r :: l) groups = groupsWithout l (struck r.address groups) := by
  simp [groupsWithout, struck, List.filter_filter, Bool.and_comm, bne_comm]

/-- R111: the queue after an untargeted REVOKE is claimed for each of the records, in that order. -/
def State.queueRevoking (s : State) (rs : List Record) (q : TxQueue) : TxQueue :=
  rs.foldl (fun q r => State.claimed { s with queue := q } .dispute (untargetedRevoke r.address) 0) q

theorem State.queueAfterHolds_eq (s : State) : s.queueAfterHolds = s.queueRevoking s.heldOut s.queue := rfl

theorem State.queueRevoking_cons (s : State) (r : Record) (l : List Record) :
    s.queueRevoking (r :: l) s.queue =
      s.queueRevoking l (s.claimed .dispute (untargetedRevoke r.address) 0) := rfl

/-- Claims look at the line's state and the send-attempt limit alone, beside the queue. -/
theorem State.queueRevoking_congr {s u : State} (line : u.line = s.line) (params : u.params = s.params) :
    u.queueRevoking = s.queueRevoking := by
  funext rs q
  have claimed : ∀ q o f, State.claimed { u with queue := q } o f 0 = State.claimed { s with queue := q } o f 0 := by
    intro q o f
    simp only [State.claimed, State.queueWith, State.entryOf, line, params]
  simp only [State.queueRevoking, claimed]

theorem State.claimOrDrop_eq (o : Originator) (f : Frame) (s : State) :
    s.claimOrDrop o f = { s with queue := s.claimed o f 0 } := by
  unfold State.claimOrDrop State.claimed State.claimGranted
  simp only [Bool.and_eq_true, bne_iff_ne, s.hasFreeEntry_iff, Nat.add_zero]
  split <;> rfl

/-- One retirement under the REVOKE policy. -/
theorem State.revokeDisputed_fields (r : Record) (s : State) :
    s.revokeDisputed r = { s with
      directory := { s.directory with
        records := removeRecord r.address s.directory.records,
        lapseList := s.directory.lapseList.filter (fun b => b != r.address),
        marks := setMark r.address (Mark.move .removed (s.markOf r.address)) s.directory.marks },
      pool := poolRetiring s.params.quarantineHold [r] s.pool,
      groups := struck r.address s.groups,
      queue := s.claimed .dispute (untargetedRevoke r.address) 0 } := by
  rw [State.revokeDisputed, State.claimOrDrop_eq, State.retire, State.endRecord_eq, State.returnAddress_quarantineTail]
  rfl

/-- Retirements under the REVOKE policy, one after another. -/
theorem foldl_revokeDisputed (l : List Record) (s : State) :
    l.foldl (fun u r => u.revokeDisputed r) s = { s with
      directory := { s.directory with
        records := s.directory.records.filter (fun q => l.all (fun r => r.address != q.address)),
        lapseList := s.directory.lapseList.filter (fun b => l.all (fun r => r.address != b)),
        marks := marksMoved .removed (l.map (fun r => r.address)) s.directory.marks },
      pool := poolRetiring s.params.quarantineHold l s.pool,
      groups := groupsWithout l s.groups,
      queue := s.queueRevoking l s.queue } := by
  induction l generalizing s with
  | nil => simp [marksMoved, poolRetiring, groupsWithout, State.queueRevoking]
  | cons r l ih =>
    have line : (s.revokeDisputed r).line = s.line := by rw [State.revokeDisputed_fields]
    have params : (s.revokeDisputed r).params = s.params := by rw [State.revokeDisputed_fields]
    rw [List.foldl_cons, ih, State.queueRevoking_congr line params, State.revokeDisputed_fields,
      poolRetiring_cons _ r l, groupsWithout_cons, State.queueRevoking_cons]
    simp [removeRecord, List.filter_filter, marksMoved, State.markOf, Bool.and_comm, bne_comm]

/-! ## The four parts of the Lease Directory's part, R41 -/

theorem Record.lapsesNow_eq (r : Record) : r.lapsesNow = (r.ages && decide (r.term ≤ 1)) := rfl

/-- Only BOUND records lapse at an expiry. -/
theorem Record.bound_of_lapsesNow {r : Record} (lapses : r.lapsesNow = true) : r.state = .bound := by
  simp only [Record.lapsesNow, Bool.and_eq_true, beq_iff_eq] at lapses
  obtain ⟨⟨bound, -⟩, -⟩ := lapses
  exact bound

/-- A record reaches term 0 by aging where it lapses at this expiry, R44. -/
theorem Record.aged_due (r : Record) : (r.aged.ages && r.aged.term == 0) = r.lapsesNow := by
  cases ages : r.ages with
  | false => simp [Record.aged, Record.lapsesNow_eq, ages]
  | true =>
    have kept : ({ r with term := r.term - 1 } : Record).ages = true := ages
    rw [Bool.eq_iff_iff]
    simp [Record.aged, Record.lapsesNow_eq, ages, kept]
    omega

theorem State.lapseRecord_aged (r : Record) (s : State) : s.lapseRecord r.aged = s.lapseRecord r := by
  unfold Record.aged
  split <;> rfl

/-- A record after the aging of the terms, R44. -/
def Record.termAged (r : Record) : Record := if r.lapsesNow then r.lapsedNow else r.aged

@[simp] theorem Record.termAged_address (r : Record) : r.termAged.address = r.address := by
  unfold Record.termAged
  split
  · rfl
  · exact keepsIdentity_aged.address r

@[simp] theorem Record.termAged_identity (r : Record) : r.termAged.identity = r.identity := by
  unfold Record.termAged
  split
  · rfl
  · exact keepsIdentity_aged.identity r

@[simp] theorem Record.termAged_hold (r : Record) : r.termAged.hold = r.hold := by
  unfold Record.termAged Record.aged
  split
  · rfl
  · split <;> rfl

@[simp] theorem Record.quieter_hold (r : Record) : r.quieter.hold = r.hold := by
  unfold Record.quieter
  split <;> rfl

/-- One epoch on is the three parts that change records, in their order. -/
theorem Record.epochAged_eq (r : Record) : r.termAged.quieter.held = r.epochAged := by
  unfold Record.epochAged Record.termAged Record.aged Record.ages
  cases lapses : r.lapsesNow with
  | true =>
    simp [Record.held, Record.quieter, Record.lapsedNow, Record.bound_of_lapsesNow lapses]
  | false =>
    cases state : r.state <;> cases pinned : r.pinned <;> simp [Record.held, Record.quieter, state, pinned]

/-- Aging, R44. -/
theorem State.Placed.ageTerms_eq {s : State} (h : s.Placed) :
    s.ageTerms = s.setDirectory { s.directory with
      records := s.directory.records.map Record.termAged,
      lapseList := s.directory.lapseList
        ++ (s.directory.records.filter (fun r => r.lapsesNow && !s.isTarget r)).map (fun r => r.address),
      marks := marksMoved .altered ((s.directory.records.filter Record.lapsesNow).map (fun r => r.address))
        s.directory.marks } := by
  have due : (s.directory.records.map Record.aged).filter (fun r => r.ages && r.term == 0)
      = (s.directory.records.filter Record.lapsesNow).map Record.aged := by
    rw [List.filter_map]
    exact congrArg _ (List.filter_congr fun r _ => r.aged_due)
  have records := foldl_replaceRecord_filter Record.lapsesNow h.sorted (f := Record.lapsedNow) (fun _ => rfl)
    keepsIdentity_aged.address
  have joining : s.directory.records.filter (fun r => r.lapsesNow && !s.isTarget r)
      = (s.directory.records.filter Record.lapsesNow).filter (fun r => !s.isTarget r) := by
    simp [List.filter_filter, Bool.and_comm]
  unfold State.ageTerms
  simp only [State.setDirectory_directory, due, List.foldl_map, State.lapseRecord_aged, foldl_lapseRecord, records,
    joining, State.isTarget_setDirectory, State.setDirectory_setDirectory]
  rfl

/-- The records whose hold runs out, where holds are what they were. -/
theorem State.heldOut_of_map {s u : State} {f : Record → Record}
    (records : u.directory.records = s.directory.records.map f) (keeps : ∀ r, (f r).hold = r.hold) :
    u.heldOut = s.heldOut.map f := by
  unfold State.heldOut
  rw [records, List.filter_map]
  exact congrArg _ (List.filter_congr fun r _ => by simp [Record.holdRunsOut, keeps])

/-- A hold reaches 0 where it runs out at this expiry, R51. -/
theorem Record.held_due (r : Record) : (r.held.hold == some 0) = r.holdRunsOut := by
  cases hold : r.hold with
  | none => simp [Record.held, Record.holdRunsOut, hold]
  | some n =>
    rw [Bool.eq_iff_iff]
    simp [Record.held, Record.holdRunsOut, hold]
    omega

/-- Dispute holds, R51 and R111. -/
theorem State.countHolds_eq (s : State) :
    s.countHolds = s.heldOut.foldl (fun u r => u.revokeDisputed r) (s.mapRecords Record.held) := by
  have due : (s.directory.records.map Record.held).filter (fun r => r.hold == some 0) = s.heldOut.map Record.held := by
    rw [List.filter_map]
    exact congrArg _ (List.filter_congr fun r _ => r.held_due)
  have same : ∀ (u : State) r, u.revokeDisputed r.held = u.revokeDisputed r := fun u r =>
    State.revokeDisputed_congr rfl rfl u
  unfold State.countHolds
  simp only [State.setDirectory_directory, due, List.foldl_map, same]
  rfl

/-! ## The part as a whole -/

/-- The Lease Directory after its part of an expiry, R44, R46, R51, R52 and R111. -/
def State.directoryAged (s : State) : Directory where
  records := (s.directory.records.filter (fun q => !q.holdRunsOut)).map (fun q => q.epochAged)
  marks := marksMoved .removed (s.heldOut.map (fun r => r.address))
    (marksMoved .altered ((s.directory.records.filter Record.lapsesNow).map (fun r => r.address)) s.directory.marks)
  lapseList := (s.directory.lapseList
      ++ (s.directory.records.filter (fun q => q.lapsesNow && !s.isTarget q)).map (fun q => q.address)).filter
    (fun b => s.heldOut.all (fun q => q.address != b))
  pacing := []

theorem Record.epochAged_address (r : Record) : r.epochAged.address = r.address := by
  rw [← Record.epochAged_eq]
  exact (keepsIdentity_quieter.address _).trans r.termAged_address

/-- The Lease Directory's part of an expiry: four blocks change. -/
theorem State.Placed.directoryPart_eq {s : State} (h : s.Placed) :
    s.directoryPart = { s with directory := s.directoryAged, pool := s.poolWithHolds s.pool,
                               groups := groupsWithout s.heldOut s.groups, queue := s.queueAfterHolds } := by
  have aged : s.ageTerms.countQuiet.mapRecords Record.held = s.setDirectory { s.directory with
      records := s.directory.records.map Record.epochAged,
      lapseList := s.directory.lapseList
        ++ (s.directory.records.filter (fun r => r.lapsesNow && !s.isTarget r)).map (fun r => r.address),
      marks := marksMoved .altered ((s.directory.records.filter Record.lapsesNow).map (fun r => r.address))
        s.directory.marks } := by
    rw [h.ageTerms_eq]
    simp [State.countQuiet, State.mapRecords, Function.comp_def, Record.epochAged_eq]
  have out : s.ageTerms.countQuiet.heldOut = s.heldOut.map (fun r => r.termAged.quieter) :=
    State.heldOut_of_map (by rw [h.ageTerms_eq]; simp [State.countQuiet, Function.comp_def]) (by simp)
  have same : ∀ (u : State) r, u.revokeDisputed r.termAged.quieter = u.revokeDisputed r := fun u r =>
    State.revokeDisputed_congr ((keepsIdentity_quieter.address _).trans r.termAged_address)
      ((keepsIdentity_quieter.identity _).trans r.termAged_identity) u
  have left : (s.directory.records.map Record.epochAged).filter
      (fun q => s.heldOut.all (fun r => r.address != q.address))
        = (s.directory.records.filter (fun q => !q.holdRunsOut)).map Record.epochAged := by
    rw [List.filter_map, ← filter_all_ne Record.holdRunsOut h.sorted]
    exact congrArg _ (List.filter_congr fun q _ => by simp only [Function.comp_apply, Record.epochAged_address]; rfl)
  unfold State.directoryPart
  simp only [State.countHolds_eq, out, List.foldl_map, same, aged, foldl_revokeDisputed, State.setDirectory_directory,
    left]
  rfl

theorem State.mem_heldOut {s : State} {r : Record} :
    r ∈ s.heldOut ↔ r ∈ s.directory.records ∧ r.holdRunsOut = true := List.mem_filter

/-- The records picked out stand at distinct addresses. -/
theorem State.Placed.nodup_filter {s : State} (h : s.Placed) (p : Record → Bool) :
    ((s.directory.records.filter p).map (fun r => r.address)).Nodup :=
  List.pairwise_map.mpr ((h.sorted.filter p).imp Nat.ne_of_lt)

/-- R18: an address's mark after the Lease Directory's part, where the record there does not lapse and run out of its
hold at once. -/
theorem State.Placed.markIn_directoryAged {s : State} {b : Nat} (h : s.Placed)
    (apart : ∀ r ∈ s.directory.records, r.address = b → r.lapsesNow = true → r.holdRunsOut = false) :
    markIn s.directoryAged.marks b =
      if s.heldOut.any (fun q => q.address == b) = true then Mark.move .removed (s.markOf b)
      else if s.directory.records.any (fun q => q.address == b && q.lapsesNow) = true
        then Mark.move .altered (s.markOf b) else s.markOf b := by
  have removed : s.heldOut.any (fun q => q.address == b) = true ↔ b ∈ s.heldOut.map (fun r => r.address) := by simp
  have altered : s.directory.records.any (fun q => q.address == b && q.lapsesNow) = true
      ↔ b ∈ (s.directory.records.filter Record.lapsesNow).map (fun r => r.address) := by
    simp only [List.any_eq_true, Bool.and_eq_true, beq_iff_eq, List.mem_map, List.mem_filter]
    exact exists_congr fun r => by tauto
  have never : b ∈ s.heldOut.map (fun r => r.address) →
      b ∉ (s.directory.records.filter Record.lapsesNow).map (fun r => r.address) := by
    simp only [List.mem_map, List.mem_filter, State.mem_heldOut]
    rintro ⟨r, ⟨mem, out⟩, rfl⟩ ⟨q, ⟨hq, lapses⟩, same⟩
    rw [h.eq_of_address hq mem same] at lapses
    exact Bool.false_ne_true ((apart r mem rfl lapses).symm.trans out)
  simp only [removed, altered]
  refine (markIn_marksMoved (h.nodup_filter Record.holdRunsOut) .removed _ b).trans ?_
  rw [markIn_marksMoved (h.nodup_filter Record.lapsesNow)]
  change (if b ∈ s.heldOut.map (fun r => r.address) then _ else _) = _
  split
  · next gone => rw [if_neg (never gone)]; rfl
  · rfl

/-- A BOUND record carries no dispute hold (R2), and no other state lapses. -/
theorem State.Shaped.apart {s : State} (h : s.Shaped) :
    ∀ r ∈ s.directory.records, r.lapsesNow = true → r.holdRunsOut = false := by
  intro r mem lapses
  obtain ⟨-, -, -, -, -, -, hold⟩ :=
    (Record.fits_bound (Record.bound_of_lapsesNow lapses)).mp (by simpa [Record.fits] using h r mem)
  simp [Record.holdRunsOut, hold]

/-- A record whose hold does not run out stays, one epoch on. -/
theorem State.Placed.recordAt_directoryPart {s : State} {a : Nat} {r : Record} (h : s.Placed)
    (found : s.recordAt a = some r) (stays : r.holdRunsOut = false) :
    s.directoryPart.recordAt a = some r.epochAged := by
  obtain ⟨mem, rfl⟩ := State.mem_of_recordAt found
  refine (changes_keep_placed (directoryPart_changes s) h).recordAt_eq_some.mpr ⟨?_, r.epochAged_address⟩
  rw [h.directoryPart_eq]
  exact List.mem_map.mpr ⟨r, List.mem_filter.mpr ⟨mem, by simp [stays]⟩, rfl⟩

/-- A record whose hold runs out ends. -/
theorem State.Placed.not_mem_directoryAged {s : State} {r : Record} (h : s.Placed) (out : r ∈ s.heldOut) :
    ∀ q ∈ s.directoryAged.records, q.address ≠ r.address := by
  obtain ⟨mem, runsOut⟩ := State.mem_heldOut.mp out
  intro q hq same
  obtain ⟨p, hp, rfl⟩ := List.mem_map.mp hq
  obtain ⟨hp, stays⟩ := List.mem_filter.mp hp
  rw [Record.epochAged_address] at same
  rw [h.eq_of_address hp mem same, runsOut] at stays
  exact Bool.false_ne_true stays

end Sys2Proof.Machine
end

section
/-! The rows that name what comes about inside an epoch expiry (log 5), and the statement of the family "Epochs, Terms
and Lapse" about them. -/

namespace Sys2Proof.Machine

/-! ## An owner's turn -/

theorem State.takePart_taken {s : State} {o : EpochOwner} (taken : s.clock.taken.has o = true) : s.takePart o = s := by
  simp [State.takePart, taken]

theorem State.takePart_fresh {s : State} {o : EpochOwner} (fresh : s.clock.taken.has o = false) :
    s.takePart o = (s.partOf o).setClock { s.clock with taken := s.clock.taken.mark o } := by
  simp [State.takePart, fresh]

/-- The Lease Directory's turn. -/
theorem State.Placed.takePart_leaseDirectory {s : State} (h : s.Placed) (fresh : s.clock.taken.leaseDirectory = false) :
    s.takePart .leaseDirectory = { s with
      directory := s.directoryAged, pool := s.poolWithHolds s.pool, groups := groupsWithout s.heldOut s.groups,
      queue := s.queueAfterHolds,
      clock := { s.clock with taken := { s.clock.taken with leaseDirectory := true } } } := by
  rw [State.takePart_fresh (o := .leaseDirectory) fresh, State.partOf, h.directoryPart_eq]
  rfl

/-- What no owner's part changes. -/
structure State.Beside (s t : State) : Prop where
  params : t.params = s.params
  line : t.line = s.line
  context : t.prober.context = s.prober.context
  chance : t.chance = s.chance
  pending : t.pending = s.pending

theorem directoryPart_beside (s : State) : s.Beside s.directoryPart := by
  rw [State.directoryPart, State.countHolds_eq, foldl_revokeDisputed, State.ageTerms, foldl_lapseRecord]
  exact ⟨rfl, rfl, rfl, rfl, rfl⟩

theorem proberPart_beside (s : State) : s.Beside s.proberPart := by
  unfold State.proberPart
  split
  · split <;> exact ⟨rfl, rfl, rfl, rfl, rfl⟩
  · exact ⟨rfl, rfl, rfl, rfl, rfl⟩

theorem censusPart_beside (s : State) : s.Beside s.censusPart := by
  unfold State.censusPart State.queueCensus
  split
  · split
    · split
      · exact ⟨rfl, rfl, rfl, rfl, rfl⟩
      · rw [State.claimOrDrop_eq]
        exact ⟨rfl, rfl, rfl, rfl, rfl⟩
    · exact ⟨rfl, rfl, rfl, rfl, rfl⟩
  · exact ⟨rfl, rfl, rfl, rfl, rfl⟩

theorem partOf_beside (o : EpochOwner) (s : State) : s.Beside (s.partOf o) := by
  cases o with
  | leaseDirectory => exact directoryPart_beside s
  | addressPool => exact ⟨rfl, rfl, rfl, rfl, rfl⟩
  | prober => exact proberPart_beside s
  | censusUnit => exact censusPart_beside s

theorem State.Beside.trans {s t u : State} (h : s.Beside t) (k : t.Beside u) : s.Beside u :=
  ⟨k.params.trans h.params, k.line.trans h.line, k.context.trans h.context, k.chance.trans h.chance,
    k.pending.trans h.pending⟩

theorem takePart_beside (o : EpochOwner) (s : State) : s.Beside (s.takePart o) := by
  unfold State.takePart
  split
  · exact ⟨rfl, rfl, rfl, rfl, rfl⟩
  · exact (partOf_beside o s).trans ⟨rfl, rfl, rfl, rfl, rfl⟩

theorem takeParts_beside (order : List EpochOwner) (s : State) : s.Beside (s.takeParts order) :=
  List.foldlRecOn _ _ ⟨rfl, rfl, rfl, rfl, rfl⟩ fun _ h o _ => h.trans (takePart_beside o _)

/-- A whole expiry changes nothing beside the owners' parts but the clock. -/
theorem expire_beside (order : List EpochOwner) (s : State) : s.Beside (s.expire order) :=
  (takeParts_beside order s).trans ⟨rfl, rfl, rfl, rfl, rfl⟩

/-- The next epoch begins with the present period, R38 and R40. -/
theorem expire_newEpoch (order : List EpochOwner) (s : State) :
    (s.expire order).clock = { epoch := some { period := s.params.epochPeriod, left := 20 * s.params.epochPeriod },
                               taken := PartsTaken.none } := by
  rw [State.expire, State.beginEpoch_eq, (takeParts_beside order s).params]
  rfl

/-- R28: the Address Pool's part, as the statements say it. -/
theorem State.poolPart_eq (s : State) : s.poolPart = { s with pool := s.pool.epochAged } := by
  simp [State.poolPart, Pool.epochAged, State.setPool, List.filter_map, Function.comp_def]

/-! ## The rows -/

/-- The row names a record that its owner's part takes to the end of its term or of its hold, R44 and R111. -/
def State.RowDue (s : State) (a : Byte) (c : Instr) : Prop :=
  (c = .lapse a ∧ (s.recordAt a.toNat).any (fun r => r.lapsesNow) = true)
    ∨ (c = .disputeHoldExpiry a
        ∧ (s.recordAt a.toNat).any (fun r => r.state == .disputed && r.hold == some 1) = true)

theorem exec_of_rowDue {s : State} {a : Byte} {c : Instr} (online : s.line.state = .online) (due : s.RowDue a c) :
    exec c s = .next (s.takePart .leaseDirectory) := by
  rcases due with ⟨rfl, due⟩ | ⟨rfl, due⟩
  · obtain ⟨r, found, lapses⟩ := (Option.any_eq_true _ _).mp due
    have conditions : s.line.state = .online ∧ r.ages = true ∧ r.term ≤ 1 := by
      simpa [Record.lapsesNow_eq, online] using lapses
    change execLapse a s = _
    simp only [execLapse, found, conditions, and_self, if_true]
  · obtain ⟨r, found, conditions⟩ := (Option.any_eq_true _ _).mp due
    have conditions : s.line.state = .online ∧ r.state = .disputed ∧ r.hold = some 1 := by
      simpa [online] using conditions
    change execDisputeHoldExpiry a s = _
    simp only [execDisputeHoldExpiry, found, conditions, and_self, if_true]

theorem execLapse_cases (a : Byte) (s : State) :
    execLapse a s = .next s ∨ (s.line.state = .online ∧ execLapse a s = .next (s.takePart .leaseDirectory)) := by
  unfold execLapse
  split
  · split
    · next conditions => exact .inr ⟨conditions.1, rfl⟩
    · exact .inl rfl
  · exact .inl rfl

theorem execDisputeHoldExpiry_cases (a : Byte) (s : State) :
    execDisputeHoldExpiry a s = .next s
      ∨ (s.line.state = .online ∧ execDisputeHoldExpiry a s = .next (s.takePart .leaseDirectory)) := by
  unfold execDisputeHoldExpiry
  split
  · split
    · next conditions => exact .inr ⟨conditions.1, rfl⟩
    · exact .inl rfl
  · exact .inl rfl

theorem execQuarantineHoldExpiry_cases (s : State) :
    execQuarantineHoldExpiry s = .next s
      ∨ (s.line.state = .online ∧ execQuarantineHoldExpiry s = .next (s.takePart .addressPool)) := by
  unfold execQuarantineHoldExpiry
  split
  · next conditions => exact .inr ⟨conditions.1, rfl⟩
  · exact .inl rfl

theorem execCensusWindowEnd_cases (s : State) :
    execCensusWindowEnd s = .next s
      ∨ (s.line.state = .online ∧ execCensusWindowEnd s = .next (s.takePart .censusUnit)) := by
  unfold execCensusWindowEnd
  split
  · next conditions => exact .inr ⟨conditions.1, rfl⟩
  · exact .inl rfl

/-- The rows that run an owner's part. -/
def RowOf (a : Byte) (c : Instr) : EpochOwner → Prop
  | .leaseDirectory => c = .lapse a ∨ c = .disputeHoldExpiry a
  | .addressPool => c = .quarantineHoldExpiry
  | .prober => False
  | .censusUnit => c = .censusWindowEnd

/-- A row changes nothing, or takes its owner's part while ONLINE. -/
theorem exec_row_cases {a : Byte} {o : EpochOwner} {c : Instr} (row : RowOf a c o) (s : State) :
    exec c s = .next s ∨ (s.line.state = .online ∧ exec c s = .next (s.takePart o)) := by
  cases o with
  | leaseDirectory =>
    rcases row with rfl | rfl
    · exact execLapse_cases a s
    · exact execDisputeHoldExpiry_cases a s
  | addressPool =>
    obtain rfl : c = .quarantineHoldExpiry := row
    exact execQuarantineHoldExpiry_cases s
  | prober => exact row.elim
  | censusUnit =>
    obtain rfl : c = .censusWindowEnd := row
    exact execCensusWindowEnd_cases s

/-- A row changes nothing where its owner has taken its part, or outside ONLINE. -/
theorem exec_row_idle {s : State} {a : Byte} {o : EpochOwner} {c : Instr} (row : RowOf a c o)
    (idle : s.clock.taken.has o = true ∨ s.line.state ≠ .online) : exec c s = .next s := by
  rcases exec_row_cases row s with unchanged | ⟨online, part⟩
  · exact unchanged
  · rw [part, State.takePart_taken (idle.resolve_right fun h => h online)]

theorem exec_quarantineHoldExpiry_due {s : State} (online : s.line.state = .online)
    (due : ∃ q ∈ s.pool.quarantine, q.hold = 1) :
    exec .quarantineHoldExpiry s = .next (s.takePart .addressPool) :=
  if_pos ⟨online, by simpa using due⟩

theorem exec_censusWindowEnd_due {s : State} (online : s.line.state = .online) (census : s.census.mode = .census)
    (window : s.census.window = 1) : exec .censusWindowEnd s = .next (s.takePart .censusUnit) :=
  if_pos ⟨online, census, window⟩

/-- R122: at its last epoch a census ends. -/
theorem State.censusPart_ends {s : State} (census : s.census.mode = .census) (window : s.census.window ≤ 1) :
    s.censusPart = { s with census := { s.census with mode := .serving, window := 0 },
                            port := s.port.withCause .census } := by
  rw [State.censusPart, if_pos census, if_neg (by omega)]
  rfl

/-- A record retired at its hold's end is in the pool, R26. -/
theorem State.mem_poolWithHolds {s : State} {r : Record} (out : r ∈ s.heldOut) (p : Pool) :
    if s.params.quarantineHold = 0 then r.address ∈ (s.poolWithHolds p).free
    else { address := r.address, lastIdentity := r.identity, hold := s.params.quarantineHold }
      ∈ (s.poolWithHolds p).quarantine := by
  unfold State.poolWithHolds
  split
  · exact List.mem_append_right _ (List.mem_map_of_mem out)
  · exact List.mem_append_right _ (List.mem_map.mpr ⟨r, out, rfl⟩)

/-- R140: the address of a record in the list is in no member list. -/
theorem not_mem_groupsWithout {rs : List Record} {r : Record} (mem : r ∈ rs) (groups : List Group) :
    ∀ g ∈ groupsWithout rs groups, r.address ∉ g.members := by
  intro g hg member
  obtain ⟨v, -, rfl⟩ := List.mem_map.mp hg
  have kept := List.all_eq_true.mp (List.mem_filter.mp member).2 r mem
  simp at kept

/-- A lapse one epoch on, with the quiet count one higher, R44 and R46. -/
theorem Record.epochAged_lapses {r : Record} (lapses : r.lapsesNow = true) (free : r.hold = none) :
    r.epochAged = { r.lapsedNow with quiet := min (r.quiet + 1) 65535 } := by
  simp [Record.epochAged, lapses, Record.bound_of_lapsesNow lapses, Record.lapsedNow, free]

theorem exec_epochExpiry_online {s : State} (online : s.line.state = .online) (order : List EpochOwner) :
    exec (.epochExpiry order) s = .next (s.expire order) := if_pos online

theorem exec_epochExpiry_offline {s : State} (offline : s.line.state ≠ .online) (order : List EpochOwner) :
    exec (.epochExpiry order) s = .next s := if_neg offline

/-- An expiry whose first turn is taken already goes on with the others. -/
theorem expire_takePart (o : EpochOwner) (order : List EpochOwner) (s : State) :
    (s.takePart o).expire order = s.expire (o :: order) := rfl

/-- Settles O42: each row is its owner's turn, taken once. -/
theorem expiryRowsRunTheirOwnersPart : Obligations.ExpiryRowsRunTheirOwnersPart := by
  refine ⟨?lapse, ?hold, ?quarantine, ?window, ?whole, ?idle, ?first⟩
  case lapse =>
    intro s a r online placed fresh found bound unpinned free term
    have lapses : r.lapsesNow = true := by simp [Record.lapsesNow, bound, unpinned, term]
    have due : s.RowDue a (.lapse a) := .inl ⟨rfl, by simp [found, lapses]⟩
    refine ⟨_, exec_of_rowDue online due, ?_, ?_⟩
    · rw [State.takePart_fresh (o := .leaseDirectory) fresh, ← Record.epochAged_lapses lapses free]
      exact placed.recordAt_directoryPart found (by simp [Record.holdRunsOut, free])
    · rw [placed.takePart_leaseDirectory fresh]
      exact ⟨rfl, rfl, rfl, rfl, rfl, rfl⟩
  case hold =>
    intro s a r online placed fresh found disputed hold
    have due : s.RowDue a (.disputeHoldExpiry a) := .inr ⟨rfl, by simp [found, disputed, hold]⟩
    obtain ⟨mem, address⟩ := State.mem_of_recordAt found
    have out : r ∈ s.heldOut := State.mem_heldOut.mpr ⟨mem, by simp [Record.holdRunsOut, hold]⟩
    refine ⟨_, exec_of_rowDue online due, ?_⟩
    rw [placed.takePart_leaseDirectory fresh, ← address]
    refine ⟨State.recordAt_eq_none.mpr (placed.not_mem_directoryAged out), State.mem_poolWithHolds out _, ?_,
      not_mem_groupsWithout out _, rfl, rfl, rfl, rfl, rfl, rfl⟩
    refine (placed.markIn_directoryAged ?_).trans (if_pos (List.any_eq_true.mpr ⟨r, out, by simp⟩))
    intro q hq same lapses
    rw [placed.eq_of_address hq mem same] at lapses
    simp [Record.lapsesNow, disputed] at lapses
  case quarantine =>
    intro s online fresh due
    rw [exec_quarantineHoldExpiry_due online due, State.takePart_fresh (o := .addressPool) fresh, State.partOf,
      State.poolPart_eq]
    rfl
  case window =>
    intro s online fresh census window
    rw [exec_censusWindowEnd_due online census window, State.takePart_fresh (o := .censusUnit) fresh,
      State.partOf, State.censusPart_ends census window.le]
    rfl
  case whole =>
    intro s a c online placed shaped fresh due
    refine ⟨_, exec_of_rowDue online due, ?_⟩
    rw [placed.takePart_leaseDirectory fresh]
    exact ⟨rfl, rfl, fun b => placed.markIn_directoryAged fun r mem _ => shaped.apart r mem, rfl, rfl, rfl, rfl, rfl,
      rfl⟩
  case idle =>
    rintro s a c (⟨row, taken⟩ | ⟨row, taken⟩ | ⟨row, taken⟩ | ⟨row, offline⟩)
    · exact exec_row_idle (o := .leaseDirectory) (a := a) row (.inl taken)
    · exact exec_row_idle (o := .addressPool) (a := a) row (.inl taken)
    · exact exec_row_idle (o := .censusUnit) (a := a) row (.inl taken)
    · rcases row with row | row | row | row
      · exact exec_row_idle (o := .leaseDirectory) (a := a) (.inl row) (.inr offline)
      · exact exec_row_idle (o := .leaseDirectory) (a := a) (.inr row) (.inr offline)
      · exact exec_row_idle (o := .addressPool) (a := a) row (.inr offline)
      · exact exec_row_idle (o := .censusUnit) (a := a) row (.inr offline)
  case first =>
    intro s a c order u online due taken
    obtain rfl : s.takePart .leaseDirectory = u := by simpa [exec_of_rowDue online due] using taken
    rw [exec_epochExpiry_online online, exec_epochExpiry_online (by rw [(takePart_beside _ s).line, online]),
      expire_takePart]

end Sys2Proof.Machine
end

section
/-! The turns of the four owners at an epoch expiry, in any order (R41): what each part of the state comes to depends on
the order of two owners at most. With it the statement of the family "Epochs, Terms and Lapse" about an expiry. -/

namespace Sys2Proof.Machine

/-! ## Who takes a turn, and when -/

/-- The turns that come about when the owners are called in the order given: each owner's first, unless it has taken its
part already (log 5). -/
def turns : PartsTaken → List EpochOwner → List EpochOwner
  | _, [] => []
  | t, o :: os => if t.has o then turns t os else o :: turns (t.mark o) os

theorem PartsTaken.has_mark (t : PartsTaken) (o p : EpochOwner) : (t.mark o).has p = (p == o || t.has p) := by
  cases o <;> cases p <;> rfl

theorem PartsTaken.has_mark_of_ne {t : PartsTaken} {o p : EpochOwner} (other : p ≠ o) :
    (t.mark o).has p = t.has p := by
  simp [PartsTaken.has_mark, other]

/-- Owners that have all taken their parts have no turn more. -/
theorem filter_turns_taken {rel : EpochOwner → Bool} {t : PartsTaken} (all : ∀ o, rel o = true → t.has o = true)
    (os : List EpochOwner) : (turns t os).filter rel = [] := by
  induction os generalizing t with
  | nil => rfl
  | cons o os ih =>
    cases taken : t.has o with
    | true => simpa [turns, taken] using ih all
    | false =>
      have apart : rel o = false := Bool.eq_false_iff.mpr fun h => by simp [all o h] at taken
      have rest := ih (t := t.mark o) fun p hp => by simp [PartsTaken.has_mark, all p hp]
      simpa [turns, taken, apart] using rest

/-- The one owner left takes its turn. -/
theorem filter_turns_last {rel : EpochOwner → Bool} {t : PartsTaken} {b : EpochOwner} (here : rel b = true)
    (fresh : t.has b = false) (others : ∀ o, rel o = true → o ≠ b → t.has o = true) {os : List EpochOwner}
    (mem : b ∈ os) : (turns t os).filter rel = [b] := by
  induction os generalizing t with
  | nil => simp at mem
  | cons o os ih =>
    by_cases same : o = b
    · subst same
      have rest := filter_turns_taken (rel := rel) (t := t.mark o) (fun p hp => by
        by_cases e : p = o
        · simp [PartsTaken.has_mark, e]
        · simp [PartsTaken.has_mark, others p hp e]) os
      simp [turns, fresh, here, rest]
    · have mem' : b ∈ os := (List.mem_cons.mp mem).resolve_left (Ne.symm same)
      cases taken : t.has o with
      | true => simpa [turns, taken] using ih fresh others mem'
      | false =>
        have apart : rel o = false := Bool.eq_false_iff.mpr fun h => by simp [others o h same] at taken
        have rest := ih (t := t.mark o) (by rw [PartsTaken.has_mark_of_ne (Ne.symm same), fresh])
          (fun p hp hne => by simp [PartsTaken.has_mark, others p hp hne]) mem'
        simpa [turns, taken, apart] using rest

/-- Of two owners that have no part yet, the one that is called first goes first. -/
theorem filter_turns_two {a b : EpochOwner} (ne : a ≠ b) {t : PartsTaken} (freshA : t.has a = false)
    (freshB : t.has b = false) {os : List EpochOwner} (memA : a ∈ os) (memB : b ∈ os) :
    (turns t os).filter (fun o => o == a || o == b) =
      if os.find? (fun o => o == a || o == b) = some b then [b, a] else [a, b] := by
  induction os generalizing t with
  | nil => simp at memA
  | cons o os ih =>
    by_cases isA : o = a
    · subst isA
      have rest := filter_turns_last (rel := fun p => p == o || p == b) (t := t.mark o) (b := b) (by simp)
        (by rw [PartsTaken.has_mark_of_ne ne.symm, freshB]) (fun p hp hne => by
          simp only [Bool.or_eq_true, beq_iff_eq, hne, or_false] at hp
          simp [PartsTaken.has_mark, hp]) ((List.mem_cons.mp memB).resolve_left ne.symm)
      simp [turns, freshA, rest, ne]
    · by_cases isB : o = b
      · subst isB
        have rest := filter_turns_last (rel := fun p => p == a || p == o) (t := t.mark o) (b := a) (by simp)
          (by rw [PartsTaken.has_mark_of_ne ne, freshA]) (fun p hp hne => by
            simp only [Bool.or_eq_true, beq_iff_eq, hne, false_or] at hp
            simp [PartsTaken.has_mark, hp]) ((List.mem_cons.mp memA).resolve_left ne)
        simp [turns, freshB, rest]
      · have memA' := (List.mem_cons.mp memA).resolve_left (Ne.symm isA)
        have memB' := (List.mem_cons.mp memB).resolve_left (Ne.symm isB)
        cases taken : t.has o with
        | true => simpa [turns, taken, isA, isB] using ih freshA freshB memA' memB'
        | false =>
          have rest := ih (t := t.mark o) (by rw [PartsTaken.has_mark_of_ne (Ne.symm isA), freshA])
            (by rw [PartsTaken.has_mark_of_ne (Ne.symm isB), freshB]) memA' memB'
          simpa [turns, taken, isA, isB] using rest

/-- An owner that the order leaves out follows in the order of R41. -/
theorem mem_calls (order : List EpochOwner) (o : EpochOwner) : o ∈ order ++ allOwners :=
  List.mem_append_right _ (by cases o <;> decide)

/-- The turns of two owners at a whole expiry: the second in the order of R41 goes first only where it is called
first. -/
theorem filter_turns_expiry {a b : EpochOwner} (ne : a ≠ b)
    (first : allOwners.find? (fun o => o == a || o == b) = some a) (order : List EpochOwner) :
    (turns PartsTaken.none (order ++ allOwners)).filter (fun o => o == a || o == b) =
      if order.find? (fun o => o == a || o == b) = some b then [b, a] else [a, b] := by
  have fresh : ∀ o, PartsTaken.none.has o = false := fun o => by cases o <;> rfl
  rw [filter_turns_two ne (fresh a) (fresh b) (mem_calls order a) (mem_calls order b), List.find?_append, first]
  cases order.find? (fun o => o == a || o == b) with
  | none => simp [ne]
  | some o => simp

/-! ## What two owners see of an expiry -/

/-- Two states alike in what the owners' parts read and do not change, the addresses obeying their law in both. -/
structure State.Alike (u v : State) : Prop where
  left : u.Placed
  right : v.Placed
  params : u.params = v.params
  line : u.line = v.line
  context : u.prober.context = v.prober.context

theorem State.Alike.partLeft {u v : State} (h : u.Alike v) (o : EpochOwner) : (u.takePart o).Alike v :=
  have beside := takePart_beside o u
  ⟨changes_keep_placed (takePart_changes o u) h.left, h.right, beside.params.trans h.params,
    beside.line.trans h.line, beside.context.trans h.context⟩

theorem State.Alike.partRight {u v : State} (h : u.Alike v) (o : EpochOwner) : u.Alike (v.partOf o) :=
  have beside := partOf_beside o v
  ⟨h.left, changes_keep_placed (partOf_changes o v) h.right, h.params.trans beside.params.symm,
    h.line.trans beside.line.symm, h.context.trans beside.context.symm⟩

/-- Some owners' parts change what the view shows, each by what the view shows, and the others' do not. -/
structure Views {α : Type} (rel : EpochOwner → Bool) (view : State → α) : Prop where
  unclocked (u : State) (c : Clock) : view (u.setClock c) = view u
  idle (o : EpochOwner) (u : State) : rel o = false → u.Placed → view (u.partOf o) = view u
  acts (o : EpochOwner) (u v : State) :
    rel o = true → u.Alike v → view u = view v → view (u.partOf o) = view (v.partOf o)

/-- The view after all turns is that after the turns of its own owners. -/
theorem Views.foldl_takePart {α : Type} {rel : EpochOwner → Bool} {view : State → α} (h : Views rel view)
    (os : List EpochOwner) {u v : State} (alike : u.Alike v) (same : view u = view v) :
    view (os.foldl (fun t o => t.takePart o) u) =
      view (((turns u.clock.taken os).filter rel).foldl (fun t o => t.partOf o) v) := by
  induction os generalizing u v with
  | nil => exact same
  | cons o os ih =>
    rw [List.foldl_cons]
    cases taken : u.clock.taken.has o with
    | true =>
      rw [State.takePart_taken taken, ih alike same]
      simp [turns, taken]
    | false =>
      have next : (u.takePart o).clock.taken = u.clock.taken.mark o := by rw [State.takePart_fresh taken]; rfl
      have shown : view (u.takePart o) = view (u.partOf o) := by rw [State.takePart_fresh taken, h.unclocked]
      cases mine : rel o with
      | true =>
        rw [ih ((alike.partLeft o).partRight o) (shown.trans (h.acts o u v mine alike same)), next]
        simp [turns, taken, mine]
      | false =>
        rw [ih (alike.partLeft o) (shown.trans ((h.idle o u mine alike.left).trans same)), next]
        simp [turns, taken, mine]

/-- An expiry seen by two owners: the parts of these two, in their order. -/
theorem Views.expire {α : Type} {a b : EpochOwner} {view : State → α} (h : Views (fun o => o == a || o == b) view)
    (ne : a ≠ b) (first : allOwners.find? (fun o => o == a || o == b) = some a) {s : State} (placed : s.Placed)
    (fresh : s.clock.taken = PartsTaken.none) (order : List EpochOwner) :
    view (s.expire order) =
      if order.find? (fun o => o == a || o == b) = some b then view ((s.partOf b).partOf a)
      else view ((s.partOf a).partOf b) := by
  have run := h.foldl_takePart (order ++ allOwners) ⟨placed, placed, rfl, rfl, rfl⟩ (Eq.refl (view s))
  rw [fresh, filter_turns_expiry ne first] at run
  refine (h.unclocked _ _).trans (run.trans ?_)
  split <;> rfl

end Sys2Proof.Machine
end

section
/-! Each block of the state after an epoch expiry, and the statement of the family "Epochs, Terms and Lapse" about
it. -/

namespace Sys2Proof.Machine

/-! ## The parts of the Prober and of the Census Unit -/

/-- R103 and R104: a WAITING sweep scans again, and a SCANNING one goes on. -/
def Prober.scans (p : Prober) : Prober := { p with sweep := p.sweep.map (fun w => { w with scanning := true }) }

theorem State.proberPart_serving {s : State} (serving : s.census.mode = .serving) :
    s.proberPart = { s with prober := s.prober.scans } := by
  unfold State.proberPart
  split
  · next w sweep =>
    rw [if_pos serving, Prober.scans, sweep]
    rfl
  · next sweep =>
    have idle : s.prober.scans = s.prober := by
      rw [Prober.scans, sweep, Option.map_none, ← sweep]
    rw [idle]

theorem State.proberPart_census {s : State} (census : s.census.mode = .census) : s.proberPart = s := by
  unfold State.proberPart
  split <;> simp [census]

theorem State.censusPart_serving {s : State} (serving : s.census.mode = .serving) : s.censusPart = s := by
  simp [State.censusPart, serving]

/-- R121 and R122: a census window drops by one, with the waiting CENSUS frame brought up to date. -/
theorem State.censusPart_updates {s : State} (census : s.census.mode = .census) (window : 2 ≤ s.census.window)
    (waiting : s.queue.entries.any TxEntry.waitingCensus = true) :
    s.censusPart = { s with
      census := { s.census with window := s.census.window - 1 },
      queue := s.censusUpdated (censusFrame (s.census.window - 1) s.params.epochPeriod) } := by
  rw [State.censusPart, if_pos census, if_pos window, State.queueCensus, State.setCensus_queue, if_pos waiting]
  rfl

/-- R121 and R122: a census window drops by one, with a CENSUS frame claimed for. -/
theorem State.censusPart_claims {s : State} (census : s.census.mode = .census) (window : 2 ≤ s.census.window)
    (none : s.queue.entries.any TxEntry.waitingCensus = false) :
    s.censusPart = { s with
      census := { s.census with window := s.census.window - 1 },
      queue := s.claimed .censusUnit (censusFrame (s.census.window - 1) s.params.epochPeriod) 0 } := by
  rw [State.censusPart, if_pos census, if_pos window, State.queueCensus, State.setCensus_queue, none,
    State.claimOrDrop_eq]
  rfl

theorem State.proberPart_frame (s : State) : s.proberPart = { s with prober := s.proberPart.prober } := by
  cases mode : s.census.mode with
  | serving => rw [State.proberPart_serving mode]
  | census => rw [State.proberPart_census mode]

theorem State.censusPart_frame (s : State) :
    s.censusPart = { s with
      census := s.censusPart.census, queue := s.censusPart.queue, port := s.censusPart.port } := by
  cases mode : s.census.mode with
  | serving => rw [State.censusPart_serving mode]
  | census =>
    by_cases window : s.census.window ≤ 1
    · rw [State.censusPart_ends mode window]
    · cases waiting : s.queue.entries.any TxEntry.waitingCensus with
      | true => rw [State.censusPart_updates mode (by omega) waiting]
      | false => rw [State.censusPart_claims mode (by omega) waiting]

/-! ## The Lease Directory and the Address Pool -/

theorem State.heldOut_congr {u v : State} (directory : u.directory = v.directory) : u.heldOut = v.heldOut := by
  rw [State.heldOut, State.heldOut, directory]

theorem State.directoryAged_congr {u v : State} (directory : u.directory = v.directory)
    (context : u.prober.context = v.prober.context) : u.directoryAged = v.directoryAged := by
  have target : ∀ r, u.isTarget r = v.isTarget r := fun r => by simp only [State.isTarget, context]
  simp only [State.directoryAged, State.heldOut_congr directory, directory, target]

/-- The records, the pool and the member lists: the Lease Directory and the Address Pool act on them. -/
def State.tables (s : State) : Directory × List Group × Pool := (s.directory, s.groups, s.pool)

theorem views_tables : Views (fun o => o == .leaseDirectory || o == .addressPool) State.tables where
  unclocked _ _ := rfl
  idle o u other _ := by
    cases o with
    | leaseDirectory | addressPool => simp at other
    | prober => rw [State.partOf, State.proberPart_frame]; rfl
    | censusUnit => rw [State.partOf, State.censusPart_frame]; rfl
  acts o u v mine alike same := by
    simp only [State.tables, Prod.mk.injEq] at same
    obtain ⟨directory, groups, pool⟩ := same
    cases o with
    | leaseDirectory =>
      simp only [State.partOf, alike.left.directoryPart_eq, alike.right.directoryPart_eq, State.tables,
        State.directoryAged_congr directory alike.context, State.poolWithHolds_eq, State.heldOut_congr directory,
        alike.params, groups, pool]
    | addressPool => simp only [State.partOf, State.poolPart_eq, State.tables, directory, groups, pool]
    | prober | censusUnit => simp at mine

/-- The Lease Directory and the groups after an expiry, and the pool, to which the addresses of retired records come
before or after its own part. -/
theorem State.Placed.expire_tables {s : State} (h : s.Placed) (fresh : s.clock.taken = PartsTaken.none)
    (order : List EpochOwner) :
    (s.expire order).tables = (s.directoryAged, groupsWithout s.heldOut s.groups,
      if order.find? (fun o => o == .leaseDirectory || o == .addressPool) = some .addressPool
      then s.poolWithHolds s.pool.epochAged else (s.poolWithHolds s.pool).epochAged) := by
  have poolFirst : s.poolPart.directoryPart.tables
      = (s.directoryAged, groupsWithout s.heldOut s.groups, s.poolWithHolds s.pool.epochAged) := by
    rw [h.poolPart.directoryPart_eq, State.poolPart_eq]
    rfl
  have directoryFirst : s.directoryPart.poolPart.tables
      = (s.directoryAged, groupsWithout s.heldOut s.groups, (s.poolWithHolds s.pool).epochAged) := by
    rw [State.poolPart_eq, h.directoryPart_eq]
    rfl
  rw [views_tables.expire (by decide) rfl h fresh order]
  split
  · exact poolFirst
  · exact directoryFirst

/-! ## The Transmit Queue, the census and the port -/

/-- The records, the queue, the census and the port: the Lease Directory and the Census Unit act on them. -/
def State.traffic (s : State) : Directory × TxQueue × Census × Port := (s.directory, s.queue, s.census, s.port)

theorem State.traffic_inj {u v : State} :
    u.traffic = v.traffic ↔
      u.directory = v.directory ∧ u.queue = v.queue ∧ u.census = v.census ∧ u.port = v.port := by
  simp [State.traffic]

theorem State.traffic_parts {t : State} {d : Directory} {q : TxQueue} {c : Census} {p : Port}
    (h : t.traffic = (d, q, c, p)) : t.queue = q ∧ t.census = c ∧ t.port = p := by
  simp only [State.traffic, Prod.mk.injEq] at h
  exact h.2

theorem State.claimed_congr {u v : State} (line : u.line = v.line) (params : u.params = v.params)
    (queue : u.queue = v.queue) (o : Originator) (f : Frame) : u.claimed o f 0 = v.claimed o f 0 := by
  simp only [State.claimed, State.queueWith, State.entryOf, line, params, queue]

theorem State.censusUpdated_congr {u v : State} (queue : u.queue = v.queue) (f : Frame) :
    u.censusUpdated f = v.censusUpdated f := by
  simp only [State.censusUpdated, queue]

theorem State.censusPart_traffic_congr {u v : State} (line : u.line = v.line) (params : u.params = v.params)
    (same : u.traffic = v.traffic) : u.censusPart.traffic = v.censusPart.traffic := by
  obtain ⟨directory, queue, census, port⟩ := State.traffic_inj.mp same
  cases mode : v.census.mode with
  | serving => rw [State.censusPart_serving (census ▸ mode), State.censusPart_serving mode, same]
  | census =>
    by_cases window : v.census.window ≤ 1
    · rw [State.censusPart_ends (census ▸ mode) (census ▸ window), State.censusPart_ends mode window]
      simp only [State.traffic, directory, queue, census, port]
    · have more : 2 ≤ v.census.window := by omega
      cases waiting : v.queue.entries.any TxEntry.waitingCensus with
      | true =>
        rw [State.censusPart_updates (census ▸ mode) (census ▸ more) (queue ▸ waiting),
          State.censusPart_updates mode more waiting]
        simp only [State.traffic, directory, State.censusUpdated_congr queue, census, port, params]
      | false =>
        rw [State.censusPart_claims (census ▸ mode) (census ▸ more) (queue ▸ waiting),
          State.censusPart_claims mode more waiting]
        simp only [State.traffic, directory, State.claimed_congr line params queue, census, port, params]

theorem views_traffic : Views (fun o => o == .leaseDirectory || o == .censusUnit) State.traffic where
  unclocked _ _ := rfl
  idle o u other _ := by
    cases o with
    | leaseDirectory | censusUnit => simp at other
    | addressPool => rfl
    | prober => rw [State.partOf, State.proberPart_frame]; rfl
  acts o u v mine alike same := by
    obtain ⟨directory, queue, census, port⟩ := State.traffic_inj.mp same
    cases o with
    | leaseDirectory =>
      simp only [State.partOf, alike.left.directoryPart_eq, alike.right.directoryPart_eq, State.traffic,
        State.directoryAged_congr directory alike.context, State.queueAfterHolds_eq, State.heldOut_congr directory,
        State.queueRevoking_congr alike.line alike.params, queue, census, port]
    | censusUnit => exact State.censusPart_traffic_congr alike.line alike.params same
    | addressPool | prober => simp at mine

/-- The Census Unit's part leaves the addresses where they stand. -/
theorem State.Placed.censusPart {s : State} (h : s.Placed) : s.censusPart.Placed :=
  h.congr (censusPart_same s).pool (censusPart_same s).addresses

/-- The queue, the census and the port after an expiry, to which the Lease Directory and the Census Unit come in either
order. -/
theorem State.Placed.expire_traffic {s : State} (h : s.Placed) (fresh : s.clock.taken = PartsTaken.none)
    (order : List EpochOwner) :
    (s.expire order).traffic =
      if order.find? (fun o => o == .leaseDirectory || o == .censusUnit) = some .censusUnit
      then s.censusPart.directoryPart.traffic else s.directoryPart.censusPart.traffic :=
  views_traffic.expire (by decide) rfl h fresh order

/-- In SERVING the Census Unit takes no part. -/
theorem State.Placed.expire_traffic_serving {s : State} (h : s.Placed) (fresh : s.clock.taken = PartsTaken.none)
    (serving : s.census.mode = .serving) (order : List EpochOwner) :
    (s.expire order).traffic = (s.directoryAged, s.queueAfterHolds, s.census, s.port) := by
  have after : s.directoryPart.census.mode = .serving := by rw [h.directoryPart_eq]; exact serving
  rw [h.expire_traffic fresh, State.censusPart_serving serving, State.censusPart_serving after, h.directoryPart_eq]
  exact ite_self _

/-- A census at its last epoch ends, R122. -/
theorem State.Placed.expire_traffic_ends {s : State} (h : s.Placed) (fresh : s.clock.taken = PartsTaken.none)
    (census : s.census.mode = .census) (window : s.census.window ≤ 1) (order : List EpochOwner) :
    (s.expire order).traffic = (s.directoryAged, s.queueAfterHolds, { s.census with mode := .serving, window := 0 },
      s.port.withCause .census) := by
  have censusFirst := h.censusPart.directoryPart_eq
  have directoryFirst := State.censusPart_ends (s := s.directoryPart) (by rw [h.directoryPart_eq]; exact census)
    (by rw [h.directoryPart_eq]; exact window)
  rw [h.expire_traffic fresh, censusFirst, directoryFirst, State.censusPart_ends census window, h.directoryPart_eq]
  exact ite_self _

/-- A REVOKE that is claimed for is no CENSUS frame: it can be queued before the CENSUS frames are brought up to date,
or after. -/
theorem State.claimed_censusUpdated (s : State) (f r : Frame) :
    State.claimed { s with queue := s.censusUpdated f } .dispute r 0
      = State.censusUpdated { s with queue := s.claimed .dispute r 0 } f := by
  unfold State.claimed
  simp only [State.censusUpdated, List.length_map]
  split <;> simp [State.queueWith, State.entryOf, TxEntry.waitingCensus]

theorem State.queueRevoking_censusUpdated (s : State) (rs : List Record) (f : Frame) :
    s.queueRevoking rs (s.censusUpdated f) = State.censusUpdated { s with queue := s.queueRevoking rs s.queue } f := by
  induction rs generalizing s with
  | nil => rfl
  | cons r rs ih =>
    have step := State.claimed_censusUpdated s f (untargetedRevoke r.address)
    have rest := ih { s with queue := s.claimed .dispute (untargetedRevoke r.address) 0 }
    exact (congrArg (s.queueRevoking rs) step).trans rest

theorem State.any_waitingCensus_claimed (s : State) (r : Frame) :
    (s.claimed .dispute r 0).entries.any TxEntry.waitingCensus = s.queue.entries.any TxEntry.waitingCensus := by
  unfold State.claimed
  split
  · simp [State.queueWith, State.entryOf, TxEntry.waitingCensus]
  · rfl

/-- The REVOKEs claimed for leave open whether a CENSUS frame waits. -/
theorem State.any_waitingCensus_queueRevoking (s : State) (rs : List Record) (q : TxQueue) :
    (s.queueRevoking rs q).entries.any TxEntry.waitingCensus = q.entries.any TxEntry.waitingCensus :=
  List.foldlRecOn
    (motive := fun p : TxQueue => p.entries.any TxEntry.waitingCensus = q.entries.any TxEntry.waitingCensus) rs _ rfl
    fun p hp _ _ => (State.any_waitingCensus_claimed { s with queue := p } _).trans hp

/-- With a CENSUS frame waiting, it is brought up to date, R121. -/
theorem State.Placed.expire_traffic_updates {s : State} (h : s.Placed) (fresh : s.clock.taken = PartsTaken.none)
    (census : s.census.mode = .census) (window : 2 ≤ s.census.window)
    (waiting : s.queue.entries.any TxEntry.waitingCensus = true) (order : List EpochOwner) :
    (s.expire order).traffic = (s.directoryAged,
      State.censusUpdated { s with queue := s.queueAfterHolds }
        (censusFrame (s.census.window - 1) s.params.epochPeriod),
      { s.census with window := s.census.window - 1 }, s.port) := by
  have censusFirst := h.censusPart.directoryPart_eq
  have directoryFirst := State.censusPart_updates (s := s.directoryPart) (by rw [h.directoryPart_eq]; exact census)
    (by rw [h.directoryPart_eq]; exact window)
    (by rw [h.directoryPart_eq]; exact (s.any_waitingCensus_queueRevoking _ _).trans waiting)
  have commutes := s.queueRevoking_censusUpdated s.heldOut (censusFrame (s.census.window - 1) s.params.epochPeriod)
  rw [h.expire_traffic fresh, censusFirst, directoryFirst, State.censusPart_updates census window waiting,
    h.directoryPart_eq]
  split
  · exact congrArg (fun q => (s.directoryAged, q, ({ s.census with window := s.census.window - 1 } : Census), s.port))
      commutes
  · rfl

/-- With none waiting, a CENSUS frame is claimed for, and the REVOKEs before it or after it, R121. -/
theorem State.Placed.expire_traffic_claims {s : State} (h : s.Placed) (fresh : s.clock.taken = PartsTaken.none)
    (census : s.census.mode = .census) (window : 2 ≤ s.census.window)
    (none : s.queue.entries.any TxEntry.waitingCensus = false) (order : List EpochOwner) :
    (s.expire order).traffic = (s.directoryAged,
      if order.find? (fun o => o == .leaseDirectory || o == .censusUnit) = some .censusUnit
      then State.queueAfterHolds { s with
        queue := s.claimed .censusUnit (censusFrame (s.census.window - 1) s.params.epochPeriod) 0 }
      else State.claimed { s with queue := s.queueAfterHolds } .censusUnit
        (censusFrame (s.census.window - 1) s.params.epochPeriod) 0,
      { s.census with window := s.census.window - 1 }, s.port) := by
  have censusFirst := h.censusPart.directoryPart_eq
  have directoryFirst := State.censusPart_claims (s := s.directoryPart) (by rw [h.directoryPart_eq]; exact census)
    (by rw [h.directoryPart_eq]; exact window)
    (by rw [h.directoryPart_eq]; exact (s.any_waitingCensus_queueRevoking _ _).trans none)
  rw [h.expire_traffic fresh, censusFirst, directoryFirst, State.censusPart_claims census window none,
    h.directoryPart_eq]
  split <;> rfl

/-! ## The sweep -/

/-- The census and the sweep: the Prober and the Census Unit act on them. -/
def State.sweeping (s : State) : Census × Option Sweep := (s.census, s.prober.sweep)

theorem Mode.eq_census_of_ne {m : Mode} (other : m ≠ .serving) : m = .census := by
  cases m with
  | serving => exact absurd rfl other
  | census => rfl

/-- The census one epoch on, R122. -/
def Census.epochAged (c : Census) : Census :=
  match c.mode with
  | .serving => c
  | .census => if 2 ≤ c.window then { c with window := c.window - 1 } else { c with mode := .serving, window := 0 }

theorem State.censusPart_census (s : State) : s.censusPart.census = s.census.epochAged := by
  unfold Census.epochAged
  split
  · next mode => rw [State.censusPart_serving mode]
  · next mode =>
    split
    · next window =>
      cases waiting : s.queue.entries.any TxEntry.waitingCensus with
      | true => rw [State.censusPart_updates mode window waiting]
      | false => rw [State.censusPart_claims mode window waiting]
    · next window => rw [State.censusPart_ends mode (by omega)]

theorem State.censusPart_sweeping (s : State) : s.censusPart.sweeping = (s.census.epochAged, s.prober.sweep) := by
  rw [State.sweeping, State.censusPart_census, State.censusPart_frame]

theorem State.proberPart_sweeping (s : State) :
    s.proberPart.sweeping = (s.census, if s.census.mode = .serving then s.prober.scans.sweep else s.prober.sweep) := by
  split
  · next mode => rw [State.proberPart_serving mode]; rfl
  · next mode =>
    rw [State.proberPart_census (Mode.eq_census_of_ne mode)]
    rfl

theorem views_sweeping : Views (fun o => o == .prober || o == .censusUnit) State.sweeping where
  unclocked _ _ := rfl
  idle o u other placed := by
    cases o with
    | prober | censusUnit => simp at other
    | addressPool => rfl
    | leaseDirectory => rw [State.partOf, placed.directoryPart_eq]; rfl
  acts o u v mine _ same := by
    obtain ⟨census, sweep⟩ := Prod.mk.inj same
    cases o with
    | prober => simp only [State.partOf, State.proberPart_sweeping, Prober.scans, census, sweep]
    | censusUnit => simp only [State.partOf, State.censusPart_sweeping, census, sweep]
    | leaseDirectory | addressPool => simp at mine

/-- A sweep scans again where the Prober takes its part in SERVING, R103. -/
theorem State.Placed.expire_sweep {s : State} (h : s.Placed) (fresh : s.clock.taken = PartsTaken.none)
    (order : List EpochOwner) :
    (s.expire order).prober.sweep =
      if order.find? (fun o => o == .prober || o == .censusUnit) = some .censusUnit
      then if s.census.epochAged.mode = .serving then s.prober.scans.sweep else s.prober.sweep
      else if s.census.mode = .serving then s.prober.scans.sweep else s.prober.sweep := by
  have seen := congrArg Prod.snd (views_sweeping.expire (by decide) rfl h fresh order)
  have prober : s.censusPart.prober = s.prober := by rw [State.censusPart_frame]
  have censusFirst : s.censusPart.proberPart.sweeping.2 =
      if s.census.epochAged.mode = .serving then s.prober.scans.sweep else s.prober.sweep := by
    rw [State.proberPart_sweeping, State.censusPart_census, prober]
  have proberFirst : s.proberPart.censusPart.sweeping.2 =
      if s.census.mode = .serving then s.prober.scans.sweep else s.prober.sweep := by
    rw [State.censusPart_sweeping]
    exact congrArg Prod.snd s.proberPart_sweeping
  rw [← censusFirst, ← proberFirst]
  refine seen.trans ?_
  split <;> rfl

theorem State.Placed.expire_sweep_serving {s : State} (h : s.Placed) (fresh : s.clock.taken = PartsTaken.none)
    (order : List EpochOwner) (serving : s.census.mode = .serving) :
    (s.expire order).prober.sweep = s.prober.sweep.map (fun w => { w with scanning := true }) := by
  rw [h.expire_sweep fresh]
  simp [Census.epochAged, serving, Prober.scans]

/-- At a census that ends the sweep scans only where the Census Unit takes its part before the Prober. -/
theorem State.Placed.expire_sweep_ends {s : State} (h : s.Placed) (fresh : s.clock.taken = PartsTaken.none)
    (order : List EpochOwner) (census : s.census.mode = .census) (window : s.census.window ≤ 1) :
    (s.expire order).prober.sweep =
      if order.find? (fun o => o == .prober || o == .censusUnit) = some .censusUnit
      then s.prober.sweep.map (fun w => { w with scanning := true }) else s.prober.sweep := by
  have ended : ¬ 2 ≤ s.census.window := by omega
  rw [h.expire_sweep fresh]
  simp [Census.epochAged, census, ended, Prober.scans]

theorem State.Placed.expire_sweep_goesOn {s : State} (h : s.Placed) (fresh : s.clock.taken = PartsTaken.none)
    (order : List EpochOwner) (census : s.census.mode = .census) (window : 2 ≤ s.census.window) :
    (s.expire order).prober.sweep = s.prober.sweep := by
  rw [h.expire_sweep fresh]
  simp [Census.epochAged, census, window]

/-! ## An expiry at which no hold runs out -/

theorem State.heldOut_eq_nil {s : State}
    (runs : ∀ r ∈ s.directory.records, r.hold ≠ some 0 ∧ r.hold ≠ some 1) : s.heldOut = [] := by
  refine List.filter_eq_nil_iff.mpr fun r mem => ?_
  obtain ⟨zero, one⟩ := runs r mem
  cases hold : r.hold with
  | none => simp [Record.holdRunsOut, hold]
  | some n =>
    simp only [hold, ne_eq, Option.some.injEq] at zero one
    simp [Record.holdRunsOut, hold]
    omega

theorem State.poolWithHolds_nil {s : State} (none : s.heldOut = []) (p : Pool) : s.poolWithHolds p = p := by
  simp [State.poolWithHolds, none]

theorem State.queueAfterHolds_nil {s : State} (none : s.heldOut = []) : s.queueAfterHolds = s.queue := by
  simp [State.queueAfterHolds, none]

/-- The Lease Directory after an expiry at which no hold runs out. -/
theorem State.directoryAged_nil {s : State} (none : s.heldOut = []) :
    s.directoryAged = {
      records := s.directory.records.map (fun r => r.epochAged),
      marks := marksMoved .altered ((s.directory.records.filter Record.lapsesNow).map (fun r => r.address))
        s.directory.marks,
      lapseList := s.directory.lapseList
        ++ (s.directory.records.filter (fun r => r.lapsesNow && !s.isTarget r)).map (fun r => r.address),
      pacing := [] } := by
  have all : s.directory.records.filter (fun q => !q.holdRunsOut) = s.directory.records :=
    List.filter_eq_self.mpr fun r mem => by simpa using List.filter_eq_nil_iff.mp none r mem
  simp [State.directoryAged, none, all, marksMoved]

/-- Settles O41: each block of the state is seen by two owners at most, and depends on the order of these two. -/
theorem epochExpiryAgesEveryOwnersState : Obligations.EpochExpiryAgesEveryOwnersState := by
  refine ⟨?quiet, fun s order offline => exec_epochExpiry_offline offline order, ?holds⟩
  case quiet =>
    intro s order online placed fresh runs
    have none := State.heldOut_eq_nil runs
    have beside := expire_beside order s
    have tables := placed.expire_tables fresh order
    simp only [State.tables, Prod.mk.injEq, none, State.poolWithHolds_nil none, ite_self] at tables
    obtain ⟨directory, groups, pool⟩ := tables
    have marks (b : Nat) : (s.expire order).markOf b =
        if s.directory.records.any (fun r => r.address == b && r.lapsesNow) = true
        then Mark.move .altered (s.markOf b) else s.markOf b := by
      rw [State.markOf, directory, placed.markIn_directoryAged fun r mem _ _ => by
        simpa using List.filter_eq_nil_iff.mp none r mem, none]
      rfl
    rw [State.directoryAged_nil none] at directory
    have kept : s.queueAfterHolds = s.queue := State.queueAfterHolds_nil none
    refine ⟨_, exec_epochExpiry_online online order, by rw [directory], by rw [directory], marks, by rw [directory],
      by rw [pool]; rfl, by rw [pool]; rfl, by rw [expire_newEpoch], beside.params, ?_, beside.line, beside.context,
      ?_, ?_, ?_, ?_, placed.expire_sweep_goesOn fresh order, placed.expire_sweep_ends fresh order, rfl, beside.chance,
      beside.pending⟩
    · rw [groups]
      simp [groupsWithout]
    · intro serving
      obtain ⟨queue, census, port⟩ := State.traffic_parts (placed.expire_traffic_serving fresh serving order)
      exact ⟨census, port, queue.trans kept, placed.expire_sweep_serving fresh order serving⟩
    · intro census window
      obtain ⟨queue, ended, port⟩ := State.traffic_parts (placed.expire_traffic_ends fresh census window order)
      exact ⟨ended, port, queue.trans kept⟩
    · intro census window waiting
      obtain ⟨queue, aged, port⟩ :=
        State.traffic_parts (placed.expire_traffic_claims fresh census window waiting order)
      have unchanged (q : TxQueue) : State.queueAfterHolds { s with queue := q } = q :=
        State.queueAfterHolds_nil (s := { s with queue := q }) none
      rw [unchanged, kept, ite_self] at queue
      exact ⟨aged, port, queue⟩
    · intro census window waiting
      obtain ⟨queue, aged, port⟩ :=
        State.traffic_parts (placed.expire_traffic_updates fresh census window waiting order)
      rw [kept] at queue
      exact ⟨aged, port, queue⟩
  case holds =>
    intro s order r online placed shaped fresh out
    have beside := expire_beside order s
    have tables := placed.expire_tables fresh order
    simp only [State.tables, Prod.mk.injEq] at tables
    obtain ⟨directory, groups, pool⟩ := tables
    have gone : (s.expire order).recordAt r.address = none := by
      rw [State.recordAt_eq_none, directory]
      exact placed.not_mem_directoryAged out
    have marks (b : Nat) := placed.markIn_directoryAged (b := b) fun r mem _ => shaped.apart r mem
    refine ⟨_, exec_epochExpiry_online online order, gone, by rw [directory]; rfl, by rw [directory]; rfl,
      fun b => by rw [State.markOf, directory, marks], by rw [directory]; rfl, groups, pool, ?_,
      fun census window => State.traffic_parts (placed.expire_traffic_ends fresh census window order),
      fun census window wait => State.traffic_parts (placed.expire_traffic_updates fresh census window wait order),
      fun census window wait => State.traffic_parts (placed.expire_traffic_claims fresh census window wait order),
      placed.expire_sweep_goesOn fresh order, placed.expire_sweep_ends fresh order, expire_newEpoch order s,
      beside.context, beside.params, beside.line, beside.chance, beside.pending⟩
    intro serving
    obtain ⟨queue, census, port⟩ := State.traffic_parts (placed.expire_traffic_serving fresh serving order)
    exact ⟨queue, census, port, placed.expire_sweep_serving fresh order serving⟩

end Sys2Proof.Machine
end

section
/-! Frames that admission takes as requests (R147, R148): their operands, their heard event and the line at their end. -/

namespace Sys2Proof.Machine

/-! ## The operands that a frame carries, section 12 -/

theorem natOfBytes_bytesOfHalf {n : Nat} (fits : n < 65536) : natOfBytes (bytesOfHalf n) = n := by
  simp only [natOfBytes, bytesOfHalf, byteOf, List.foldl_cons, List.foldl_nil, BitVec.toNat_ofNat]
  omega

theorem identityOfBytes_bytesOfIdentity (i : Identity) : identityOfBytes (bytesOfIdentity i) = i := by
  have spelled : natOfBytes (bytesOfIdentity i) = i.toNat := by
    have fits := i.isLt
    simp only [natOfBytes, bytesOfIdentity, byteOf, List.foldl_cons, List.foldl_nil, BitVec.toNat_ofNat]
    omega
  rw [identityOfBytes, spelled, BitVec.ofNat_toNat, BitVec.setWidth_eq]

/-! ## Admission, R148 -/

theorem State.replyRoom_iff {s : State} : s.replyRoom = true ↔ s.HasReplyRoom := by
  rw [State.replyRoom, Bool.and_eq_true, State.hasFreeEntry_iff, decide_eq_true_iff]
  rfl

theorem requestKindOf_code (k : RequestKind) : requestKindOf k.code = some k := by cases k <;> rfl

/-- A request frame that passes the checks of its kind is admitted. -/
theorem State.admission_requestFrame {s : State} {k : RequestKind} {p : BitVec 2} {a : Byte} {i : Identity}
    {payload : List Byte} (length : (requestFrame k p a i payload).lengthFits k = true)
    (source : (requestFrame k p a i payload).sourceFits k = true)
    (identity : (requestFrame k p a i payload).identityFits k = true) (room : k.needsReply = true → s.HasReplyRoom) :
    s.admission (requestFrame k p a i payload) = some k := by
  have place : (!k.needsReply || s.replyRoom) = true := by
    cases reply : k.needsReply with
    | true => exact State.replyRoom_iff.mpr (room reply)
    | false => rfl
  have directory : (requestFrame k p a i payload).destination.toNat = Config.directoryAddress := rfl
  have kind : requestKindOf (requestFrame k p a i payload).kind = some k := requestKindOf_code k
  rw [State.admission, if_pos directory, kind]
  simp only [length, source, identity, place, Bool.and_self, if_true]

/-- The place that admission sets aside for the answer, R148. -/
def State.placeSetAside (s : State) : State := s.setQueue { s.queue with setAside := s.queue.setAside + 1 }

/-- An admitted frame on its way to its owner: passed on the line, its place set aside and its heard event taken. -/
def State.deliver (k : RequestKind) (f : Frame) (s : State) : State :=
  (if k.needsReply then (s.passFrame f).placeSetAside else s.passFrame f).heard f

/-- An admitted frame is handed over and its acknowledge slot driven. -/
theorem State.receiveFrame_taken {s : State} {f : Frame} {k : RequestKind} (receives : s.Receives)
    (short : f.payload.length ≤ 24) (source : f.source.toNat ≠ 254) (admitted : s.admission f = some k) :
    s.receiveFrame f = (((s.deliver k f).handOver k f).setAcknowledged true).endFrame f f.check := by
  have fits : ¬ Config.maxPayload < f.payload.length := Nat.not_lt.mpr short
  have foreign : ¬ f.source.toNat = Config.directoryAddress := source
  have admitted' : (s.passFrame f).admission f = some k := by
    rw [State.passFrame_frame]
    exact admitted
  rw [State.receiveFrame, State.canReceive_iff.mpr receives, if_neg (by decide), if_neg fits, State.takeFrame,
    if_neg foreign, admitted']
  rfl

/-- The line at the end of an acknowledged frame, R155: where the owner left the line alone, the frame's own passing is
all that happens to it. -/
theorem State.receiveFrame_admitted {s : State} {f : Frame} {k : RequestKind} (receives : s.Receives)
    (short : f.payload.length ≤ 24) (source : f.source.toNat ≠ 254) (admitted : s.admission f = some k)
    (line : ((s.deliver k f).handOver k f).line = (s.passFrame f).line) :
    ∃ l, s.receiveFrame f = ((s.deliver k f).handOver k f).setLine l ∧ s.LineAfter f.destination.toNat true l := by
  rw [State.receiveFrame_taken receives short source admitted]
  generalize (s.deliver k f).handOver k f = u at line ⊢
  have driven : (u.setAcknowledged true).line.acknowledged = true := rfl
  rw [State.endFrame, if_pos driven, State.runsOf_eq]
  refine ⟨_, rfl, ?_⟩
  rw [State.setAcknowledged, State.setLine_line, line]
  exact s.lineAfter_passFrame f true _

/-! ## The heard event of an admitted frame, R48 -/

/-- A heard event looks at nothing that the passing of the frame changes. -/
theorem State.heard_passFrame {s : State} (placed : s.Placed) (f : Frame) :
    (s.passFrame f).heard f = (s.heardState f.source.toNat (s.params.passiveRenewal && !limitedHeard f) 0).setLine
      (s.passFrame f).line := by
  have state : (s.passFrame f).line.state = s.line.state := (s.lineAfter_passFrame f false (0, 0)).1
  have passed : s.passFrame f = s.setLine (s.passFrame f).line := s.passFrame_frame f
  have placed' : (s.passFrame f).Placed := by
    rw [passed]
    exact placed.congr rfl rfl
  rw [State.heard_eq placed']
  nth_rw 1 2 [passed]
  exact State.heardState_setLine state _ _ _

theorem State.heardState_line (s : State) (a : Nat) (renews : Bool) (beside : Nat) :
    (s.heardState a renews beside).line = s.line := by
  unfold State.heardState
  split <;> rfl

/-- An OFFERED record hears nothing, R47. -/
theorem State.heardState_offered {s : State} {a : Nat} {r : Record} (placed : s.Placed) (leased : leasable a = true)
    (found : s.recordAt a = some r) (state : r.state = .offered) (renews : Bool) : s.heardState a renews 0 = s := by
  obtain ⟨mem, -⟩ := State.mem_of_recordAt found
  have same : s.heardRecord renews r = r := by simp [State.heardRecord, state]
  rw [State.heardState_put placed leased found (by simp [state]) (by simp [state]), same, placed.putRecord_self mem]

/-- The record at the source after its heard event. -/
theorem State.recordAt_heardState {s : State} {a : Nat} (leased : leasable a = true) (renews : Bool) (beside : Nat) :
    (s.heardState a renews beside).recordAt a = (s.recordAt a).map (s.heardRecord renews) := by
  simp only [State.heardState, leased, State.recordAt, Bool.true_eq_false, if_false]
  induction s.directory.records with
  | nil => rfl
  | cons q qs ih =>
    by_cases here : q.address = a
    · simp [here]
    · simpa [here] using ih

/-- Without passive renewal a heard event leaves the record's state and its holder. -/
theorem State.heardRecord_unrenewed (s : State) (r : Record) :
    (s.heardRecord false r).state = r.state ∧ (s.heardRecord false r).identity = r.identity := by
  unfold State.heardRecord
  cases state : r.state <;> simp [state]

end Sys2Proof.Machine
end

section
/-! The JOIN, R56 to R62: what the Join Unit answers to it, and the two statements of the family "Joining the Segment"
about it. -/

namespace Sys2Proof.Machine

/-! ## Taking a JOIN, R56 to R58 -/

theorem State.refuseJoin_line (i : Identity) (q : RefusalReason) (s : State) : (s.refuseJoin i q).line = s.line := by
  cases q <;> rfl

theorem State.resendOffer_line (r : Record) (s : State) : (s.resendOffer r).line = s.line := by
  unfold State.resendOffer
  split <;> rfl

theorem State.joinKnown_line (r : Record) (requested : Nat) (s : State) :
    (s.joinKnown r requested).line = s.line := by
  have offers (o : Origin) : (if s.countIn .offered < Config.maxOffered then s.offerAgain o r requested
      else s.refuseJoin r.identity .busy).line = s.line := by
    split
    · rfl
    · exact State.refuseJoin_line ..
  unfold State.joinKnown
  split
  · exact offers _
  · exact offers _
  · exact offers _
  · exact State.resendOffer_line ..
  · exact State.refuseJoin_line ..

/-- The Join Unit leaves the line alone. -/
theorem State.takeJoin_line (i : Identity) (hint requested : Nat) (s : State) :
    (s.takeJoin i hint requested).line = s.line := by
  unfold State.takeJoin
  split
  · exact State.refuseJoin_line ..
  split
  · exact State.refuseJoin_line ..
  split
  · exact State.joinKnown_line ..
  split
  · exact State.refuseJoin_line ..
  split
  · exact State.refuseJoin_line ..
  split
  · rfl
  · exact State.refuseJoin_line ..

/-- The state in which an admitted JOIN reaches the Join Unit: the line alone has moved, and a place is set aside. -/
def State.joining (l : Line) (s : State) : State := (s.setLine l).placeSetAside

/-- The frame of a JOIN, section 12.2. -/
def joinFrame (p : BitVec 2) (i : Identity) (h : Byte) (term : Half) : Frame :=
  requestFrame .join p 0 i (h :: bytesOfHalf term.toNat)

/-- A JOIN comes from source 0 and gives no heard event, R47; its term is the two bytes sent. -/
theorem handOver_joinFrame (p : BitVec 2) (i : Identity) (h : Byte) (term : Half) (s : State) :
    (s.deliver .join (joinFrame p i h term)).handOver .join (joinFrame p i h term) =
      (s.joining (s.passFrame (joinFrame p i h term)).line).takeJoin i h.toNat term.toNat := by
  have silent : ¬ leasable (joinFrame p i h term).source.toNat = true := Bool.false_ne_true
  have spelled : (joinFrame p i h term).joinTerm = term.toNat := natOfBytes_bytesOfHalf term.isLt
  rw [State.handOver, spelled, State.deliver, State.heard, if_neg silent, State.passFrame_frame]
  rfl

/-- An admitted JOIN is taken by the Join Unit, and the line passes its frame. -/
theorem exec_join_admitted {s : State} (p : BitVec 2) {i : Identity} (h : Byte) (term : Half) (receives : s.Receives)
    (room : s.HasReplyRoom) (valid : validIdentity i = true) :
    ∃ l l', exec (.join p i h term) s = .next (((s.joining l).takeJoin i h.toNat term.toNat).setLine l')
      ∧ s.LineAfter 254 true l' := by
  have admitted : s.admission (joinFrame p i h term) = some .join :=
    State.admission_requestFrame rfl rfl valid fun _ => room
  have source : (joinFrame p i h term).source.toNat ≠ 254 := Nat.zero_ne_add_one 253
  have short : (joinFrame p i h term).payload.length ≤ 24 := show 3 ≤ 24 by decide
  obtain ⟨l', received, after⟩ := State.receiveFrame_admitted receives short source admitted
    (by rw [handOver_joinFrame, State.takeJoin_line]; rfl)
  rw [handOver_joinFrame] at received
  exact ⟨_, l', congrArg Host.Outcome.next received, after⟩

/-! ## The outcomes of a JOIN -/

theorem State.joinKnown_disputed {s : State} {r : Record} (requested : Nat) (state : r.state = .disputed) :
    s.joinKnown r requested = s.refuseJoin r.identity .disputed := by simp [State.joinKnown, state]

theorem State.joinKnown_busy {s : State} {r : Record} (requested : Nat) (disputed : r.state ≠ .disputed)
    (offered : r.state ≠ .offered) (busy : 4 ≤ s.countIn .offered) :
    s.joinKnown r requested = s.refuseJoin r.identity .busy := by
  have none : ¬ s.countIn .offered < Config.maxOffered := Nat.not_lt.mpr busy
  unfold State.joinKnown
  split
  · exact if_neg none
  · exact if_neg none
  · exact if_neg none
  · next state => exact absurd state offered
  · next state => exact absurd state disputed

/-- A JOIN is refused for the reason that the statements name, R56 and R57. -/
theorem State.takeJoin_refused {s : State} {i : Identity} {hint : Nat} {q : RefusalReason} (requested : Nat)
    (refusal : s.joinRefusal i hint = some q) : s.takeJoin i hint requested = s.refuseJoin i q := by
  unfold State.joinRefusal at refusal
  unfold State.takeJoin Config.maxRecords Config.maxOffered
  split at refusal
  · next census => rw [if_pos census, Option.some.inj refusal]
  next serving =>
  rw [if_neg serving]
  split at refusal
  · next closed => rw [if_pos closed, Option.some.inj refusal]
  next opened =>
  rw [if_neg opened]
  cases found : s.recordOf i with
  | some r =>
    simp only [found] at refusal ⊢
    obtain ⟨-, rfl⟩ := State.mem_of_recordOf found
    split at refusal
    · next disputed => rw [State.joinKnown_disputed _ disputed, Option.some.inj refusal]
    next settled =>
    split at refusal
    · next busy => rw [State.joinKnown_busy _ settled busy.1 busy.2, Option.some.inj refusal]
    · exact nomatch refusal
  | none =>
    simp only [found] at refusal ⊢
    split at refusal
    · next full => rw [if_pos full, Option.some.inj refusal]
    next room =>
    rw [if_neg room]
    split at refusal
    · next busy => rw [if_pos busy, Option.some.inj refusal]
    next slot =>
    rw [if_neg slot]
    split at refusal
    · next empty => rw [empty, Option.some.inj refusal]
    · exact nomatch refusal

/-- A JOIN REFUSED takes the place set aside, and POOL is raised for FULL and POOL_EMPTY, R58. -/
theorem State.refuseJoin_joining (l : Line) (i : Identity) (q : RefusalReason) (s : State) :
    (s.joining l).refuseJoin i q = { s with
      queue := s.joinAnswered (joinRefusedFrame i q)
      port := if q = .full ∨ q = .poolEmpty then s.port.withCause .pool else s.port
      line := l } := by
  cases q <;> rfl

/-- Settles O18: the examination stops at the first condition that holds. -/
theorem joinIsRefusedForTheFirstReasonThatHolds : Obligations.JoinIsRefusedForTheFirstReasonThatHolds := by
  intro s p i h term q receives room valid refusal
  obtain ⟨l, l', taken, after⟩ := exec_join_admitted p h term receives room valid
  have refused : (s.joining l).joinRefusal i h.toNat = some q := refusal
  rw [taken, State.takeJoin_refused _ refused, State.refuseJoin_joining]
  exact ⟨_, rfl, rfl, rfl, rfl, after⟩

/-- A JOIN in SERVING with the gate OPEN from the recorded identity of a record, R57. -/
theorem State.takeJoin_known {s : State} {i : Identity} {r : Record} (hint requested : Nat)
    (serving : s.census.mode = .serving) (opened : s.params.joinGate = .opened) (found : s.recordOf i = some r) :
    s.takeJoin i hint requested = s.joinKnown r requested := by
  simp [State.takeJoin, serving, opened, found]

/-- A JOIN in SERVING with the gate OPEN from an identity with no record, R58. -/
theorem State.takeJoin_new {s : State} {i : Identity} {hint a : Nat} (requested : Nat)
    (serving : s.census.mode = .serving) (opened : s.params.joinGate = .opened) (new : s.recordOf i = none)
    (room : s.directory.records.length < 192) (slot : s.countIn .offered < 4)
    (chosen : s.chooseAddress hint i = some a) : s.takeJoin i hint requested = s.offerNew i a requested := by
  have notFull : ¬ Config.maxRecords ≤ s.directory.records.length := Nat.not_le.mpr room
  have notBusy : ¬ Config.maxOffered ≤ s.countIn .offered := Nat.not_le.mpr slot
  simp [State.takeJoin, serving, opened, new, notFull, notBusy, chosen]

/-- The origin of an offer at a record's own address, R57. -/
theorem State.joinKnown_offers {s : State} {r : Record} (requested : Nat)
    (state : r.state = .reserved ∨ r.state = .bound ∨ r.state = .lapsed) (slot : s.countIn .offered < 4) :
    s.joinKnown r requested = s.offerAgain (if r.state = .reserved then .reserved else .rebind) r requested := by
  have free : s.countIn .offered < Config.maxOffered := slot
  rcases state with state | state | state <;> simp [State.joinKnown, state, free]

theorem State.joinKnown_resends {s : State} {r : Record} {o : OfferContext} (requested : Nat)
    (state : r.state = .offered) (offer : r.offer = some o) :
    s.joinKnown r requested =
      (s.putRecord { r with offer := some { o with wait := s.params.offerWait } }).queueOffer r o.term := by
  simp [State.joinKnown, State.resendOffer, state, offer]

/-- A record inserted at an address that holds none is the one found there. -/
theorem find_insertRecord {r : Record} {rs : List Record} (apart : ∀ q ∈ rs, q.address ≠ r.address) :
    (insertRecord r rs).find? (fun q => q.address == r.address) = some r := by
  induction rs with
  | nil => simp [insertRecord]
  | cons q qs ih =>
    obtain ⟨first, rest⟩ := List.forall_mem_cons.mp apart
    unfold insertRecord
    split
    · simp
    · simpa [first] using ih rest

/-- The addresses from which the pool chooses hold no record, R24 and R30. -/
theorem State.Placed.chooseAddress_fresh {s : State} {hint a : Nat} {i : Identity} (h : s.Placed)
    (chosen : s.chooseAddress hint i = some a) : a ∉ s.addresses ∧ leasable a = true := by
  have inPool : a ∈ s.pool.addresses := by
    rcases chooseAddress_mem chosen with free | ⟨q, mem, address⟩
    · exact List.mem_append_left _ free
    · exact List.mem_append_right _ (List.mem_map.mpr ⟨q, mem, address⟩)
  exact ⟨List.disjoint_of_nodup_append h.nodup inPool, (h.mem_iff a).mp (.inl inPool)⟩

theorem State.quarantinedFor_iff {s : State} {h : Nat} {i : Identity} :
    s.pool.quarantine.any (fun q => q.address == h && q.lastIdentity == i) = true
      ↔ ∃ q ∈ s.pool.quarantine, q.address = h ∧ q.lastIdentity = i := by simp

/-- One address's mark set leaves the marks of the others. -/
theorem State.markOnly_setMark {s t : State} {a : Nat} {m : Mark}
    (marks : t.directory.marks = setMark a m s.directory.marks) : s.MarkOnly t a m := by
  refine ⟨?_, ?_⟩
  · rw [State.markOf, marks, markIn_setMark, if_pos rfl]
  · rw [otherMarks, marks, filter_setMark]
    rfl

/-- Settles O17, by the examination's outcomes: the record created, the record offered again, the offer sent again, and
the pool's choice. -/
theorem joinOffersTheChosenOrItsOwnAddress : Obligations.JoinOffersTheChosenOrItsOwnAddress := by
  refine ⟨?new, ?again, ?resent, ?choice⟩
  case new =>
    intro s p i h term a receives room valid serving opened placed new records slot chosen
    obtain ⟨l, l', taken, after⟩ := exec_join_admitted p h term receives room valid
    obtain ⟨fresh, -⟩ := placed.chooseAddress_fresh chosen
    have apart : ∀ q ∈ s.directory.records, q.address ≠ a :=
      State.recordAt_eq_none.mp (State.recordAt_eq_none_iff.mpr fresh)
    have offered := State.takeJoin_new (s := s.joining l) term.toNat serving opened new records slot chosen
    rw [taken, offered]
    exact ⟨_, rfl, ⟨find_insertRecord apart, removeRecord_insertRecord _ _ apart, rfl, rfl,
      State.markOnly_setMark rfl⟩, rfl, rfl, rfl, after⟩
  case again =>
    intro s p i h term r receives room valid serving opened _ found state slot
    obtain ⟨l, l', taken, after⟩ := exec_join_admitted p h term receives room valid
    obtain ⟨-, rfl⟩ := State.mem_of_recordOf found
    have offered := State.takeJoin_known (s := s.joining l) h.toNat term.toNat serving opened found
    rw [taken, offered, State.joinKnown_offers (s := s.joining l) _ state slot]
    exact ⟨_, rfl, State.alters_of_directory rfl, rfl, rfl, after⟩
  case resent =>
    intro s p i h term r o receives room valid serving opened _ found state offer
    obtain ⟨l, l', taken, after⟩ := exec_join_admitted p h term receives room valid
    obtain ⟨-, rfl⟩ := State.mem_of_recordOf found
    have offered := State.takeJoin_known (s := s.joining l) h.toNat term.toNat serving opened found
    rw [taken, offered, State.joinKnown_resends _ state offer]
    exact ⟨_, rfl, rfl, rfl, rfl, after⟩
  case choice =>
    intro s i h placed
    refine ⟨fun free => ?_, fun held => ?_, fun taken other => ?_, fun a chosen => placed.chooseAddress_fresh chosen⟩
    · rw [State.chooseAddress, if_pos (List.contains_iff_mem.mpr free)]
    · rw [State.chooseAddress, if_pos (State.quarantinedFor_iff.mpr held), ite_self]
    · rw [State.chooseAddress, if_neg (mt List.contains_iff_mem.mp taken),
        if_neg (mt State.quarantinedFor_iff.mp other)]

end Sys2Proof.Machine
end

section
/-! The expiry of an offer by its origin, R66. -/

namespace Sys2Proof.Machine

theorem exec_offerWaitExpiry {s : State} {a : Byte} {r : Record} {o : OfferContext}
    (found : s.recordAt a.toNat = some r) (state : r.state = .offered) (offer : r.offer = some o) :
    exec (.offerWaitExpiry a) s = .next (s.expireOffer r o) := by
  change execOfferWaitExpiry a s = _
  simp only [execOfferWaitExpiry, found, offer, state, if_true]

theorem expireOffer_new {r : Record} {o : OfferContext} (s : State) (origin : o.origin = .new) :
    s.expireOffer r o = s.endRecord .freeHead r := by rw [State.expireOffer, origin]

theorem expireOffer_reserved {r : Record} {o : OfferContext} (s : State) (origin : o.origin = .reserved) :
    s.expireOffer r o =
      (s.putRecord { r with state := .reserved, term := 0, attempts := 0, offer := none }).note .altered r.address := by
  rw [State.expireOffer, origin]

theorem expireOffer_lapses {r : Record} {o : OfferContext} (s : State) (origin : o.origin = .rebind)
    (pinned : r.pinned = false) : s.expireOffer r o = s.lapseRecord r := by
  simp [State.expireOffer, origin, pinned]

theorem expireOffer_binds {r : Record} {o : OfferContext} (s : State) (origin : o.origin = .rebind)
    (pinned : r.pinned = true) : s.expireOffer r o = s.bindRecord (s.refreshed r) := by
  simp [State.expireOffer, origin, pinned]

/-- Settles O20, by the origin of the offer, and for REBIND by the pinned flag. -/
theorem offerExpiryFollowsItsOrigin : Obligations.OfferExpiryFollowsItsOrigin := by
  refine ⟨?new, ?reserved, ?lapses, ?binds⟩
  case new =>
    intro s a r o found state offer origin
    obtain ⟨-, address⟩ := State.mem_of_recordAt found
    rw [exec_offerWaitExpiry found state offer, expireOffer_new s origin, State.endRecord_eq, ← address]
    exact ⟨_, rfl, ⟨rfl, State.markOnly_setMark rfl, rfl, rfl⟩, rfl⟩
  case reserved =>
    intro s a r o placed listed found state offer origin
    obtain ⟨mem, -⟩ := State.mem_of_recordAt found
    rw [exec_offerWaitExpiry found state offer, expireOffer_reserved s origin]
    refine ⟨_, rfl, State.alters_of_directory ?_, rfl⟩
    dsimp only
    rw [listed.filter_eq placed mem (by simp [state])]
    rfl
  case lapses =>
    intro s a r o placed listed found state offer origin pinned
    obtain ⟨-, address⟩ := State.mem_of_recordAt found
    rw [exec_offerWaitExpiry found state offer, expireOffer_lapses s origin pinned, State.lapseRecord_eq, ← address]
    exact ⟨_, rfl, rfl, rfl, rfl, State.markOnly_setMark rfl, rfl⟩
  case binds =>
    intro s a r o placed found state offer origin pinned
    rw [exec_offerWaitExpiry found state offer, expireOffer_binds s origin pinned]
    exact ⟨_, rfl, State.alters_of_directory rfl, rfl⟩

end Sys2Proof.Machine
end

section
/-! The ACCEPT, R63 to R65: an offer completed with the disputes it ends, or a targeted REVOKE. -/

namespace Sys2Proof.Machine

/-! ## Records that become BOUND outside the lapse list -/

theorem State.bindRecord_unlisted {s : State} {r : Record} (unlisted : r.address ∉ s.directory.lapseList) :
    s.bindRecord r = s.setDirectory { s.directory with
      records := replaceRecord r.bound s.directory.records
      marks := setMark r.address (Mark.move .altered (s.markOf r.address)) s.directory.marks } := by
  have kept : s.directory.lapseList.filter (fun b => b != r.address) = s.directory.lapseList :=
    List.filter_eq_self.mpr fun b listed => by simpa using fun e : b = r.address => unlisted (e ▸ listed)
  rw [State.bindRecord_eq, kept]
  rfl

/-- Disputes ended one after another, R64. -/
theorem foldl_endDispute (l : List Record) {s : State} (unlisted : ∀ r ∈ l, r.address ∉ s.directory.lapseList) :
    l.foldl (fun u r => u.endDispute r) s = s.setDirectory { s.directory with
      records := l.foldl (fun rs r => replaceRecord (r.boundWith (s.grantedOf r) 0) rs) s.directory.records
      marks := marksMoved .altered (l.map (fun r => r.address)) s.directory.marks } := by
  induction l generalizing s with
  | nil => rfl
  | cons r l ih =>
    obtain ⟨first, rest⟩ := List.forall_mem_cons.mp unlisted
    have ended : s.endDispute r = s.setDirectory { s.directory with
        records := replaceRecord (r.boundWith (s.grantedOf r) 0) s.directory.records
        marks := setMark r.address (Mark.move .altered (s.markOf r.address)) s.directory.marks } :=
      State.bindRecord_unlisted first
    rw [List.foldl_cons, ended]
    exact ih rest

theorem foldl_endDispute_line (l : List Record) (s : State) : (l.foldl (fun u r => u.endDispute r) s).line = s.line := by
  induction l generalizing s with
  | nil => rfl
  | cons r l ih => exact ih _

/-- A record put where neither it nor the one before it is picked out leaves those picked out. -/
theorem State.Placed.filter_replaceRecord {s : State} {r q : Record} {p : Record → Bool} (h : s.Placed)
    (mem : r ∈ s.directory.records) (address : q.address = r.address) (before : p r = false) (after : p q = false) :
    (replaceRecord q s.directory.records).filter p = s.directory.records.filter p := by
  obtain ⟨A, B, split, apart⟩ := h.split mem
  rw [split, replaceRecord_split address apart]
  simp [before, after]

/-! ## A matching ACCEPT, R63 and R64 -/

/-- The record at an address, and those disputed by a rival, have become BOUND. -/
def State.acceptedBy (s : State) (r : Record) (term : Nat) (i : Identity) (q : Record) : Record :=
  if q.address = r.address then r.boundWith term 0
  else if q.state = .disputed ∧ q.rival = some i then q.boundWith (s.grantedOf q) 0 else q

theorem State.mem_disputesOf {s : State} {i : Identity} {q : Record} :
    q ∈ s.disputesOf i ↔ q ∈ s.directory.records ∧ q.state = .disputed ∧ q.rival = some i := by
  simp [State.disputesOf]

/-- The completion of an offer and of the disputes that it ends, as one change of the records and the marks: none of
the records stands in the lapse list. -/
theorem State.Placed.completeOffer_resolveRival {s : State} {r : Record} (h : s.Placed) (listed : s.LapseListed)
    (mem : r ∈ s.directory.records) (state : r.state = .offered) (term : Nat) (i : Identity) :
    (s.completeOffer r term).resolveRival i = s.setDirectory { s.directory with
      records := s.directory.records.map (s.acceptedBy r term i)
      marks := marksMoved .altered (r.address :: (s.disputesOf i).map (fun q => q.address)) s.directory.marks } := by
  have unlisted {q : Record} (hq : q ∈ s.directory.records) (live : q.state ≠ .lapsed) :
      q.address ∉ s.directory.lapseList := listed.not_mem h hq fun aw => live (State.awaitsProbe_iff.mp aw).1
  have offeredUnlisted : r.address ∉ s.directory.lapseList := unlisted mem (by simp [state])
  have completed : s.completeOffer r term = s.setDirectory { s.directory with
      records := replaceRecord (r.boundWith term 0) s.directory.records
      marks := setMark r.address (Mark.move .altered (s.markOf r.address)) s.directory.marks } :=
    State.bindRecord_unlisted offeredUnlisted
  have disputes : (s.completeOffer r term).disputesOf i = s.disputesOf i := by
    rw [completed]
    exact h.filter_replaceRecord mem rfl (by simp [state]) rfl
  have records : (s.disputesOf i).foldl (fun rs q => replaceRecord (q.boundWith (s.grantedOf q) 0) rs)
      (replaceRecord (r.boundWith term 0) s.directory.records) = s.directory.records.map (s.acceptedBy r term i) := by
    refine (foldl_replaceRecord_filter (f := fun q => q.boundWith (s.grantedOf q) 0)
      (g := fun q => if q.address = r.address then r.boundWith term 0 else q) _ h.sorted (fun _ => rfl) ?_).trans ?_
    · intro q
      split
      · next here => exact here.symm
      · rfl
    · refine List.map_congr_left fun q hq => ?_
      by_cases here : q.address = r.address
      · obtain rfl := h.eq_of_address hq mem here
        simp [State.acceptedBy, state]
      · simp [State.acceptedBy, here]
  rw [State.resolveRival, disputes, completed, foldl_endDispute]
  · change s.setDirectory { s.directory with
      records := (s.disputesOf i).foldl (fun rs q => replaceRecord (q.boundWith (s.grantedOf q) 0) rs)
        (replaceRecord (r.boundWith term 0) s.directory.records)
      marks := _ } = _
    rw [records]
    rfl
  · intro q hq
    obtain ⟨member, disputed, -⟩ := State.mem_disputesOf.mp hq
    exact unlisted member (by simp [disputed])

/-- The marks that move are those of the record at the address and of the disputes that end, each once. -/
theorem State.Placed.markIn_accepted {s : State} {r : Record} (h : s.Placed) (mem : r ∈ s.directory.records)
    (state : r.state = .offered) (i : Identity) (b : Nat) :
    markIn (marksMoved .altered (r.address :: (s.disputesOf i).map (fun q => q.address)) s.directory.marks) b =
      if b = r.address ∨ s.directory.records.any
          (fun q => q.address == b && q.state == .disputed && q.rival == some i) = true
      then Mark.move .altered (s.markOf b) else s.markOf b := by
  have fresh : r.address ∉ (s.disputesOf i).map (fun q => q.address) := fun ended => by
    obtain ⟨q, hq, address⟩ := List.mem_map.mp ended
    obtain ⟨member, disputed, -⟩ := State.mem_disputesOf.mp hq
    obtain rfl := h.eq_of_address member mem address
    simp [state] at disputed
  have moved : b ∈ r.address :: (s.disputesOf i).map (fun q => q.address) ↔ b = r.address ∨ s.directory.records.any
      (fun q => q.address == b && q.state == .disputed && q.rival == some i) = true := by
    simp only [List.mem_cons, List.mem_map, State.mem_disputesOf, List.any_eq_true, Bool.and_eq_true, beq_iff_eq]
    refine or_congr_right (exists_congr fun q => ?_)
    tauto
  rw [markIn_marksMoved (List.nodup_cons.mpr ⟨fresh, h.nodup_filter _⟩)]
  simp only [moved]
  rfl

/-! ## Taking an ACCEPT -/

theorem State.takeAccept_matches {s : State} {a : Nat} {r : Record} {o : OfferContext} (found : s.recordAt a = some r)
    (state : r.state = .offered) (offer : r.offer = some o) :
    s.takeAccept a r.identity = (s.completeOffer r o.term).resolveRival r.identity := by
  simp [State.takeAccept, found, state, offer]

theorem State.takeAccept_revokes {s : State} {a : Nat} {i : Identity}
    (other : ∀ r, s.recordAt a = some r → r.state = .offered → r.identity ≠ i) :
    s.takeAccept a i = s.claimOrDrop .joinUnit (targetedRevoke a i) := by
  unfold State.takeAccept
  split
  · next r found =>
    split
    · exact if_neg fun ⟨state, identity⟩ => other r found state identity
    · rfl
  · rfl

theorem State.takeAccept_line (a : Nat) (i : Identity) (s : State) : (s.takeAccept a i).line = s.line := by
  have revoked : (s.claimOrDrop .joinUnit (targetedRevoke a i)).line = s.line := by rw [State.claimOrDrop_eq]
  unfold State.takeAccept
  split
  · split
    · split
      · exact foldl_endDispute_line _ _
      · exact revoked
    · exact revoked
  · exact revoked

/-- The frame of an ACCEPT, section 12.2. -/
def acceptFrame (p : BitVec 2) (a : Byte) (i : Identity) : Frame :=
  requestFrame .accept p a 0 (bytesOfIdentity i)

/-- An ACCEPT carries an identity, so that no passive renewal acts at its heard event, R48. -/
theorem handOver_acceptFrame {s : State} (placed : s.Placed) (p : BitVec 2) (a : Byte) (i : Identity) :
    (s.deliver .accept (acceptFrame p a i)).handOver .accept (acceptFrame p a i) =
      ((s.heardState a.toNat false 0).setLine (s.passFrame (acceptFrame p a i)).line).takeAccept a.toNat i := by
  have limited : limitedHeard (acceptFrame p a i) = true := (limitedHeard_iff _).mpr ⟨rfl, List.mem_cons_self⟩
  have heard := State.heard_passFrame placed (acceptFrame p a i)
  have carried : (acceptFrame p a i).payloadIdentity = i := identityOfBytes_bytesOfIdentity i
  rw [limited, Bool.not_true, Bool.and_false] at heard
  rw [State.handOver, carried]
  exact congrArg (State.takeAccept a.toNat i) heard

/-- An admitted ACCEPT is taken by the Join Unit after its heard event, and the line passes its frame. -/
theorem exec_accept_admitted {s : State} (p : BitVec 2) {a : Byte} {i : Identity} (receives : s.Receives)
    (placed : s.Placed) (leased : leasable a.toNat = true) (valid : validIdentity i = true) :
    ∃ l l', exec (.accept p a i) s =
        .next ((((s.heardState a.toNat false 0).setLine l).takeAccept a.toNat i).setLine l')
      ∧ l.state = s.line.state ∧ s.LineAfter 254 true l' := by
  have carried : (acceptFrame p a i).payloadIdentity = i := identityOfBytes_bytesOfIdentity i
  have identity : validIdentity (acceptFrame p a i).payloadIdentity = true := by rw [carried, valid]
  have admitted : s.admission (acceptFrame p a i) = some .accept :=
    State.admission_requestFrame rfl leased identity fun reply => nomatch reply
  have source : (acceptFrame p a i).source.toNat ≠ 254 := fun directory => by
    have same : a.toNat = 254 := directory
    simp [same, leasable, Config.lastLeasable] at leased
  have short : (acceptFrame p a i).payload.length ≤ 24 := show 6 ≤ 24 by decide
  obtain ⟨l', received, after⟩ := State.receiveFrame_admitted receives short source admitted
    (by rw [handOver_acceptFrame placed, State.takeAccept_line]; rfl)
  rw [handOver_acceptFrame placed] at received
  exact ⟨_, l', congrArg Host.Outcome.next received, (s.lineAfter_passFrame _ false (0, 0)).1, after⟩

/-- Settles O19: a matching ACCEPT finds its OFFERED record as it was, and any other finds no offer of its own after the
heard event either. -/
theorem acceptBindsItsOfferOrEarnsARevoke : Obligations.AcceptBindsItsOfferOrEarnsARevoke := by
  refine ⟨?binds, ?revokes⟩
  case binds =>
    rintro s p a i r o receives placed listed leased valid found state rfl offer
    obtain ⟨mem, address⟩ := State.mem_of_recordAt found
    obtain ⟨l, l', taken, -, after⟩ := exec_accept_admitted p receives placed leased valid
    have placed' : (s.setLine l).Placed := placed.congr rfl rfl
    have listed' : (s.setLine l).LapseListed := listed.congr rfl rfl rfl
    have found' : (s.setLine l).recordAt a.toNat = some r := found
    rw [taken, State.heardState_offered placed leased found state, State.takeAccept_matches found' state offer,
      placed'.completeOffer_resolveRival listed' mem state, ← address]
    exact ⟨_, rfl, rfl, rfl, rfl, placed.markIn_accepted mem state r.identity, rfl, after⟩
  case revokes =>
    rintro s p a i _ receives leased valid unmatched placed rfl
    obtain ⟨l, l', taken, online, after⟩ := exec_accept_admitted p receives placed leased valid
    have other (r : Record) (found : ((s.heardState a.toNat false 0).setLine l).recordAt a.toNat = some r)
        (state : r.state = .offered) : r.identity ≠ i := by
      have heard : (s.recordAt a.toNat).map (s.heardRecord false) = some r :=
        (State.recordAt_heardState leased false 0).symm.trans found
      obtain ⟨q, before, rfl⟩ := Option.map_eq_some_iff.mp heard
      obtain ⟨kept, holder⟩ := s.heardRecord_unrenewed q
      rw [kept] at state
      simpa [before, state, holder] using unmatched
    have claimed : ((s.heardState a.toNat false 0).setLine l).claimed .joinUnit (targetedRevoke a.toNat i) 0 =
        (s.heardState a.toNat false 0).claimed .joinUnit (targetedRevoke a.toNat i) 0 := by
      simp only [State.claimed, State.setLine_line, State.heardState_line, online]
      rfl
    rw [taken, State.takeAccept_revokes other, State.claimOrDrop_eq, claimed]
    exact ⟨_, rfl, rfl, after⟩

end Sys2Proof.Machine
end

section
/-! Requests of a module at an address (R147, R148): the place set aside first, then the heard event at the record
there, and the owner's answer last. -/

namespace Sys2Proof.Machine

/-! ## The line is left to the frame -/

/-- A heard event leaves the line alone. -/
theorem State.heard_line (f : Frame) (s : State) : (s.heard f).line = s.line := by
  have stray (a : Nat) : (s.handleStray a).line = s.line := by
    unfold State.handleStray
    split <;> rfl
  unfold State.heard State.heardFrom
  split
  · split
    · exact stray _
    · dsimp only
      split
      · exact stray _
      · rfl
      · rfl
      · rfl
      · split <;> rfl
  · rfl

theorem State.raiseDispute_line (r : Record) (rival : Option Identity) (s : State) :
    (s.raiseDispute r rival).line = s.line := by
  unfold State.raiseDispute
  split
  · rfl
  · rw [State.revokeDisputed_fields]
    rfl

theorem State.fillRival_line (r : Record) (i : Identity) (s : State) : (s.fillRival r i).line = s.line := by
  unfold State.fillRival
  split <;> rfl

theorem State.takeEvidence_line (r : Record) (i : Identity) (s : State) : (s.takeEvidence r i).line = s.line := by
  unfold State.takeEvidence
  split
  · exact State.fillRival_line ..
  · split
    · rfl
    · exact State.raiseDispute_line ..

/-! ## An admitted request -/

/-- The Directory's own address is no module's. -/
theorem ne_directory_of_sender {a : Nat} (sender : leasable a = true ∨ fixedAddress a = true) : a ≠ 254 := by
  rintro rfl
  exact absurd sender (by decide)

/-- An admitted request is taken by its owner after its heard event, and that after its place is set aside; an owner
that leaves the line alone leaves it to the frame. -/
theorem State.receiveFrame_request {s : State} {k : RequestKind} {p : BitVec 2} {a : Byte} {payload : List Byte}
    {owner : State → State} (receives : s.Receives) (sender : leasable a.toNat = true ∨ fixedAddress a.toNat = true)
    (short : payload.length ≤ 24) (admitted : s.admission (requestFrame k p a 0 payload) = some k)
    (takes : ∀ u : State, u.handOver k (requestFrame k p a 0 payload) = owner u)
    (line : ∀ u : State, (owner u).line = u.line) :
    ∃ l l', s.receiveFrame (requestFrame k p a 0 payload) =
        (owner ((if k.needsReply then s.joining l else s.setLine l).heard (requestFrame k p a 0 payload))).setLine l'
      ∧ l.state = s.line.state ∧ s.LineAfter 254 true l' := by
  generalize hf : requestFrame k p a 0 payload = f at admitted takes ⊢
  have fits : f.payload.length ≤ 24 := hf ▸ short
  have source : f.source.toNat ≠ 254 := hf ▸ ne_directory_of_sender sender
  have directory : f.destination.toNat = 254 := hf ▸ rfl
  have delivered : s.deliver k f =
      (if k.needsReply then s.joining (s.passFrame f).line else s.setLine (s.passFrame f).line).heard f := by
    rw [State.deliver, State.passFrame_frame]
    rfl
  have passed : ((s.deliver k f).handOver k f).line = (s.passFrame f).line := by
    rw [takes, line, State.deliver, State.heard_line]
    split <;> rfl
  obtain ⟨l', received, after⟩ := State.receiveFrame_admitted receives fits source admitted passed
  rw [takes, delivered] at received
  rw [directory] at after
  exact ⟨_, l', received, (s.lineAfter_passFrame f false (0, 0)).1, after⟩

/-- The reply takes the place set aside for it, R72. -/
theorem State.queueReply_joining (l : Line) (f : Frame) (s : State) :
    (s.joining l).queueReply .reply f = { s with queue := s.replied f, line := l } := rfl

/-! ## The heard event -/

/-- A request that carries an identity is heard without passive renewal, R48. -/
theorem limitedHeard_requestFrame (k : RequestKind) (p : BitVec 2) (a : Byte) (i : Identity) (payload : List Byte) :
    limitedHeard (requestFrame k p a i payload) = k.carriesIdentity := by
  have kind : requestKindOf (requestFrame k p a i payload).kind = some k := requestKindOf_code k
  rw [limitedHeard, kind]
  rfl

theorem State.heard_requestFrame (k : RequestKind) (p : BitVec 2) {a : Byte} (i : Identity) (payload : List Byte)
    (s : State) (leased : leasable a.toNat = true) :
    s.heard (requestFrame k p a i payload) = s.heardFrom a.toNat k.carriesIdentity := by
  have source : leasable (requestFrame k p a i payload).source.toNat = true := leased
  rw [State.heard, if_pos source, limitedHeard_requestFrame]
  rfl

/-- The place set aside for the answer is not the stray REVOKE's, R148. -/
theorem State.heardState_joining {s : State} {l : Line} (state : l.state = s.line.state) (a : Nat) (renews : Bool) :
    (s.joining l).heardState a renews 0 = (s.heardState a renews 1).joining l := by
  have revoked : (s.joining l).strayRevoked a 0 = s.strayRevoked a 1 := by
    simp only [State.strayRevoked, State.joining, State.placeSetAside, State.setQueue_line, State.setLine_line, state]
    rfl
  unfold State.heardState
  rw [revoked]
  split
  · rfl
  · cases s.strayRevoked a 1 <;> rfl

/-- The heard event of a frame that carries an identity, with a place set aside for its answer and with none, R48. -/
theorem State.heardFrom_joining {s : State} {l : Line} {a : Nat} (placed : s.Placed) (state : l.state = s.line.state)
    (leased : leasable a = true) : (s.joining l).heardFrom a true = (s.heardState a false 1).joining l := by
  have placed' : (s.joining l).Placed := placed.congr rfl rfl
  rw [State.heardFrom_eq placed' leased, Bool.not_true, Bool.and_false, State.heardState_joining state]

theorem State.heardFrom_setLine {s : State} {l : Line} {a : Nat} (placed : s.Placed) (state : l.state = s.line.state)
    (leased : leasable a = true) : (s.setLine l).heardFrom a true = (s.heardState a false 0).setLine l := by
  have placed' : (s.setLine l).Placed := placed.congr rfl rfl
  rw [State.heardFrom_eq placed' leased, Bool.not_true, Bool.and_false, State.heardState_setLine state]

/-- The dispute's claim leaves the place set aside for the answer, R72 and R110. -/
theorem State.claimed_joining {s : State} {l : Line} (state : l.state = s.line.state) (o : Originator) (f : Frame) :
    (s.joining l).claimed o f 0 =
      { s.queue with entries := (s.claimed o f 1).entries, setAside := s.queue.setAside + 1 } := by
  have room : (s.joining l).line.state = s.line.state := state
  unfold State.claimed
  rw [room]
  change (if s.line.state ≠ .disabled ∧ s.queue.entries.length + s.queue.setAside + 1 < 8 then _ else _) = _
  split <;> rfl

/-- A frame that carries an identity resets the quiet count of a record that is BOUND, LAPSED or DISPUTED, R47 and
R48. -/
theorem State.heardFrom_limited {s : State} {a : Nat} {r : Record} (found : s.recordAt a = some r)
    (live : r.state = .bound ∨ r.state = .lapsed ∨ r.state = .disputed) :
    s.heardFrom a true = s.putRecord { r with quiet := 0 } := by
  rcases live with state | state | state <;> simp [State.heardFrom, found, state]

/-- The record so heard is the one at its address. -/
theorem State.recordAt_putQuiet {s : State} {a : Nat} {r : Record} (found : s.recordAt a = some r) :
    (s.putRecord { r with quiet := 0 }).recordAt a = some { r with quiet := 0 } := by
  obtain ⟨-, rfl⟩ := State.mem_of_recordAt found
  exact State.recordAt_putRecord (r := { r with quiet := 0 }) found

/-- A record written twice keeps what was written last. -/
theorem State.putRecord_putRecord {r q : Record} (address : q.address = r.address) (s : State) :
    (s.putRecord q).putRecord r = s.putRecord r := by
  simp only [State.putRecord_eq, replaceRecord_replaceRecord r q _ address]

theorem State.putRecord_bindRecord {r q : Record} (address : q.address = r.address) (s : State) :
    (s.putRecord q).bindRecord r = s.bindRecord r :=
  congrArg (fun u : State => (u.dropLapse r.address).note .altered r.address)
    (State.putRecord_putRecord (r := r.bound) address s)

theorem State.putRecord_enterDisputed {r q : Record} (address : q.address = r.address) (rival : Option Identity)
    (s : State) : (s.putRecord q).enterDisputed r rival = s.enterDisputed r rival :=
  congrArg (fun u : State => (u.dropLapse r.address).note .altered r.address)
    (State.putRecord_putRecord (r := s.disputedRecord r rival) address s)

/-- Without passive renewal a heard event moves the quiet count alone. -/
theorem State.heardRecord_quiet_only (s : State) (r : Record) : ∃ n, s.heardRecord false r = { r with quiet := n } := by
  unfold State.heardRecord
  split <;> exact ⟨_, rfl⟩

/-- What is said of the record at the source, its quiet count apart, is so before such a heard event and after it. -/
theorem State.view_recordAt_heardState {α : Type} {s : State} {a : Nat} (view : Option Record → α)
    (leased : leasable a = true) (beside : Nat)
    (unmoved : ∀ (r : Record) (n : Nat), view (some { r with quiet := n }) = view (some r)) :
    view ((s.heardState a false beside).recordAt a) = view (s.recordAt a) := by
  rw [State.recordAt_heardState leased]
  cases s.recordAt a with
  | none => rfl
  | some r =>
    obtain ⟨n, quiet⟩ := s.heardRecord_quiet_only r
    rw [Option.map_some, quiet, unmoved]

end Sys2Proof.Machine
end

section
/-! RENEW, R73 to R75: the term granted to the recorded identity, and the answers without a grant. -/

namespace Sys2Proof.Machine

/-! ## Taking a RENEW, R73 -/

/-- The Lease Directory leaves the line alone. -/
theorem State.takeRenew_line (a : Nat) (i : Identity) (requested : Nat) (s : State) :
    (s.takeRenew a i requested).line = s.line := by
  have evidence (r : Record) : ((s.takeEvidence r i).queueReply .reply (renewReply a .disputed 0)).line = s.line :=
    State.takeEvidence_line r i s
  unfold State.takeRenew
  split
  · rfl
  split
  · rfl
  · rfl
  · exact evidence _
  all_goals
    split
    · simp only [State.grantRenew]
      split <;> rfl
    · exact evidence _

theorem State.takeRenew_granted {s : State} {a : Nat} {r : Record} (requested : Nat) (found : s.recordAt a = some r)
    (state : r.state = .bound ∨ r.state = .lapsed) :
    s.takeRenew a r.identity requested =
      (s.grantRenew r requested).queueReply .reply (renewReply a .ok (s.grantTerm requested)) := by
  rcases state with state | state <;> simp [State.takeRenew, found, state]

theorem State.takeRenew_disputes {s : State} {a : Nat} {i : Identity} {r : Record} (requested : Nat)
    (found : s.recordAt a = some r) (state : r.state = .bound ∨ r.state = .lapsed) (other : r.identity ≠ i) :
    s.takeRenew a i requested = (s.raiseDispute r (some i)).queueReply .reply (renewReply a .disputed 0) := by
  rcases state with state | state <;> simp [State.takeRenew, State.takeEvidence, found, state, other]

theorem State.takeRenew_disputed {s : State} {a : Nat} {r : Record} (i : Identity) (requested : Nat)
    (found : s.recordAt a = some r) (state : r.state = .disputed) :
    s.takeRenew a i requested = (s.fillRival r i).queueReply .reply (renewReply a .disputed 0) := by
  simp [State.takeRenew, State.takeEvidence, found, state]

/-- Evidence with the identity adds nothing to the record, R106: it is DISPUTED, and the identity is the recorded one or
the rival field is taken. -/
def Record.settledFor (i : Identity) (r : Record) : Bool :=
  r.state == .disputed && (r.identity == i || r.rival.isSome)

/-- A RENEW without a grant and without new evidence is answered, and that is all. -/
theorem State.takeRenew_answered {s : State} {a : Nat} {i : Identity} (requested : Nat)
    (ungranted : s.renewOutcome a i ≠ .ok)
    (settled : s.renewOutcome a i ≠ .disputed ∨ (s.recordAt a).any (Record.settledFor i) = true) :
    s.takeRenew a i requested = s.queueReply .reply (renewReply a (s.renewOutcome a i) 0) := by
  cases found : s.recordAt a with
  | none => simp [State.takeRenew, State.renewOutcome, found]
  | some r =>
    cases state : r.state with
    | reserved | offered => simp [State.takeRenew, State.renewOutcome, found, state]
    | bound | lapsed =>
      by_cases holder : r.identity = i
      · exact absurd (by simp [State.renewOutcome, found, state, holder]) ungranted
      · simp [State.renewOutcome, Record.settledFor, found, state, holder] at settled
    | disputed =>
      have outcome : s.renewOutcome a i = .disputed := by simp [State.renewOutcome, found, state]
      have known : r.identity = i ∨ r.rival.isSome = true := by
        simpa [Record.settledFor, outcome, found, state] using settled
      rw [State.takeRenew_disputed i requested found state, State.fillRival, if_pos known, outcome]

/-! ## Its admission, R148 -/

/-- The frame of a RENEW, section 12.2. -/
def renewFrame (p : BitVec 2) (a : Byte) (i : Identity) (term : Half) : Frame :=
  requestFrame .renew p a 0 (bytesOfIdentity i ++ bytesOfHalf term.toNat)

theorem handOver_renewFrame (p : BitVec 2) (a : Byte) (i : Identity) (term : Half) (s : State) :
    s.handOver .renew (renewFrame p a i term) = s.takeRenew a.toNat i term.toNat := by
  have holder : (renewFrame p a i term).payloadIdentity = i := identityOfBytes_bytesOfIdentity i
  have requested : (renewFrame p a i term).payloadTerm = term.toNat := natOfBytes_bytesOfHalf term.isLt
  rw [State.handOver, holder, requested]
  rfl

/-- An admitted RENEW is taken by the Lease Directory after its heard event, and the line passes its frame. -/
theorem exec_renew_admitted {s : State} (p : BitVec 2) {a : Byte} {i : Identity} (term : Half) (receives : s.Receives)
    (room : s.HasReplyRoom) (leased : leasable a.toNat = true) (valid : validIdentity i = true) :
    ∃ l l', exec (.renew p a i term) s =
        .next ((((s.joining l).heardFrom a.toNat true).takeRenew a.toNat i term.toNat).setLine l')
      ∧ l.state = s.line.state ∧ s.LineAfter 254 true l' := by
  have holder : (renewFrame p a i term).payloadIdentity = i := identityOfBytes_bytesOfIdentity i
  have identity : validIdentity (renewFrame p a i term).payloadIdentity = true := by rw [holder, valid]
  have admitted : s.admission (renewFrame p a i term) = some .renew :=
    State.admission_requestFrame rfl leased identity fun _ => room
  have short : (bytesOfIdentity i ++ bytesOfHalf term.toNat).length ≤ 24 := show 8 ≤ 24 by decide
  obtain ⟨l, l', received, state, after⟩ := State.receiveFrame_request receives (.inl leased) short admitted
    (handOver_renewFrame p a i term) (State.takeRenew_line a.toNat i term.toNat)
  rw [State.heard_requestFrame _ _ _ _ _ leased] at received
  exact ⟨l, l', congrArg Host.Outcome.next received, state, after⟩

/-- A RENEW from the address of a BOUND, LAPSED or DISPUTED record finds it with its quiet count reset. -/
theorem exec_renew_live {s : State} (p : BitVec 2) {a : Byte} {i : Identity} (term : Half) {r : Record}
    (receives : s.Receives) (room : s.HasReplyRoom) (leased : leasable a.toNat = true) (valid : validIdentity i = true)
    (found : s.recordAt a.toNat = some r) (live : r.state = .bound ∨ r.state = .lapsed ∨ r.state = .disputed) :
    ∃ l l' u, exec (.renew p a i term) s = .next ((u.takeRenew a.toNat i term.toNat).setLine l')
      ∧ u = (s.putRecord { r with quiet := 0 }).joining l ∧ u.recordAt a.toNat = some { r with quiet := 0 }
      ∧ l.state = s.line.state ∧ s.LineAfter 254 true l' := by
  obtain ⟨l, l', taken, state, after⟩ := exec_renew_admitted p term receives room leased valid
  rw [State.heardFrom_limited (s := s.joining l) found live] at taken
  exact ⟨l, l', _, taken, rfl, State.recordAt_putQuiet found, state, after⟩

/-! ## A RENEW that is granted, R74 -/

/-- The fields that a grant writes. -/
def Record.renewed (r : Record) (term : Nat) : Record :=
  { r with term := term, granted := some term, quiet := 0, attempts := 0 }

theorem State.grantRenew_lapsed {r : Record} (requested : Nat) (s : State) (lapsed : r.state = .lapsed) :
    s.grantRenew r requested = s.bindRecord (r.renewed (s.grantTerm requested)) := if_pos lapsed

theorem State.grantRenew_live {r : Record} (requested : Nat) (s : State) (live : r.state ≠ .lapsed) :
    s.grantRenew r requested = s.putRecord (r.renewed (s.grantTerm requested)) := if_neg live

/-- The grant writes the quiet count too, and looks at nothing that admission changes. -/
theorem State.grantRenew_heard (l : Line) (r : Record) (requested : Nat) (s : State) :
    ((s.putRecord { r with quiet := 0 }).joining l).grantRenew { r with quiet := 0 } requested =
      (s.grantRenew r requested).joining l := by
  have address : ({ r with quiet := 0 } : Record).address = (r.renewed (s.grantTerm requested)).address := rfl
  by_cases lapsed : r.state = .lapsed
  · rw [State.grantRenew_lapsed _ s lapsed, State.grantRenew_lapsed (r := { r with quiet := 0 }) _ _ lapsed]
    exact congrArg (State.joining l) (State.putRecord_bindRecord address s)
  · rw [State.grantRenew_live _ s lapsed, State.grantRenew_live (r := { r with quiet := 0 }) _ _ lapsed]
    exact congrArg (State.joining l) (State.putRecord_putRecord address s)

/-- A granted RENEW, its heard event included, is the grant and its reply. -/
theorem exec_renew_granted {s : State} (p : BitVec 2) {a : Byte} (term : Half) {r : Record} (receives : s.Receives)
    (room : s.HasReplyRoom) (leased : leasable a.toNat = true) (valid : validIdentity r.identity = true)
    (found : s.recordAt a.toNat = some r) (live : r.state = .bound ∨ r.state = .lapsed) :
    ∃ l, exec (.renew p a r.identity term) s = .next { s.grantRenew r term.toNat with
        queue := (s.grantRenew r term.toNat).replied (renewReply a.toNat .ok (s.grantTerm term.toNat))
        line := l }
      ∧ s.LineAfter 254 true l := by
  obtain ⟨l, l', u, taken, rfl, quieted, -, after⟩ :=
    exec_renew_live p term receives room leased valid found (live.imp_right .inl)
  have granted := State.takeRenew_granted term.toNat quieted live
  rw [State.grantRenew_heard, State.queueReply_joining] at granted
  rw [taken, granted]
  exact ⟨l', rfl, after⟩

/-- Settles O21, by the record's state. -/
theorem renewGrantsItsRecordTheTerm : Obligations.RenewGrantsItsRecordTheTerm := by
  refine ⟨?bound, ?lapsed, fun s n => rfl⟩
  case bound =>
    rintro s p a i term r receives room leased valid found rfl state
    obtain ⟨l, taken, after⟩ := exec_renew_granted p term receives room leased valid found (.inl state)
    rw [taken, State.grantRenew_live _ s (by simp [state])]
    exact ⟨_, rfl, rfl, rfl, rfl, after⟩
  case lapsed =>
    rintro s p a i term r receives room leased valid found rfl state
    obtain ⟨l, taken, after⟩ := exec_renew_granted p term receives room leased valid found (.inr state)
    rw [taken, State.grantRenew_lapsed _ s state]
    exact ⟨_, rfl, State.alters_of_directory rfl, rfl, rfl, after⟩

end Sys2Proof.Machine
end

section
/-! RENEW without a grant (R73, R75) and the dispute that it raises under each policy (R108 to R110). -/

namespace Sys2Proof.Machine

/-! ## What a heard event leaves of the answer -/

/-- A RENEW is answered by what its heard event leaves alone. -/
theorem State.renewOutcome_heardState {s : State} {a : Nat} (leased : leasable a = true) (i : Identity) (beside : Nat) :
    (s.heardState a false beside).renewOutcome a i = s.renewOutcome a i := by
  cases found : s.recordAt a with
  | none => simp only [State.renewOutcome, found, State.recordAt_heardState leased, Option.map_none]
  | some r =>
    obtain ⟨n, quiet⟩ := s.heardRecord_quiet_only r
    simp only [State.renewOutcome, found, State.recordAt_heardState leased, Option.map_some, quiet]

/-! ## Evidence, R106 -/

theorem State.fillRival_fills {r : Record} {i : Identity} (s : State) (other : r.identity ≠ i)
    (empty : r.rival = none) :
    s.fillRival r i = (s.putRecord { r with rival := some i }).note .altered r.address := by
  simp [State.fillRival, other, empty]

/-- The evidence fills an absent rival in the record as heard. -/
theorem State.fillRival_heard {r : Record} {i : Identity} (l : Line) (s : State) (other : r.identity ≠ i)
    (empty : r.rival = none) :
    ((s.putRecord { r with quiet := 0 }).joining l).fillRival { r with quiet := 0 } i =
      ((s.putRecord { r with rival := some i, quiet := 0 }).note .altered r.address).joining l := by
  have twice := State.putRecord_putRecord (q := { r with quiet := 0 }) (r := { r with rival := some i, quiet := 0 })
    rfl s
  rw [State.fillRival_fills (r := { r with quiet := 0 }) _ other empty]
  exact congrArg (fun u => (State.note .altered r.address u).joining l) twice

/-! ## The dispute, R108 to R110 -/

/-- Under HOLD the record enters DISPUTED as it was heard. -/
theorem State.raiseDispute_hold_heard {s : State} (l : Line) (r : Record) (rival : Option Identity)
    (hold : s.params.disputePolicy = .hold) :
    ((s.putRecord { r with quiet := 0 }).joining l).raiseDispute { r with quiet := 0 } rival =
      ((s.enterDisputed { r with quiet := 0 } rival).raise .dispute).joining l := by
  have entered := State.putRecord_enterDisputed (q := { r with quiet := 0 }) (r := { r with quiet := 0 }) rfl rival s
  rw [State.raiseDispute_hold (s := (s.putRecord { r with quiet := 0 }).joining l) _ _ hold]
  exact congrArg (fun u => (State.raise .dispute u).joining l) entered

/-- Under REVOKE that record is revoked at once. -/
theorem State.raiseDispute_revoke_heard {s : State} (l : Line) (r : Record) (rival : Option Identity)
    (revoke : s.params.disputePolicy = .revoke) :
    ((s.putRecord { r with quiet := 0 }).joining l).raiseDispute { r with quiet := 0 } rival =
      ((s.joining l).enterDisputed { r with quiet := 0 } rival).revokeDisputed { r with quiet := 0 } := by
  have entered := State.putRecord_enterDisputed (q := { r with quiet := 0 }) (r := { r with quiet := 0 }) rfl rival
    (s.joining l)
  rw [State.raiseDispute_revoke (s := (s.putRecord { r with quiet := 0 }).joining l) _ _ revoke]
  exact congrArg (State.revokeDisputed { r with quiet := 0 }) entered

/-- What is removed at an address does not depend on what was last put there. -/
theorem removeRecord_replaceRecord (q : Record) (rs : List Record) :
    removeRecord q.address (replaceRecord q rs) = removeRecord q.address rs := by
  induction rs with
  | nil => rfl
  | cons p ps ih =>
    simp only [removeRecord, replaceRecord, List.map_cons, List.filter_cons] at ih ⊢
    by_cases here : p.address = q.address <;> simp [here, ih]

theorem State.MarkOnly.trans {s t u : State} {a : Nat} {m m' : Mark} (first : s.MarkOnly t a m)
    (second : t.MarkOnly u a m') : s.MarkOnly u a m' := by
  obtain ⟨-, others⟩ := first
  obtain ⟨mark, others'⟩ := second
  exact ⟨mark, others'.trans others⟩

/-- A record disputed and revoked at once ends, and an untargeted REVOKE is claimed: its mark moves twice. -/
theorem State.revokeDisputed_entered (r : Record) (rival : Option Identity) (s : State) :
    let t := (s.enterDisputed r rival).revokeDisputed r
    s.Ends t r.address (s.poolRetired r) (Mark.move .removed (Mark.move .altered (s.markOf r.address)))
      ∧ t = { s with directory := t.directory, pool := t.pool, groups := t.groups,
                     queue := s.claimed .dispute (untargetedRevoke r.address) 0 } := by
  have records : removeRecord r.address (s.enterDisputed r rival).directory.records =
      removeRecord r.address s.directory.records := removeRecord_replaceRecord (s.disputedRecord r rival) _
  have lapseList : (s.enterDisputed r rival).directory.lapseList.filter (fun b => b != r.address) =
      s.directory.lapseList.filter (fun b => b != r.address) := by
    rw [State.enterDisputed_eq]
    simp only [List.filter_filter, Bool.and_self]
  have altered : (s.enterDisputed r rival).markOf r.address = Mark.move .altered (s.markOf r.address) :=
    (State.markOf_note .altered r.address r.address _).trans (if_pos rfl)
  have entered : s.MarkOnly (s.enterDisputed r rival) r.address (Mark.move .altered (s.markOf r.address)) :=
    State.markOnly_setMark rfl
  dsimp only
  rw [State.revokeDisputed_fields, altered, records, lapseList]
  exact ⟨⟨rfl, entered.trans (State.markOnly_setMark rfl), rfl, rfl⟩, rfl⟩

/-! ## The answers -/

/-- Settles O22: an answer alone leaves the heard event's state, evidence is set against the record as heard, and the
REVOKE is claimed beside the place kept for the answer. -/
theorem renewWithoutAGrantIsAnsweredByTheRecord : Obligations.RenewWithoutAGrantIsAnsweredByTheRecord := by
  refine ⟨?answered, ?filled, ?held, ?revoked⟩
  case answered =>
    rintro s p a i term _ receives room leased valid placed rfl ungranted settled
    obtain ⟨l, l', taken, online, after⟩ := exec_renew_admitted p term receives room leased valid
    have outcome : ((s.heardState a.toNat false 1).joining l).renewOutcome a.toNat i = s.renewOutcome a.toNat i :=
      State.renewOutcome_heardState leased i 1
    have known : (((s.heardState a.toNat false 1).joining l).recordAt a.toNat).any (Record.settledFor i) =
        (s.recordAt a.toNat).any (Record.settledFor i) :=
      State.view_recordAt_heardState (Option.any _) leased 1 fun _ _ => rfl
    have settled' := settled.imp_right known.trans
    rw [← outcome] at ungranted settled'
    rw [taken, State.heardFrom_joining placed online leased, State.takeRenew_answered _ ungranted settled',
      outcome, State.queueReply_joining]
    exact ⟨_, rfl, rfl, after⟩
  case filled =>
    rintro s p a i term r receives room leased valid found state other empty
    obtain ⟨-, address⟩ := State.mem_of_recordAt found
    obtain ⟨l, l', u, taken, rfl, quieted, -, after⟩ :=
      exec_renew_live p term receives room leased valid found (.inr (.inr state))
    rw [taken, State.takeRenew_disputed i _ quieted state, State.fillRival_heard l s other empty,
      State.queueReply_joining, ← address]
    exact ⟨_, rfl, rfl, State.markOnly_setMark rfl, rfl, rfl, after⟩
  case held =>
    rintro s p a i term r receives room leased valid found state other hold
    obtain ⟨l, l', u, taken, rfl, quieted, -, after⟩ :=
      exec_renew_live p term receives room leased valid found (state.imp_right .inl)
    rw [taken, State.takeRenew_disputes _ quieted state other, State.raiseDispute_hold_heard l r _ hold,
      State.queueReply_joining]
    exact ⟨_, rfl, State.alters_of_directory rfl, rfl, rfl, rfl, after⟩
  case revoked =>
    rintro s p a i term r receives room leased valid found state other revoke
    obtain ⟨-, address⟩ := State.mem_of_recordAt found
    obtain ⟨l, l', u, taken, rfl, quieted, online, after⟩ :=
      exec_renew_live p term receives room leased valid found (state.imp_right .inl)
    obtain ⟨ends, frame⟩ := State.revokeDisputed_entered { r with quiet := 0 } (some i) (s.joining l)
    rw [State.claimed_joining online] at frame
    rw [taken, State.takeRenew_disputes _ quieted state other, State.raiseDispute_revoke_heard l r _ revoke, ← address]
    generalize ((s.joining l).enterDisputed { r with quiet := 0 } (some i)).revokeDisputed { r with quiet := 0 } = u
      at ends frame ⊢
    rw [frame]
    exact ⟨_, rfl, ends, rfl, rfl, rfl, after⟩

end Sys2Proof.Machine
end

section
/-! LEAVE, R76: the end of the record whose holder departs. -/

namespace Sys2Proof.Machine

/-! ## Taking a LEAVE -/

theorem State.takeLeave_retires {s : State} {a : Nat} {r : Record} (found : s.recordAt a = some r)
    (live : r.state = .bound ∨ r.state = .lapsed ∨ r.state = .disputed) : s.takeLeave a r.identity = s.retire r := by
  rcases live with state | state | state <;> simp [State.takeLeave, found, state]

/-- A LEAVE that names no live record of its sender does nothing. -/
theorem State.takeLeave_ignored {s : State} {a : Nat} {i : Identity}
    (other : (s.recordAt a).all (fun r => r.identity != i || r.state == .offered || r.state == .reserved) = true) :
    s.takeLeave a i = s := by
  cases found : s.recordAt a with
  | none => simp [State.takeLeave, found]
  | some r =>
    cases state : r.state with
    | reserved | offered => simp [State.takeLeave, found, state]
    | bound | lapsed | disputed =>
      have stranger : r.identity ≠ i := by simpa [found, state] using other
      simp [State.takeLeave, found, state, stranger]

theorem State.takeLeave_line (a : Nat) (i : Identity) (s : State) : (s.takeLeave a i).line = s.line := by
  have retired (r : Record) : (if r.identity = i then s.retire r else s).line = s.line := by
    split
    · rw [State.retire, State.endRecord_eq]
    · rfl
  unfold State.takeLeave
  split
  · rfl
  split
  · exact retired _
  · exact retired _
  · exact retired _
  · rfl
  · rfl

/-! ## Its admission, R148 -/

/-- The frame of a LEAVE, section 12.2. -/
def leaveFrame (p : BitVec 2) (a : Byte) (i : Identity) : Frame := requestFrame .leave p a 0 (bytesOfIdentity i)

theorem handOver_leaveFrame (p : BitVec 2) (a : Byte) (i : Identity) (s : State) :
    s.handOver .leave (leaveFrame p a i) = s.takeLeave a.toNat i := by
  have holder : (leaveFrame p a i).payloadIdentity = i := identityOfBytes_bytesOfIdentity i
  rw [State.handOver, holder]
  rfl

/-- An admitted LEAVE needs no place for an answer. -/
theorem exec_leave_admitted {s : State} (p : BitVec 2) {a : Byte} {i : Identity} (receives : s.Receives)
    (leased : leasable a.toNat = true) (valid : validIdentity i = true) :
    ∃ l l', exec (.leave p a i) s = .next ((((s.setLine l).heardFrom a.toNat true).takeLeave a.toNat i).setLine l')
      ∧ l.state = s.line.state ∧ s.LineAfter 254 true l' := by
  have holder : (leaveFrame p a i).payloadIdentity = i := identityOfBytes_bytesOfIdentity i
  have identity : validIdentity (leaveFrame p a i).payloadIdentity = true := by rw [holder, valid]
  have admitted : s.admission (leaveFrame p a i) = some .leave :=
    State.admission_requestFrame rfl leased identity fun reply => nomatch reply
  have short : (bytesOfIdentity i).length ≤ 24 := show 6 ≤ 24 by decide
  obtain ⟨l, l', received, state, after⟩ := State.receiveFrame_request receives (.inl leased) short admitted
    (handOver_leaveFrame p a i) (State.takeLeave_line a.toNat i)
  rw [State.heard_requestFrame _ _ _ _ _ leased] at received
  exact ⟨l, l', congrArg Host.Outcome.next received, state, after⟩

/-- Settles O23: the record retires as it would without the heard event, and where none does the heard event is all. -/
theorem leaveRetiresTheRecordOfItsSender : Obligations.LeaveRetiresTheRecordOfItsSender := by
  refine ⟨?retires, ?ignored⟩
  case retires =>
    rintro s p a i r receives leased valid found rfl live
    obtain ⟨-, address⟩ := State.mem_of_recordAt found
    obtain ⟨l, l', taken, -, after⟩ := exec_leave_admitted p receives leased valid
    have quieted : ((s.setLine l).putRecord { r with quiet := 0 }).recordAt a.toNat = some { r with quiet := 0 } :=
      State.recordAt_putQuiet found
    have retired := State.takeLeave_retires quieted live
    dsimp only at retired
    rw [taken, State.heardFrom_limited (s := s.setLine l) found live, retired, State.putRecord_retire rfl rfl,
      State.retire, State.endRecord_eq, State.returnAddress_quarantineTail, ← address]
    exact ⟨_, rfl, ⟨rfl, State.markOnly_setMark rfl, rfl, rfl⟩, rfl, after⟩
  case ignored =>
    rintro s p a i _ receives leased valid other placed rfl
    obtain ⟨l, l', taken, online, after⟩ := exec_leave_admitted p receives leased valid
    have other' : (((s.heardState a.toNat false 0).setLine l).recordAt a.toNat).all
        (fun r => r.identity != i || r.state == .offered || r.state == .reserved) = true :=
      (State.view_recordAt_heardState (Option.all _) leased 0 fun _ _ => rfl).trans other
    rw [taken, State.heardFrom_setLine placed online leased, State.takeLeave_ignored other']
    exact ⟨_, rfl, rfl, after⟩

end Sys2Proof.Machine
end

section
/-! RESOLVE IDENTITY and RESOLVE ADDRESS, R77 to R79: the answer from the indexes as the request's heard event leaves
them. -/

namespace Sys2Proof.Machine

/-! ## Taking a RESOLVE request, R77 and R78 -/

theorem resolveOutcome_eq (x : RecordState) :
    resolveOutcome x = if x = .bound ∨ x = .lapsed then .found else .held := by cases x <;> rfl

theorem State.takeResolveIdentity_eq (a : Nat) (i : Identity) (s : State) :
    s.takeResolveIdentity a i = s.queueReply .reply (resolvedReply a (s.recordOf i) 0 i) := by
  cases found : s.recordOf i with
  | none => simp only [State.takeResolveIdentity, resolvedReply, found]
  | some r =>
    obtain ⟨-, rfl⟩ := State.mem_of_recordOf found
    simp only [State.takeResolveIdentity, resolvedReply, found, resolveOutcome_eq]

/-- An address outside 1 to 239 is looked for in vain either way, R24. -/
theorem State.Placed.takeResolveAddress_eq {s : State} (h : s.Placed) (a b : Nat) :
    s.takeResolveAddress a b = s.queueReply .reply (resolvedReply a (s.recordAt b) b 0) := by
  cases found : s.recordAt b with
  | none => simp only [State.takeResolveAddress, resolvedReply, found, ite_self]
  | some r =>
    obtain ⟨mem, rfl⟩ := State.mem_of_recordAt found
    simp only [State.takeResolveAddress, resolvedReply, found, h.leasable_of_mem mem, if_true, resolveOutcome_eq]

theorem State.takeResolveIdentity_line (a : Nat) (i : Identity) (s : State) :
    (s.takeResolveIdentity a i).line = s.line := by
  rw [State.takeResolveIdentity_eq]
  rfl

theorem State.takeResolveAddress_line (a b : Nat) (s : State) : (s.takeResolveAddress a b).line = s.line := by
  unfold State.takeResolveAddress
  split <;> rfl

/-! ## The heard event of its source -/

/-- A heard event moves no address. -/
theorem State.Placed.heardState {s : State} (h : s.Placed) (a : Nat) (renews : Bool) (beside : Nat) :
    (s.heardState a renews beside).Placed := by
  unfold State.heardState
  split
  · exact h
  · refine h.congr rfl ?_
    simp only [State.addresses, List.map_map]
    refine List.map_congr_left fun r _ => ?_
    by_cases here : r.address = a <;> simp [here]

/-- A request that is answered and carries no identity is taken as its heard event leaves the state, in which passive
renewal acts, R48 and R79. -/
theorem State.receiveFrame_anonymous {s : State} {k : RequestKind} {p : BitVec 2} {a : Byte} {payload : List Byte}
    {owner : State → State} (receives : s.Receives) (placed : s.Placed) (answered : k.needsReply = true)
    (anonymous : k.carriesIdentity = false) (sender : leasable a.toNat = true ∨ fixedAddress a.toNat = true)
    (short : payload.length ≤ 24) (admitted : s.admission (requestFrame k p a 0 payload) = some k)
    (takes : ∀ u : State, u.handOver k (requestFrame k p a 0 payload) = owner u)
    (line : ∀ u : State, (owner u).line = u.line) :
    ∃ l l', s.receiveFrame (requestFrame k p a 0 payload) =
        (owner ((s.heardState a.toNat s.params.passiveRenewal 1).joining l)).setLine l'
      ∧ s.LineAfter 254 true l' := by
  obtain ⟨l, l', received, online, after⟩ := State.receiveFrame_request receives sender short admitted takes line
  have placed' : (s.joining l).Placed := placed.congr rfl rfl
  have heard : (s.joining l).heard (requestFrame k p a 0 payload) =
      (s.heardState a.toNat s.params.passiveRenewal 1).joining l := by
    rw [State.heard_eq placed', limitedHeard_requestFrame, anonymous, Bool.not_false, Bool.and_true]
    exact State.heardState_joining online ..
  rw [if_pos answered, heard] at received
  exact ⟨l, l', received, after⟩

/-- Settles O24, by the answer that each index gives. -/
theorem resolutionIsAnsweredFromTheIndexes : Obligations.ResolutionIsAnsweredFromTheIndexes := by
  refine ⟨?identity, ?address⟩
  case identity =>
    rintro s p a i _ receives room sender valid placed rfl
    have asked : (requestFrame .resolveIdentity p a 0 (bytesOfIdentity i)).payloadIdentity = i :=
      identityOfBytes_bytesOfIdentity i
    have takes (u : State) : u.handOver .resolveIdentity (requestFrame .resolveIdentity p a 0 (bytesOfIdentity i)) =
        u.takeResolveIdentity a.toNat i := congrArg (fun j => u.takeResolveIdentity a.toNat j) asked
    have short : (bytesOfIdentity i).length ≤ 24 := show 6 ≤ 24 by decide
    have admitted : s.admission (requestFrame .resolveIdentity p a 0 (bytesOfIdentity i)) = some .resolveIdentity :=
      State.admission_requestFrame rfl (Bool.or_eq_true_iff.mpr sender) ((congrArg validIdentity asked).trans valid)
        fun _ => room
    obtain ⟨l, l', received, after⟩ := State.receiveFrame_anonymous receives placed rfl rfl sender short admitted
      takes (State.takeResolveIdentity_line a.toNat i)
    rw [State.takeResolveIdentity_eq, State.queueReply_joining] at received
    exact ⟨_, congrArg Host.Outcome.next received, rfl, after⟩
  case address =>
    rintro s p a b _ receives room sender placed rfl
    have takes (u : State) : u.handOver .resolveAddress (requestFrame .resolveAddress p a 0 [b]) =
        u.takeResolveAddress a.toNat b.toNat := rfl
    have short : [b].length ≤ 24 := show 1 ≤ 24 by decide
    have admitted : s.admission (requestFrame .resolveAddress p a 0 [b]) = some .resolveAddress :=
      State.admission_requestFrame rfl (Bool.or_eq_true_iff.mpr sender) rfl fun _ => room
    obtain ⟨l, l', received, after⟩ := State.receiveFrame_anonymous receives placed rfl rfl sender short admitted
      takes (State.takeResolveAddress_line a.toNat b.toNat)
    have placed' : ((s.heardState a.toNat s.params.passiveRenewal 1).joining l).Placed :=
      (placed.heardState a.toNat s.params.passiveRenewal 1).congr rfl rfl
    rw [placed'.takeResolveAddress_eq, State.queueReply_joining] at received
    exact ⟨_, congrArg Host.Outcome.next received, rfl, after⟩

end Sys2Proof.Machine
end

section
/-! PROBE_CHOOSE (R90, R102, R103): the Prober's choice of a target, the end of a pass, and the states in which there is
nothing to choose. -/

namespace Sys2Proof.Machine

/-! ## When the Prober may choose -/

theorem exec_probeChoose (s : State) : exec .probeChoose s = .next (if s.mayChoose then s.choose else s) := rfl

theorem State.mayChoose_iff {s : State} :
    s.mayChoose = true ↔ s.prober.context = none ∧ s.line.state = .online ∧ s.hasFreeEntry = true := by
  simp [State.mayChoose, and_assoc]

/-- An idle Prober on an ONLINE line with a free entry chooses. -/
theorem exec_probeChoose_chooses {s : State} (idle : s.prober.context = none) (online : s.line.state = .online)
    (free : s.hasFreeEntry = true) : exec .probeChoose s = .next s.choose := by
  rw [exec_probeChoose, if_pos (State.mayChoose_iff.mpr ⟨idle, online, free⟩)]

/-! ## What is chosen, R90 and R102 -/

/-- A target taken fills the context and queues its PROBE. -/
theorem State.takeTarget_eq (r : Record) (kind : ProbeKind) (attempt : Nat) (s : State) :
    s.takeTarget r kind attempt = { s with
      prober := { s.prober with context := some { target := r.address, identity := r.identity, kind := kind,
                                                  attempt := attempt, phase := .queued } },
      queue := s.queueWith (s.entryOf .directory (.prober true) (probeFrame r.address)) } := rfl

theorem State.choose_lapsed {s : State} {r : Record} {rest : List Nat}
    (listed : s.directory.lapseList = r.address :: rest) (found : s.recordAt r.address = some r) :
    s.choose = (s.dropLapse r.address).takeTarget r .lapse (r.attempts + 1) := by
  simp only [State.choose, listed, found]

theorem State.choose_sweeps {s : State} {w : Sweep} (empty : s.directory.lapseList = [])
    (sweep : s.prober.sweep = some w) (scanning : w.scanning = true) (serving : s.census.mode = .serving) :
    s.choose = s.sweepOn w := by
  simp [State.choose, empty, sweep, scanning, serving]

/-- A WAITING sweep, no sweep, and any sweep in CENSUS mode choose nothing, R90 and R104. -/
theorem State.choose_nothing {s : State} (empty : s.directory.lapseList = [])
    (halted : s.prober.sweep.all (fun w => !w.scanning) = true ∨ s.census.mode = .census) : s.choose = s := by
  cases sweep : s.prober.sweep with
  | none => simp [State.choose, empty, sweep]
  | some w =>
    rcases halted with waiting | census
    · have waiting : w.scanning = false := by simpa [sweep] using waiting
      simp [State.choose, empty, sweep, waiting]
    · simp [State.choose, empty, sweep, census]

/-- The end of a pass, R103: SWEEP by the notice, and the sweep is over or waits at its first address. -/
theorem State.endPass_eq (w : Sweep) (s : State) :
    s.endPass w = { s with
      prober := { s.prober with
        sweep := if w.mode = .once then none
          else some { w with scanning := false, cursor := w.first, passes := (w.passes + 1) % 65536 } },
      port := if w.mode = .once ∨ w.notice = .everyPass ∨ (w.passes + 1) % 65536 % 4 = 0 then
        s.port.withCause .sweep else s.port } := by
  unfold State.endPass
  cases mode : w.mode with
  | once => simp [State.setProber, State.raise, Port.withCause]
  | continuous =>
    simp only [reduceCtorEq, false_or, if_false]
    split <;> rfl

/-- The head of the lapse list stands in it once, R21. -/
theorem State.LapseListed.filter_head {s : State} {a : Nat} {rest : List Nat} (listed : s.LapseListed)
    (list : s.directory.lapseList = a :: rest) : s.directory.lapseList.filter (fun b => b != a) = rest := by
  obtain ⟨nodup, -, -⟩ := listed
  rw [list] at nodup ⊢
  obtain ⟨absent, -⟩ := List.nodup_cons.mp nodup
  rw [List.filter_cons_of_neg (by simp), List.filter_eq_self.mpr]
  exact fun b later => by simpa using fun e : b = a => absent (e ▸ later)

/-- Among records in address order the first candidate is the lowest, R102. -/
theorem State.Placed.find?_lowest {s : State} {p : Record → Bool} {r : Record} (placed : s.Placed)
    (mem : r ∈ s.directory.records) (here : p r = true)
    (lowest : ∀ q ∈ s.directory.records, p q = true → r.address ≤ q.address) :
    s.directory.records.find? p = some r := by
  obtain ⟨A, B, split, apart⟩ := placed.split mem
  have sorted := placed.sorted
  rw [split] at sorted lowest ⊢
  have before (q : Record) (hq : q ∈ A) : ¬ p q = true := fun hp => by
    obtain ⟨-, -, below⟩ := List.pairwise_append.mp sorted
    exact absurd (lowest q (List.mem_append_left _ hq) hp) (Nat.not_le.mpr (below q hq r List.mem_cons_self))
  rw [List.find?_append, List.find?_eq_none.mpr before, Option.none_or, List.find?_cons_of_pos here]

/-- Settles O28: the lapse list decides first, then the sweep. -/
theorem proberChoosesLapsedFirstThenSweeps : Obligations.ProberChoosesLapsedFirstThenSweeps := by
  refine ⟨?lapsed, ?candidate, ?pass, ?nothing⟩
  case lapsed =>
    intro s r rest idle online free listed list found
    have dropped : s.dropLapse r.address = s.setDirectory { s.directory with lapseList := rest } := by
      rw [State.dropLapse, listed.filter_head list]
    rw [exec_probeChoose_chooses idle online free, State.choose_lapsed list found, dropped, State.takeTarget_eq]
    rfl
  case candidate =>
    intro s w r idle online free placed empty sweep scanning serving mem here lowest
    rw [exec_probeChoose_chooses idle online free, State.choose_sweeps empty sweep scanning serving, State.sweepOn,
      placed.find?_lowest mem here lowest]
    rfl
  case pass =>
    intro s w idle online free empty sweep scanning serving others
    have exhausted : s.directory.records.find? w.candidate = none :=
      List.find?_eq_none.mpr fun q hq => by simp [others q hq]
    rw [exec_probeChoose_chooses idle online free, State.choose_sweeps empty sweep scanning serving, State.sweepOn,
      exhausted]
    exact congrArg Host.Outcome.next (s.endPass_eq w)
  case nothing =>
    intro s halted
    have still : (if s.mayChoose then s.choose else s) = s := by
      split
      · next may =>
        obtain ⟨idle, online, free⟩ := State.mayChoose_iff.mp may
        rcases halted with busy | offline | full | ⟨empty, halted⟩
        · exact absurd idle busy
        · exact absurd online offline
        · exact absurd free (by simp [full])
        · exact State.choose_nothing empty halted
      · rfl
    rw [exec_probeChoose, still]

end Sys2Proof.Machine
end

section
/-! The outcome of a probe attempt (R94 to R98), one equation for each of its cases, and PROBE_WAIT_EXPIRY (R93). -/

namespace Sys2Proof.Machine

/-! ## The checks of R94 -/

/-- The outcome applies to the record at the target that has the identity and the state expected. -/
theorem State.outcomeTarget_applies {s : State} {c : ProbeContext} {o : ProbeOutcome} {r : Record}
    (found : s.recordAt c.target = some r) (identity : r.identity = c.identity) (expected : r.state = c.kind.expected)
    (counts : c.kind = .sweep → o = .noAnswer → r.pinned = false) : s.outcomeTarget c o = some r := by
  have loose : ¬ (c.kind = .sweep ∧ o = .noAnswer ∧ r.pinned = true) := fun ⟨sweep, silent, pinned⟩ => by
    simp [counts sweep silent] at pinned
  simp [State.outcomeTarget, found, identity, expected, loose]

/-- It is discarded when every record at the target fails a check. -/
theorem State.outcomeTarget_discarded {s : State} {c : ProbeContext} {o : ProbeOutcome}
    (fails : ∀ r, s.recordAt c.target = some r → r.identity = c.identity → r.state = c.kind.expected →
      c.kind = .sweep ∧ o = .noAnswer ∧ r.pinned = true) : s.outcomeTarget c o = none := by
  unfold State.outcomeTarget
  split
  · next r found => exact if_neg fun ⟨identity, expected, loose⟩ => loose (fails r found identity expected)
  · rfl

theorem State.endAttempt_applied {s : State} {c : ProbeContext} {o : ProbeOutcome} {r : Record}
    (context : s.prober.context = some c) (applies : s.outcomeTarget c o = some r) :
    s.endAttempt o = s.emptyContext.applyOutcome c o r := by
  simp only [State.endAttempt, context, applies]

theorem State.endAttempt_discarded {s : State} {c : ProbeContext} {o : ProbeOutcome}
    (context : s.prober.context = some c) (discarded : s.outcomeTarget c o = none) :
    s.endAttempt o = s.emptyContext.placeDiscarded c := by
  simp only [State.endAttempt, context, discarded]

/-! ## Discarded outcomes, R98 -/

/-- A target that is gone, of another identity or not LAPSED is put nowhere. -/
theorem State.placeDiscarded_nowhere {s : State} {c : ProbeContext}
    (other : ∀ r, s.recordAt c.target = some r → r.identity = c.identity → r.state ≠ .lapsed) :
    s.placeDiscarded c = s := by
  unfold State.placeDiscarded
  split
  · next r found => exact if_neg fun ⟨identity, lapsed⟩ => other r found identity lapsed
  · rfl

/-- A target still LAPSED under a sweep probe goes to the lapse list tail, whatever the outcome. -/
theorem State.endAttempt_relists {s : State} {c : ProbeContext} {r : Record} (o : ProbeOutcome)
    (context : s.prober.context = some c) (found : s.recordAt c.target = some r) (identity : r.identity = c.identity)
    (lapsed : r.state = .lapsed) (kind : c.kind = .sweep) :
    s.endAttempt o = s.emptyContext.appendLapse r.address := by
  have discarded : s.outcomeTarget c o = none := State.outcomeTarget_discarded fun p here _ expected => by
    obtain rfl : r = p := Option.some.inj (found.symm.trans here)
    simp [lapsed, kind, ProbeKind.expected] at expected
  have found' : s.emptyContext.recordAt c.target = some r := found
  rw [State.endAttempt_discarded context discarded]
  simp [State.placeDiscarded, found', identity, lapsed]

/-! ## No answer, R96 and R97 -/

/-- A failed lapse probe below the limit of attempts. -/
theorem State.endAttempt_counts {s : State} {c : ProbeContext} {r : Record} (context : s.prober.context = some c)
    (found : s.recordAt c.target = some r) (identity : r.identity = c.identity) (lapsed : r.state = .lapsed)
    (kind : c.kind = .lapse) (below : c.attempt < s.params.probeAttempts) :
    s.endAttempt .noAnswer = (s.emptyContext.putRecord { r with attempts := c.attempt }).appendLapse r.address := by
  have applies := State.outcomeTarget_applies (o := .noAnswer) found identity (by rw [lapsed, kind]; rfl)
    (by simp [kind])
  rw [State.endAttempt_applied context applies]
  simp only [State.applyOutcome, kind]
  exact if_pos below

/-- A failed lapse probe at the limit. -/
theorem State.endAttempt_retires {s : State} {c : ProbeContext} {r : Record} (context : s.prober.context = some c)
    (found : s.recordAt c.target = some r) (identity : r.identity = c.identity) (lapsed : r.state = .lapsed)
    (kind : c.kind = .lapse) (limit : s.params.probeAttempts ≤ c.attempt) :
    s.endAttempt .noAnswer = s.emptyContext.retire r := by
  have applies := State.outcomeTarget_applies (o := .noAnswer) found identity (by rw [lapsed, kind]; rfl)
    (by simp [kind])
  have counted := State.putRecord_retire (r := r) (q := { r with attempts := c.attempt }) rfl rfl s.emptyContext
  rw [State.endAttempt_applied context applies, ← counted]
  simp only [State.applyOutcome, kind]
  exact if_neg (Nat.not_lt.mpr limit)

/-- A failed sweep probe. -/
theorem State.endAttempt_lapses {s : State} {c : ProbeContext} {r : Record} (context : s.prober.context = some c)
    (found : s.recordAt c.target = some r) (identity : r.identity = c.identity) (bound : r.state = .bound)
    (unpinned : r.pinned = false) (kind : c.kind = .sweep) :
    s.endAttempt .noAnswer = s.emptyContext.lapseRecord r := by
  have applies := State.outcomeTarget_applies (o := .noAnswer) found identity (by rw [bound, kind]; rfl)
    fun _ _ => unpinned
  rw [State.endAttempt_applied context applies]
  simp only [State.applyOutcome, kind]

/-- The outcome of an unanswered probe is discarded and the target put nowhere, R94: the record is gone, has another
identity or is in neither state, or a sweep probe's record is pinned. -/
theorem State.endAttempt_unheeded {s : State} {c : ProbeContext} (context : s.prober.context = some c)
    (fails : (s.recordAt c.target).all (fun r => r.identity != c.identity
      || (r.state != c.kind.expected && r.state != .lapsed)
      || (c.kind == .sweep && r.pinned && r.state == .bound)) = true) :
    s.endAttempt .noAnswer = s.emptyContext := by
  have states (r : Record) (found : s.recordAt c.target = some r) (identity : r.identity = c.identity) :
      (r.state ≠ c.kind.expected ∧ r.state ≠ .lapsed) ∨ (c.kind = .sweep ∧ r.pinned = true) ∧ r.state = .bound := by
    simpa [found, identity] using fails
  have discarded : s.outcomeTarget c .noAnswer = none :=
    State.outcomeTarget_discarded fun r found identity expected => by
      rcases states r found identity with ⟨other, -⟩ | ⟨⟨sweep, pinned⟩, -⟩
      · exact absurd expected other
      · exact ⟨sweep, rfl, pinned⟩
  rw [State.endAttempt_discarded context discarded]
  refine State.placeDiscarded_nowhere fun r found identity => ?_
  rcases states r found identity with ⟨-, other⟩ | ⟨-, bound⟩
  · exact other
  · simp [bound]

/-! ## What each case leaves of the blocks -/

/-- A record retired, R14, R15 and R26. -/
theorem State.retire_fields (r : Record) (s : State) :
    s.retire r = { s with
      directory := { s.directory with
        records := removeRecord r.address s.directory.records,
        lapseList := s.directory.lapseList.filter (fun b => b != r.address),
        marks := setMark r.address (Mark.move .removed (s.markOf r.address)) s.directory.marks },
      pool := s.poolRetired r,
      groups := struck r.address s.groups } := by
  rw [State.retire, State.endRecord_eq, State.returnAddress_quarantineTail]
  rfl

/-- A record that lapses with no probe in flight goes to the lapse list tail, R21 and R44. -/
theorem State.lapseRecord_listed {s : State} (r : Record) (idle : s.prober.context = none) :
    s.lapseRecord r = { s with directory := { s.directory with
      records := replaceRecord r.lapsedNow s.directory.records,
      lapseList := s.directory.lapseList ++ [r.address],
      marks := setMark r.address (Mark.move .altered (s.markOf r.address)) s.directory.marks } } := by
  have untargeted : s.isTarget r = false := by simp [State.isTarget, idle]
  rw [State.lapseRecord_eq, untargeted]
  rfl

/-! ## PROBE_WAIT_EXPIRY, R93 -/

theorem exec_probeWaitExpiry_runs {s : State} {c : ProbeContext} {n : Nat} (context : s.prober.context = some c)
    (phase : c.phase = .waiting n) : exec .probeWaitExpiry s = .next (s.endAttempt .noAnswer) := by
  have expired : execProbeWaitExpiry s = .next (s.endAttempt .noAnswer) := by
    simp only [execProbeWaitExpiry, context, phase]
  exact expired

theorem exec_probeWaitExpiry_idle {s : State} (idle : s.prober.context.all (fun c => c.phase == .queued) = true) :
    exec .probeWaitExpiry s = .next s := by
  have still : execProbeWaitExpiry s = .next s := by
    cases context : s.prober.context with
    | none => simp only [execProbeWaitExpiry, context]
    | some c =>
      have queued : c.phase = .queued := by simpa [context] using idle
      simp only [execProbeWaitExpiry, context, queued]
  exact still

/-- Settles O27, by the cases of the outcome. -/
theorem probeWithoutAnswerCountsLapsesOrRetires : Obligations.ProbeWithoutAnswerCountsLapsesOrRetires := by
  refine ⟨?counts, ?retires, ?lapses, ?unheeded, ?relists, fun s => exec_probeWaitExpiry_idle⟩
  case counts =>
    intro s c n r context phase found identity lapsed kind below
    rw [exec_probeWaitExpiry_runs context phase, State.endAttempt_counts context found identity lapsed kind below]
    exact ⟨_, rfl, rfl, rfl, rfl, rfl⟩
  case retires =>
    intro s c n r context phase found identity lapsed kind limit
    rw [exec_probeWaitExpiry_runs context phase, State.endAttempt_retires context found identity lapsed kind limit,
      State.retire_fields]
    exact ⟨_, rfl, ⟨rfl, State.markOnly_setMark rfl, rfl, rfl⟩, rfl, rfl, rfl⟩
  case lapses =>
    intro s c n r context phase found identity bound unpinned kind
    rw [exec_probeWaitExpiry_runs context phase, State.endAttempt_lapses context found identity bound unpinned kind,
      State.lapseRecord_listed r rfl]
    exact ⟨_, rfl, rfl, rfl, rfl, State.markOnly_setMark rfl, rfl, rfl, rfl⟩
  case unheeded =>
    intro s c n context phase fails
    rw [exec_probeWaitExpiry_runs context phase, State.endAttempt_unheeded context fails]
    exact ⟨_, rfl, rfl, rfl, rfl⟩
  case relists =>
    intro s c n r context phase found identity lapsed kind
    rw [exec_probeWaitExpiry_runs context phase, State.endAttempt_relists _ context found identity lapsed kind]
    exact ⟨_, rfl, rfl, rfl, rfl, rfl⟩

end Sys2Proof.Machine
end

section
/-! The reports of a PROBE and of a REVOKE (R91, R151, R161), an echo difference (R149) and the grant of a waiting claim
(R150). -/

namespace Sys2Proof.Machine

/-! ## The free entry, R150 -/

theorem exec_waitingClaimGranted (s : State) : exec .waitingClaimGranted s = .next s.grantWaiting := rfl

/-- When an entry leaves the queue a waiting claim takes an entry that is free. -/
theorem State.grantWaiting_freed (rest : List TxEntry) (s : State) :
    (s.setQueue { s.queue with entries := rest }).grantWaiting = s.setQueue (s.freed rest) := by
  generalize hu : s.setQueue { s.queue with entries := rest } = u
  have same : u.queue.waiting = s.queue.waiting := hu ▸ rfl
  have room : u.hasFreeEntry = true ↔ rest.length + s.queue.setAside < 8 := by
    rw [State.hasFreeEntry_iff, ← hu]
    rfl
  cases waits : s.queue.waiting with
  | none =>
    rw [State.grantWaiting_none (same.trans waits), ← hu]
    simp only [State.freed, waits]
  | some f =>
    by_cases fits : rest.length + s.queue.setAside < 8
    · rw [State.grantWaiting_granted (same.trans waits) (room.mpr fits), ← hu]
      simp only [State.freed, waits, fits, if_true]
      rfl
    · rw [State.grantWaiting_full (Bool.eq_false_iff.mpr fun free => fits (room.mp free)), ← hu]
      simp only [State.freed, waits, fits, if_false]

/-! ## The end of an attempt, R151 -/

/-- The one entry in transmission. -/
theorem State.sendingEntry_eq {s : State} {pre post : List TxEntry} {e : TxEntry}
    (entries : s.queue.entries = pre ++ e :: post) (sending : e.sending = true)
    (alone : ∀ x ∈ pre ++ post, x.sending = false) : s.sendingEntry = some e := by
  have before : pre.find? (fun x => x.sending) = none :=
    List.find?_eq_none.mpr fun x hx => by simp [alone x (List.mem_append_left _ hx)]
  rw [State.sendingEntry, entries, List.find?_append, before, Option.none_or, List.find?_cons_of_pos sending]

/-- It leaves the queue, the rest stays, and its originator is told. -/
theorem State.leaveQueue_eq {s : State} {pre post : List TxEntry} {e : TxEntry} (sent : Bool)
    (entries : s.queue.entries = pre ++ e :: post) (sending : e.sending = true)
    (alone : ∀ x ∈ pre ++ post, x.sending = false) :
    s.leaveQueue e sent = (s.setQueue (s.freed (pre ++ post))).report e.originator sent := by
  have rest : s.queue.entries.filter (fun x => !x.sending) = pre ++ post := by
    have keeps (l : List TxEntry) (h : ∀ x ∈ l, x ∈ pre ++ post) : l.filter (fun x => !x.sending) = l :=
      List.filter_eq_self.mpr fun x hx => by simp [alone x (h x hx)]
    rw [entries, List.filter_append, List.filter_cons_of_neg (by simp [sending]),
      keeps pre fun _ => List.mem_append_left _, keeps post fun _ => List.mem_append_right _]
  rw [State.leaveQueue, rest, State.grantWaiting_freed]

/-- A dominant slot, R151. -/
theorem State.settleSlot_sent (e : TxEntry) (s : State) : s.settleSlot e true = s.leaveQueue e true := rfl

/-- A recessive slot of a unicast frame counts an attempt. -/
theorem State.settleSlot_counts {e : TxEntry} (s : State) (module : e.frame.destination.toNat ≠ 0)
    (unicast : e.frame.destination.toNat ≠ 255) : s.settleSlot e false = s.countAttempt e := by
  simp [State.settleSlot, module, Config.broadcastAddress, unicast]

theorem State.countAttempt_leaves {e : TxEntry} (s : State) (last : e.lastTry = true ∨ e.limit ≤ e.used + 1) :
    s.countAttempt e = s.leaveQueue e false := by
  simp [State.countAttempt, last]

/-! ## The line and the free values are left to the row -/

/-- The state with the line and the counter of the free values given. -/
def State.onLine (l : Line) (n : Nat) (s : State) : State := { s with line := l, chance := n }

theorem State.retire_onLine (l : Line) (n : Nat) (r : Record) (s : State) :
    (s.onLine l n).retire r = (s.retire r).onLine l n := by
  rw [State.retire_fields, State.retire_fields]
  rfl

theorem State.lapseRecord_onLine (l : Line) (n : Nat) (r : Record) (s : State) :
    (s.onLine l n).lapseRecord r = (s.lapseRecord r).onLine l n := by
  rw [State.lapseRecord_eq, State.lapseRecord_eq]
  rfl

theorem State.failLapseProbe_onLine (l : Line) (n : Nat) (r : Record) (attempt : Nat) (s : State) :
    (s.onLine l n).failLapseProbe r attempt = (s.failLapseProbe r attempt).onLine l n := by
  have same : (s.onLine l n).params.probeAttempts = s.params.probeAttempts := rfl
  unfold State.failLapseProbe
  dsimp only
  rw [same]
  split
  · rfl
  · exact State.retire_onLine l n _ (s.putRecord _)

theorem State.placeDiscarded_onLine (l : Line) (n : Nat) (c : ProbeContext) (s : State) :
    (s.onLine l n).placeDiscarded c = (s.placeDiscarded c).onLine l n := by
  have same : (s.onLine l n).recordAt c.target = s.recordAt c.target := rfl
  unfold State.placeDiscarded
  rw [same]
  split
  · split <;> rfl
  · rfl

/-- An unanswered attempt ends in the same way whatever the line and the free values are. -/
theorem State.endAttempt_onLine (l : Line) (n : Nat) (s : State) :
    (s.onLine l n).endAttempt .noAnswer = (s.endAttempt .noAnswer).onLine l n := by
  cases context : s.prober.context with
  | none => simp only [State.endAttempt, context, State.onLine]
  | some c =>
    have context' : (s.onLine l n).prober.context = some c := context
    cases target : s.outcomeTarget c .noAnswer with
    | none =>
      rw [State.endAttempt_discarded context target, State.endAttempt_discarded context' target]
      exact State.placeDiscarded_onLine l n c s.emptyContext
    | some r =>
      rw [State.endAttempt_applied context target, State.endAttempt_applied context' target]
      unfold State.applyOutcome
      cases c.kind with
      | lapse => exact State.failLapseProbe_onLine l n r c.attempt s.emptyContext
      | sweep => exact State.lapseRecord_onLine l n r s.emptyContext

theorem State.report_onLine (l : Line) (n : Nat) (o : Originator) (sent : Bool) (s : State) :
    (s.onLine l n).report o sent = (s.report o sent).onLine l n := by
  cases o with
  | prober live =>
    cases live with
    | false => rfl
    | true =>
      cases context : s.prober.context with
      | none => simp only [State.report, State.onLine, context]
      | some c =>
        have context' : (s.onLine l n).prober.context = some c := context
        simp only [State.report, context, context']
        split
        · split
          · rfl
          · exact State.endAttempt_onLine l n s
        · rfl
  | command live => cases live <;> rfl
  | joinUnit | reply | stray | dispute | censusUnit => rfl

theorem State.grantWaiting_onLine (l : Line) (n : Nat) (s : State) :
    (s.onLine l n).grantWaiting = s.grantWaiting.onLine l n := by
  have same : (s.onLine l n).queue.waiting = s.queue.waiting := rfl
  have room : (s.onLine l n).hasFreeEntry = s.hasFreeEntry := rfl
  cases waits : s.queue.waiting with
  | none => rw [State.grantWaiting_none waits, State.grantWaiting_none (same.trans waits)]
  | some f =>
    cases free : s.hasFreeEntry with
    | false => rw [State.grantWaiting_full free, State.grantWaiting_full (room.trans free)]
    | true =>
      rw [State.grantWaiting_granted waits free, State.grantWaiting_granted (same.trans waits) (room.trans free)]
      rfl

theorem State.leaveQueue_onLine (l : Line) (n : Nat) (e : TxEntry) (sent : Bool) (s : State) :
    (s.onLine l n).leaveQueue e sent = (s.leaveQueue e sent).onLine l n := by
  rw [State.leaveQueue, State.leaveQueue, ← State.report_onLine, ← State.grantWaiting_onLine]
  rfl

theorem State.settleSlot_onLine (l : Line) (n : Nat) (e : TxEntry) (dominant : Bool) (s : State) :
    (s.onLine l n).settleSlot e dominant = (s.settleSlot e dominant).onLine l n := by
  unfold State.settleSlot State.countAttempt
  dsimp only
  split
  · exact State.leaveQueue_onLine ..
  · split
    · exact State.leaveQueue_onLine ..
    · rfl

/-! ## The two rows -/

/-- ACKNOWLEDGE_SLOT settles the attempt and sets the line. -/
theorem exec_acknowledgeSlot_sending {s : State} {e : TxEntry} (sending : s.sendingEntry = some e) (dominant : Bool) :
    ∃ l, exec (.acknowledgeSlot dominant) s = .next ((s.settleSlot e dominant).onLine l s.chance) := by
  have settled : execAcknowledgeSlot dominant s =
      .next (((s.enterPhase .afterFrame).runsOf (e.frame.wholeBits e.check !dominant)).settleSlot e dominant) := by
    simp only [execAcknowledgeSlot, sending]
  exact ⟨_, settled.trans (congrArg Host.Outcome.next (State.settleSlot_onLine _ s.chance e dominant s))⟩

/-- ECHO_DIFFERENCE does what a recessive slot of a unicast frame does, the line apart. -/
theorem exec_echoDifference_sending {s : State} {e : TxEntry} (sending : s.sendingEntry = some e)
    (module : e.frame.destination.toNat ≠ 0) (unicast : e.frame.destination.toNat ≠ 255) :
    ∃ l, exec .echoDifference s = .next ((s.settleSlot e false).onLine l (s.chance + 1)) ∧ l.phase = .stopped
      ∧ l.state = s.line.state ∧ l.bitRate = s.line.bitRate ∧ l.segmentEnd = s.line.segmentEnd
      ∧ l.foreign = s.line.foreign := by
  have counted : execEchoDifference s =
      .next (((s.enterPhase .stopped).runsDrawn (s.bitsToDifference e)).countAttempt e) := by
    simp only [execEchoDifference, sending]
  rw [← State.settleSlot_counts _ module unicast] at counted
  exact ⟨_, counted.trans (congrArg Host.Outcome.next (State.settleSlot_onLine _ (s.chance + 1) e false s)), rfl, rfl,
    rfl, rfl, rfl⟩

/-! ## The reports -/

/-- What ends an attempt at the acknowledge slot, R151: a dominant slot, the last try or the limit. -/
theorem exec_acknowledgeSlot_reports {s : State} {pre post : List TxEntry} {e : TxEntry} {dominant : Bool}
    (entries : s.queue.entries = pre ++ e :: post) (sending : e.sending = true)
    (alone : ∀ x ∈ pre ++ post, x.sending = false) (module : e.frame.destination.toNat ≠ 0)
    (unicast : e.frame.destination.toNat ≠ 255) (ends : dominant = true ∨ e.lastTry = true ∨ e.limit ≤ e.used + 1) :
    ∃ l, exec (.acknowledgeSlot dominant) s =
      .next (((s.setQueue (s.freed (pre ++ post))).report e.originator dominant).onLine l s.chance) := by
  have left : s.settleSlot e dominant = s.leaveQueue e dominant := by
    cases dominant with
    | true => exact State.settleSlot_sent e s
    | false =>
      rw [State.settleSlot_counts s module unicast, State.countAttempt_leaves s (ends.resolve_left Bool.false_ne_true)]
  rw [← State.leaveQueue_eq dominant entries sending alone, ← left]
  exact exec_acknowledgeSlot_sending (State.sendingEntry_eq entries sending alone) dominant

/-- An undelivered PROBE ends the attempt without an answer, R91. -/
theorem State.report_undelivered {s : State} {c : ProbeContext} (context : s.prober.context = some c)
    (queued : c.phase = .queued) : s.report (.prober true) false = s.endAttempt .noAnswer := by
  simp [State.report, context, queued]

/-- A delivered one starts the probe wait. -/
theorem State.report_delivered {s : State} {c : ProbeContext} (context : s.prober.context = some c)
    (queued : c.phase = .queued) : s.report (.prober true) true =
      s.setProber { s.prober with context := some { c with phase := .waiting s.params.probeWait } } := by
  simp [State.report, context, queued]

theorem exec_acknowledgeSlot_undelivered {s : State} {pre post : List TxEntry} {e : TxEntry} {c : ProbeContext}
    (entries : s.queue.entries = pre ++ e :: post) (sending : e.sending = true)
    (alone : ∀ x ∈ pre ++ post, x.sending = false) (probe : e.originator = .prober true)
    (module : e.frame.destination.toNat ≠ 0) (unicast : e.frame.destination.toNat ≠ 255)
    (limit : e.limit ≤ e.used + 1) (context : s.prober.context = some c) (queued : c.phase = .queued) :
    ∃ l, exec (.acknowledgeSlot false) s =
      .next (((s.setQueue (s.freed (pre ++ post))).endAttempt .noAnswer).onLine l s.chance) := by
  have context' : (s.setQueue (s.freed (pre ++ post))).prober.context = some c := context
  rw [← State.report_undelivered context' queued, ← probe]
  exact exec_acknowledgeSlot_reports entries sending alone module unicast (.inr (.inr limit))

/-- Settles O37, by the originator told, and for a PROBE by the cases of its outcome. -/
theorem reportsReachTheProberAndTheCommand : Obligations.ReportsReachTheProberAndTheCommand := by
  refine ⟨?delivered, ?counts, ?command, ?granted, ?waits, ?retires, ?lapses, ?unheeded, ?relists, ?echo⟩
  case delivered =>
    intro s pre e post c entries sending alone probe module unicast context queued
    obtain ⟨l, reported⟩ :=
      exec_acknowledgeSlot_reports (dominant := true) entries sending alone module unicast (.inl rfl)
    have context' : (s.setQueue (s.freed (pre ++ post))).prober.context = some c := context
    rw [reported, probe, State.report_delivered context' queued]
    exact ⟨_, rfl, rfl, rfl, rfl⟩
  case counts =>
    intro s pre e post c r entries sending alone probe module unicast limit context queued found identity lapsed kind
      below
    obtain ⟨l, reported⟩ :=
      exec_acknowledgeSlot_undelivered entries sending alone probe module unicast limit context queued
    have counted := State.endAttempt_counts (s := s.setQueue (s.freed (pre ++ post))) context found identity lapsed
      kind below
    rw [reported, counted]
    exact ⟨_, rfl, rfl, rfl, rfl, rfl⟩
  case command =>
    intro s pre e post dominant entries sending alone command module unicast ends
    obtain ⟨l, reported⟩ := exec_acknowledgeSlot_reports entries sending alone module unicast ends
    rw [reported, command]
    cases dominant <;> exact ⟨_, rfl, rfl, rfl, rfl⟩
  case granted =>
    intro s v waits free
    rw [exec_waitingClaimGranted, State.grantWaiting_granted waits free]
    rfl
  case waits =>
    rintro s (unasked | full)
    · rw [exec_waitingClaimGranted, State.grantWaiting_none unasked]
    · rw [exec_waitingClaimGranted, State.grantWaiting_full full]
  case retires =>
    intro s pre e post c r entries sending alone probe module unicast limit context queued found identity lapsed kind
      last
    obtain ⟨l, reported⟩ :=
      exec_acknowledgeSlot_undelivered entries sending alone probe module unicast limit context queued
    have retired := State.endAttempt_retires (s := s.setQueue (s.freed (pre ++ post))) context found identity lapsed
      kind last
    rw [reported, retired, State.retire_fields]
    exact ⟨_, rfl, ⟨rfl, State.markOnly_setMark rfl, rfl, rfl⟩, rfl, rfl, rfl⟩
  case lapses =>
    intro s pre e post c r entries sending alone probe module unicast limit context queued found identity bound unpinned
      kind
    obtain ⟨l, reported⟩ :=
      exec_acknowledgeSlot_undelivered entries sending alone probe module unicast limit context queued
    have lapsed := State.endAttempt_lapses (s := s.setQueue (s.freed (pre ++ post))) context found identity bound
      unpinned kind
    rw [reported, lapsed, State.lapseRecord_listed r rfl]
    exact ⟨_, rfl, rfl, rfl, rfl, State.markOnly_setMark rfl, rfl, rfl, rfl⟩
  case unheeded =>
    intro s pre e post c entries sending alone probe module unicast limit context queued fails
    obtain ⟨l, reported⟩ :=
      exec_acknowledgeSlot_undelivered entries sending alone probe module unicast limit context queued
    have unheeded := State.endAttempt_unheeded (s := s.setQueue (s.freed (pre ++ post))) context fails
    rw [reported, unheeded]
    exact ⟨_, rfl, rfl, rfl, rfl⟩
  case relists =>
    intro s pre e post c r entries sending alone probe module unicast limit context queued found identity lapsed kind
    obtain ⟨l, reported⟩ :=
      exec_acknowledgeSlot_undelivered entries sending alone probe module unicast limit context queued
    have relisted := State.endAttempt_relists (s := s.setQueue (s.freed (pre ++ post))) .noAnswer context found identity
      lapsed kind
    rw [reported, relisted]
    exact ⟨_, rfl, rfl, rfl, rfl, rfl⟩
  case echo =>
    intro s pre e post u entries sending alone module unicast answered
    have one := State.sendingEntry_eq entries sending alone
    obtain ⟨l, settled⟩ := exec_acknowledgeSlot_sending one false
    obtain ⟨l', echoed, stopped, state, rate, segmentEnd, foreign⟩ := exec_echoDifference_sending one module unicast
    obtain rfl := Host.Outcome.next.inj (settled.symm.trans answered)
    exact ⟨_, echoed, stopped, state, rate, segmentEnd, foreign, rfl⟩

end Sys2Proof.Machine
end

section
/-! PROBE REPLY, R92: the heard event at its source, and the end of the attempt when that is the target address. -/

namespace Sys2Proof.Machine

/-! ## The line is left to the frame -/

/-- The end of an attempt leaves the line alone. -/
theorem State.endAttempt_line (o : ProbeOutcome) (s : State) : (s.endAttempt o).line = s.line := by
  have failed (r : Record) (k : Nat) (u : State) : (u.failLapseProbe r k).line = u.line := by
    unfold State.failLapseProbe
    dsimp only
    split
    · rfl
    · rw [State.retire_fields]
      rfl
  have renewed (r : Record) (i : Identity) (u v : State) (same : v.line = u.line) :
      (if i = r.identity then v else u.raiseDispute r (some i)).line = u.line := by
    split
    · exact same
    · exact State.raiseDispute_line ..
  unfold State.endAttempt
  split
  · rfl
  split
  · unfold State.applyOutcome
    split
    · exact renewed _ _ _ _ rfl
    · exact failed ..
    · exact renewed _ _ _ _ rfl
    · rw [State.lapseRecord_eq]
      rfl
  · unfold State.placeDiscarded
    split
    · split <;> rfl
    · rfl

theorem State.takeProbeReply_line (a : Nat) (i : Identity) (s : State) : (s.takeProbeReply a i).line = s.line := by
  unfold State.takeProbeReply
  split
  · split
    · exact State.endAttempt_line ..
    · rfl
  · rfl

/-! ## Its admission, R148 -/

/-- The frame of a PROBE REPLY, section 12.2. -/
def probeReplyFrame (p : BitVec 2) (a : Byte) (i : Identity) : Frame :=
  requestFrame .probeReply p a 0 (bytesOfIdentity i)

theorem handOver_probeReplyFrame (p : BitVec 2) (a : Byte) (i : Identity) (s : State) :
    s.handOver .probeReply (probeReplyFrame p a i) = s.takeProbeReply a.toNat i := by
  have holder : (probeReplyFrame p a i).payloadIdentity = i := identityOfBytes_bytesOfIdentity i
  rw [State.handOver, holder]
  rfl

/-- An admitted PROBE REPLY is taken by the Prober after its heard event, and the line passes its frame. -/
theorem exec_probeReply_admitted {s : State} (p : BitVec 2) {a : Byte} {i : Identity} (receives : s.Receives)
    (leased : leasable a.toNat = true) (valid : validIdentity i = true) :
    ∃ l l', exec (.probeReply p a i) s =
        .next ((((s.setLine l).heardFrom a.toNat true).takeProbeReply a.toNat i).setLine l')
      ∧ l.state = s.line.state ∧ s.LineAfter 254 true l' := by
  have holder : (probeReplyFrame p a i).payloadIdentity = i := identityOfBytes_bytesOfIdentity i
  have identity : validIdentity (probeReplyFrame p a i).payloadIdentity = true := by rw [holder, valid]
  have admitted : s.admission (probeReplyFrame p a i) = some .probeReply :=
    State.admission_requestFrame rfl leased identity fun reply => nomatch reply
  have short : (bytesOfIdentity i).length ≤ 24 := show 6 ≤ 24 by decide
  obtain ⟨l, l', received, state, after⟩ := State.receiveFrame_request receives (.inl leased) short admitted
    (handOver_probeReplyFrame p a i) (State.takeProbeReply_line a.toNat i)
  rw [State.heard_requestFrame _ _ _ _ _ leased] at received
  exact ⟨l, l', congrArg Host.Outcome.next received, state, after⟩

/-- From the target address it ends the attempt, R92. -/
theorem State.takeProbeReply_target {s : State} {c : ProbeContext} (i : Identity)
    (context : s.prober.context = some c) : s.takeProbeReply c.target i = s.endAttempt (.reply i) := by
  simp [State.takeProbeReply, context]

theorem State.takeProbeReply_other {s : State} {a : Nat} (i : Identity)
    (other : s.prober.context.all (fun c => c.target != a) = true) : s.takeProbeReply a i = s := by
  cases context : s.prober.context with
  | none => simp only [State.takeProbeReply, context]
  | some c =>
    have apart : c.target ≠ a := by simpa [context] using other
    simp only [State.takeProbeReply, context, apart, if_false]

/-- A PROBE REPLY from the target address of a BOUND or LAPSED record finds it with its quiet count reset. -/
theorem exec_probeReply_live {s : State} (p : BitVec 2) {a : Byte} {i : Identity} {r : Record} {c : ProbeContext}
    (receives : s.Receives) (leased : leasable a.toNat = true) (valid : validIdentity i = true)
    (context : s.prober.context = some c) (target : c.target = a.toNat) (found : s.recordAt a.toNat = some r)
    (live : r.state = .bound ∨ r.state = .lapsed) :
    ∃ (l l' : Line) (u : State), exec (.probeReply p a i) s = .next ((u.endAttempt (.reply i)).setLine l')
      ∧ u.prober.context = some c ∧ u.recordAt c.target = some { r with quiet := 0 }
      ∧ u.emptyContext = (s.setLine l).emptyContext.putRecord { r with quiet := 0 } ∧ l.state = s.line.state
      ∧ s.LineAfter 254 true l' := by
  obtain ⟨l, l', taken, state, after⟩ := exec_probeReply_admitted p receives leased valid
  have context' : ((s.setLine l).putRecord { r with quiet := 0 }).prober.context = some c := context
  rw [State.heardFrom_limited (s := s.setLine l) found (live.imp_right .inl), ← target,
    State.takeProbeReply_target i context'] at taken
  exact ⟨l, l', _, taken, context', State.recordAt_putQuiet (target ▸ found), rfl, state, after⟩

/-- A heard event leaves the Prober alone. -/
theorem State.heardState_prober (s : State) (a : Nat) (renews : Bool) (beside : Nat) :
    (s.heardState a renews beside).prober = s.prober := by
  unfold State.heardState
  split <;> rfl

/-- Without passive renewal it leaves the lapse list alone. -/
theorem State.heardState_lapseList (s : State) (a beside : Nat) :
    (s.heardState a false beside).directory.lapseList = s.directory.lapseList := by
  unfold State.heardState
  split <;> rfl

/-- Where the source is the target, the attempt ends on what a heard event without passive renewal leaves. -/
theorem exec_probeReply_heard {s : State} (p : BitVec 2) {a : Byte} {i : Identity} {c : ProbeContext}
    (receives : s.Receives) (leased : leasable a.toNat = true) (valid : validIdentity i = true)
    (context : s.prober.context = some c) (target : c.target = a.toNat) (placed : s.Placed) :
    ∃ l l', exec (.probeReply p a i) s =
        .next ((((s.heardState a.toNat false 0).setLine l).endAttempt (.reply i)).setLine l')
      ∧ ((s.heardState a.toNat false 0).setLine l).prober.context = some c ∧ s.LineAfter 254 true l' := by
  obtain ⟨l, l', taken, state, after⟩ := exec_probeReply_admitted p receives leased valid
  have context' : ((s.heardState a.toNat false 0).setLine l).prober.context = some c := by
    rw [State.setLine_prober, State.heardState_prober, context]
  rw [State.heardFrom_setLine placed state leased, ← target, State.takeProbeReply_target i (target ▸ context'),
    target] at taken
  exact ⟨l, l', taken, context', after⟩

/-! ## The outcome, R95 and R97 -/

/-- The recorded identity restores a LAPSED target. -/
theorem State.endAttempt_restores {s : State} {c : ProbeContext} {r : Record} (context : s.prober.context = some c)
    (found : s.recordAt c.target = some r) (identity : r.identity = c.identity) (lapsed : r.state = .lapsed)
    (kind : c.kind = .lapse) :
    s.endAttempt (.reply r.identity) = s.emptyContext.endDispute r := by
  have applies := State.outcomeTarget_applies (o := .reply r.identity) found identity (by rw [lapsed, kind]; rfl)
    (by simp)
  rw [State.endAttempt_applied context applies]
  simp only [State.applyOutcome, kind, if_true]
  rfl

/-- The restored record is the same with its quiet count reset before. -/
theorem State.endDispute_quieted (r : Record) (s : State) :
    (s.putRecord { r with quiet := 0 }).endDispute { r with quiet := 0 } = s.endDispute r :=
  State.putRecord_bindRecord (q := { r with quiet := 0 }) (r := { s.refreshed r with quiet := 0 }) rfl s

/-- It refreshes a BOUND one. -/
theorem State.endAttempt_refreshes {s : State} {c : ProbeContext} {r : Record} (context : s.prober.context = some c)
    (found : s.recordAt c.target = some r) (identity : r.identity = c.identity) (bound : r.state = .bound)
    (kind : c.kind = .sweep) :
    s.endAttempt (.reply r.identity) = s.emptyContext.putRecord { s.emptyContext.refreshed r with quiet := 0 } := by
  have applies := State.outcomeTarget_applies (o := .reply r.identity) found identity (by rw [bound, kind]; rfl)
    (by simp)
  rw [State.endAttempt_applied context applies]
  simp only [State.applyOutcome, kind, if_true]

/-- Another identity raises a dispute on either. -/
theorem State.endAttempt_disputes {s : State} {c : ProbeContext} {r : Record} {i : Identity}
    (context : s.prober.context = some c) (found : s.recordAt c.target = some r) (identity : r.identity = c.identity)
    (other : r.identity ≠ i) (expected : r.state = c.kind.expected) :
    s.endAttempt (.reply i) = s.emptyContext.raiseDispute r (some i) := by
  have applies := State.outcomeTarget_applies (o := .reply i) found identity expected (by simp)
  rw [State.endAttempt_applied context applies]
  unfold State.applyOutcome
  cases c.kind <;> exact if_neg (Ne.symm other)

/-- A dispute does not see the quiet count that was reset before. -/
theorem State.raiseDispute_quieted (r : Record) (rival : Option Identity) (s : State) :
    (s.putRecord { r with quiet := 0 }).raiseDispute { r with quiet := 0 } rival =
      s.raiseDispute { r with quiet := 0 } rival := by
  unfold State.raiseDispute
  rw [State.putRecord_enterDisputed rfl]
  rfl

/-- A claim looks at the line's state alone of the line, and at nothing of the Prober. -/
theorem State.claimed_emptyContext {s : State} {l : Line} (state : l.state = s.line.state) (o : Originator) (f : Frame)
    (beside : Nat) :
    (s.setLine l).emptyContext.claimed o f beside = State.claimed { s with queue := s.detached } o f beside := by
  have line : (s.setLine l).emptyContext.line.state = s.line.state := state
  simp only [State.claimed, line]
  rfl

/-- A reply whose outcome is discarded leaves a target that is not LAPSED where it is, R94. -/
theorem State.endAttempt_reply_unheeded {s : State} {c : ProbeContext} {a : Nat} (i : Identity)
    (context : s.prober.context = some c) (target : c.target = a)
    (fails : (s.recordAt a).all (fun r => (r.identity != c.identity || r.state != c.kind.expected)
      && (r.identity != c.identity || r.state != .lapsed)) = true) : s.endAttempt (.reply i) = s.emptyContext := by
  subst target
  have other (r : Record) (found : s.recordAt c.target = some r) (identity : r.identity = c.identity) :
      r.state ≠ c.kind.expected ∧ r.state ≠ .lapsed := by
    simpa [found, identity] using fails
  have discarded : s.outcomeTarget c (.reply i) = none :=
    State.outcomeTarget_discarded fun r found identity expected => absurd expected (other r found identity).1
  rw [State.endAttempt_discarded context discarded]
  exact State.placeDiscarded_nowhere fun r found identity => (other r found identity).2

/-- The states an outcome is expected in, R94. -/
theorem ProbeKind.expected_live {k : ProbeKind} {t : RecordState} (expected : t = k.expected) :
    t = .bound ∨ t = .lapsed := by
  cases k
  · exact .inr expected
  · exact .inl expected

/-- Settles O26, by the record found at the target. -/
theorem probeReplyEndsTheAttempt : Obligations.ProbeReplyEndsTheAttempt := by
  refine ⟨?restores, ?refreshes, ?holds, ?unheeded, ?relists, ?heard, ?revokes⟩
  case restores =>
    rintro s p a i r c receives leased valid context target found identity rfl lapsed kind
    obtain ⟨l, l', u, taken, context', quieted, emptied, -, after⟩ :=
      exec_probeReply_live p receives leased valid context target found (.inr lapsed)
    have restored := State.endAttempt_restores context' quieted identity lapsed kind
    dsimp only at restored
    rw [taken, restored, emptied, State.endDispute_quieted]
    exact ⟨_, rfl, State.alters_of_directory rfl, rfl, rfl, rfl, after⟩
  case refreshes =>
    rintro s p a i r c receives leased valid context target found identity rfl bound kind
    obtain ⟨l, l', u, taken, context', quieted, emptied, -, after⟩ :=
      exec_probeReply_live p receives leased valid context target found (.inl bound)
    have refreshed := State.endAttempt_refreshes context' quieted identity bound kind
    have twice := State.putRecord_putRecord (q := { r with quiet := 0 }) (r := { s.refreshed r with quiet := 0 }) rfl
      (s.setLine l).emptyContext
    dsimp only at refreshed
    rw [taken, refreshed, emptied]
    exact ⟨_, congrArg (fun v : State => Host.Outcome.next (v.setLine l')) twice, rfl, rfl, rfl, rfl, after⟩
  case holds =>
    rintro s p a i r c receives leased valid context target found identity other expected hold
    obtain ⟨l, l', u, taken, context', quieted, emptied, -, after⟩ :=
      exec_probeReply_live p receives leased valid context target found (ProbeKind.expected_live expected)
    rw [taken, State.endAttempt_disputes context' quieted identity other expected, emptied,
      State.raiseDispute_quieted, State.raiseDispute_hold (s := (s.setLine l).emptyContext) _ _ hold]
    exact ⟨_, rfl, State.alters_of_directory rfl, rfl, rfl, rfl, rfl, after⟩
  case unheeded =>
    rintro s p a i c _ receives leased valid context target fails placed rfl
    obtain ⟨l, l', taken, context', after⟩ := exec_probeReply_heard p receives leased valid context target placed
    have fails' := (State.view_recordAt_heardState (Option.all _) leased 0 fun _ _ => rfl).trans fails
    rw [taken, State.endAttempt_reply_unheeded i context' target fails']
    have prober := s.heardState_prober a.toNat false 0
    generalize s.heardState a.toNat false 0 = u at prober ⊢
    rw [← prober]
    exact ⟨_, rfl, rfl, after⟩
  case relists =>
    rintro s p a i r c _ receives leased valid context target found identity lapsed kind placed rfl
    obtain ⟨l, l', taken, context', after⟩ := exec_probeReply_heard p receives leased valid context target placed
    obtain ⟨-, address⟩ := State.mem_of_recordAt found
    obtain ⟨n, quiet⟩ := s.heardRecord_quiet_only r
    have heard : ((s.heardState a.toNat false 0).setLine l).recordAt c.target = some { r with quiet := n } := by
      rw [target, ← quiet]
      exact (State.recordAt_heardState leased false 0).trans (congrArg (Option.map _) found)
    rw [taken, State.endAttempt_relists _ context' heard identity lapsed kind]
    have prober := s.heardState_prober a.toNat false 0
    have lapseList := s.heardState_lapseList a.toNat 0
    generalize s.heardState a.toNat false 0 = u at prober lapseList ⊢
    rw [← prober, ← lapseList, ← address]
    exact ⟨_, rfl, rfl, after⟩
  case heard =>
    rintro s p a i _ receives leased valid other placed rfl
    obtain ⟨l, l', taken, state, after⟩ := exec_probeReply_admitted p receives leased valid
    have other' : ((s.heardState a.toNat false 0).setLine l).prober.context.all (fun c => c.target != a.toNat)
        = true := by
      rw [State.setLine_prober, State.heardState_prober, other]
    rw [taken, State.heardFrom_setLine placed state leased, State.takeProbeReply_other i other']
    exact ⟨_, rfl, rfl, after⟩
  case revokes =>
    rintro s p a i r c receives leased valid context target found identity other expected revoke
    obtain ⟨-, address⟩ := State.mem_of_recordAt found
    obtain ⟨l, l', u, taken, context', quieted, emptied, online, after⟩ :=
      exec_probeReply_live p receives leased valid context target found (ProbeKind.expected_live expected)
    rw [taken, State.endAttempt_disputes context' quieted identity other expected, emptied,
      State.raiseDispute_quieted, State.raiseDispute_revoke (s := (s.setLine l).emptyContext) _ _ revoke, ← address]
    obtain ⟨ends, frame⟩ := State.revokeDisputed_entered { r with quiet := 0 } (some i) (s.setLine l).emptyContext
    rw [State.claimed_emptyContext online] at frame
    generalize State.revokeDisputed { r with quiet := 0 } _ = v at ends frame ⊢
    rw [frame]
    exact ⟨_, rfl, ends, rfl, rfl, rfl, after⟩

end Sys2Proof.Machine
end

section
/-! SUPPORT. What leaves the Prober alone: the shared operations, the owners of the requests, the host's commands, and
the parts that the other owners take of an epoch expiry. -/

namespace Sys2Proof.Machine

/-! ## The shared operations -/

@[simp] theorem State.finish_prober (o : OutcomeCode) (s : State) : (s.finish o).prober = s.prober := rfl

@[simp] theorem State.queueReply_prober (o : Originator) (f : Frame) (s : State) :
    (s.queueReply o f).prober = s.prober := rfl

@[simp] theorem State.bindRecord_prober (r : Record) (s : State) : (s.bindRecord r).prober = s.prober := rfl

@[simp] theorem State.endRecord_prober (place : Place) (r : Record) (s : State) :
    (s.endRecord place r).prober = s.prober := by rw [State.endRecord_eq]

@[simp] theorem State.retire_prober (r : Record) (s : State) : (s.retire r).prober = s.prober :=
  State.endRecord_prober ..

@[simp] theorem State.lapseRecord_prober (r : Record) (s : State) : (s.lapseRecord r).prober = s.prober := by
  rw [State.lapseRecord_eq]

@[simp] theorem State.claimOrDrop_prober (o : Originator) (f : Frame) (s : State) :
    (s.claimOrDrop o f).prober = s.prober := by rw [State.claimOrDrop_eq]

@[simp] theorem State.raiseDispute_prober (r : Record) (rival : Option Identity) (s : State) :
    (s.raiseDispute r rival).prober = s.prober := by
  unfold State.raiseDispute
  split
  · rfl
  · rw [State.revokeDisputed_fields]
    rfl

@[simp] theorem State.fillRival_prober (r : Record) (i : Identity) (s : State) :
    (s.fillRival r i).prober = s.prober := by
  unfold State.fillRival
  split <;> rfl

@[simp] theorem State.commandRevoke_prober (f : Frame) (s : State) : (s.commandRevoke f).prober = s.prober := by
  unfold State.commandRevoke
  split
  · rfl
  · split <;> rfl

@[simp] theorem State.grantWaiting_prober (s : State) : s.grantWaiting.prober = s.prober := by
  unfold State.grantWaiting
  split
  · split <;> rfl
  · rfl

@[simp] theorem State.queueCensus_prober (s : State) : s.queueCensus.prober = s.prober := by
  unfold State.queueCensus
  dsimp only
  split
  · rfl
  · exact State.claimOrDrop_prober ..

@[simp] theorem State.beginCensus_prober (s : State) : s.beginCensus.prober = s.prober := State.queueCensus_prober _

/-! ## Heard events and requests -/

@[simp] theorem State.heard_prober (f : Frame) (s : State) : (s.heard f).prober = s.prober := by
  have stray (a : Nat) : (s.handleStray a).prober = s.prober := by
    unfold State.handleStray
    split <;> rfl
  unfold State.heard State.heardFrom
  split
  · split
    · exact stray _
    · dsimp only
      split
      · exact stray _
      · rfl
      · rfl
      · rfl
      · split <;> rfl
  · rfl

@[simp] theorem State.takeEvidence_prober (r : Record) (i : Identity) (s : State) :
    (s.takeEvidence r i).prober = s.prober := by
  unfold State.takeEvidence
  split
  · exact State.fillRival_prober ..
  · split
    · rfl
    · exact State.raiseDispute_prober ..

theorem State.refuseJoin_prober (i : Identity) (q : RefusalReason) (s : State) :
    (s.refuseJoin i q).prober = s.prober := by
  cases q <;> rfl

theorem State.joinKnown_prober (r : Record) (requested : Nat) (s : State) :
    (s.joinKnown r requested).prober = s.prober := by
  have offers (o : Origin) : (if s.countIn .offered < Config.maxOffered then s.offerAgain o r requested
      else s.refuseJoin r.identity .busy).prober = s.prober := by
    split
    · rfl
    · exact State.refuseJoin_prober ..
  have resent : (s.resendOffer r).prober = s.prober := by
    unfold State.resendOffer
    split <;> rfl
  unfold State.joinKnown
  split
  · exact offers _
  · exact offers _
  · exact offers _
  · exact resent
  · exact State.refuseJoin_prober ..

theorem State.takeJoin_prober (i : Identity) (hint requested : Nat) (s : State) :
    (s.takeJoin i hint requested).prober = s.prober := by
  unfold State.takeJoin
  split
  · exact State.refuseJoin_prober ..
  split
  · exact State.refuseJoin_prober ..
  split
  · exact State.joinKnown_prober ..
  split
  · exact State.refuseJoin_prober ..
  split
  · exact State.refuseJoin_prober ..
  split
  · rfl
  · exact State.refuseJoin_prober ..

theorem State.takeAccept_prober (a : Nat) (i : Identity) (s : State) : (s.takeAccept a i).prober = s.prober := by
  have resolved (u : State) : (u.resolveRival i).prober = u.prober :=
    List.foldlRecOn (motive := fun v : State => v.prober = u.prober) _ _ rfl fun _ same _ _ => same
  unfold State.takeAccept
  split
  · split
    · split
      · exact resolved _
      · exact State.claimOrDrop_prober ..
    · exact State.claimOrDrop_prober ..
  · exact State.claimOrDrop_prober ..

theorem State.takeRenew_prober (a : Nat) (i : Identity) (requested : Nat) (s : State) :
    (s.takeRenew a i requested).prober = s.prober := by
  have granted (r : Record) : (s.grantRenew r requested).prober = s.prober := by
    unfold State.grantRenew
    dsimp only
    split <;> rfl
  unfold State.takeRenew
  split
  · rfl
  · split
    · rfl
    · rfl
    · exact State.takeEvidence_prober ..
    all_goals
      split
      · exact granted _
      · exact State.takeEvidence_prober ..

theorem State.takeLeave_prober (a : Nat) (i : Identity) (s : State) : (s.takeLeave a i).prober = s.prober := by
  unfold State.takeLeave
  split
  · rfl
  · split
    · split <;> simp
    · split <;> simp
    · split <;> simp
    · rfl
    · rfl

theorem State.takeClashReport_prober (a : Nat) (i : Identity) (s : State) :
    (s.takeClashReport a i).prober = s.prober := by
  unfold State.takeClashReport
  split
  · rfl
  · split <;> simp

theorem State.answerGranted_prober (a term : Nat) (groups : List Nat) (s : State) :
    (s.answerGranted a term groups).prober = s.prober := by
  simp only [State.answerGranted, State.queueReply_prober]
  rw [State.addClaimGroups_frame]

theorem State.claimAgainst_prober (r : Record) (i : Identity) (term : Nat) (groups : List Nat) (s : State) :
    (s.claimAgainst r i term groups).prober = s.prober := by
  have supplanted : ((s.endRecord .passedOn r).createRecord (claimedRecord r.address i term)).prober = s.prober :=
    State.endRecord_prober ..
  unfold State.claimAgainst
  split
  · exact State.raiseDispute_prober ..
  · exact State.raiseDispute_prober ..
  · exact State.raiseDispute_prober ..
  · exact State.fillRival_prober ..
  · split
    · exact State.raiseDispute_prober ..
    · exact (State.answerGranted_prober ..).trans supplanted

theorem State.takeClaim_prober (a : Nat) (i : Identity) (requested : Nat) (groups : List Nat) (s : State) :
    (s.takeClaim a i requested groups).prober = s.prober := by
  have granted (r : Record) (term : Nat) : (s.grantClaim r term).prober = s.prober := by
    unfold State.grantClaim
    dsimp only
    split <;> rfl
  unfold State.takeClaim State.decideClaim
  dsimp only
  split
  · split
    · rfl
    split
    · split
      · rfl
      · exact State.answerGranted_prober ..
    · split
      · split
        · rfl
        · exact (State.answerGranted_prober ..).trans (granted ..)
      · exact State.claimAgainst_prober ..
  · rfl

theorem State.takeGroupJoin_prober (a g : Nat) (s : State) : (s.takeGroupJoin a g).prober = s.prober := by
  have answered (o : GroupOutcome) (u : State) : (u.answerGroup a g o).prober = u.prober := rfl
  have joined : (s.addMember g a).prober = s.prober := rfl
  simp only [State.takeGroupJoin, apply_ite State.prober, answered, joined, ite_self]

theorem State.takeGroupLeave_prober (a g : Nat) (s : State) : (s.takeGroupLeave a g).prober = s.prober := by
  unfold State.takeGroupLeave
  split <;> rfl

theorem State.takeGroupExpand_prober (a g : Nat) (s : State) : (s.takeGroupExpand a g).prober = s.prober := by
  unfold State.takeGroupExpand
  split <;> rfl

theorem State.takeResolveIdentity_prober (a : Nat) (i : Identity) (s : State) :
    (s.takeResolveIdentity a i).prober = s.prober := by
  unfold State.takeResolveIdentity
  split <;> rfl

theorem State.takeResolveAddress_prober (a b : Nat) (s : State) : (s.takeResolveAddress a b).prober = s.prober := by
  unfold State.takeResolveAddress
  split <;> rfl

/-- Of the requests, the PROBE REPLY alone reaches the Prober. -/
theorem State.handOver_prober {k : RequestKind} (other : k ≠ .probeReply) (f : Frame) (s : State) :
    (s.handOver k f).prober = s.prober := by
  cases k with
  | probeReply => exact absurd rfl other
  | join => exact State.takeJoin_prober ..
  | accept => exact State.takeAccept_prober ..
  | renew => exact State.takeRenew_prober ..
  | leave => exact State.takeLeave_prober ..
  | claim => exact State.takeClaim_prober ..
  | clashReport => exact State.takeClashReport_prober ..
  | groupJoin => exact State.takeGroupJoin_prober ..
  | groupLeave => exact State.takeGroupLeave_prober ..
  | groupExpand => exact State.takeGroupExpand_prober ..
  | resolveIdentity => exact State.takeResolveIdentity_prober ..
  | resolveAddress => exact State.takeResolveAddress_prober ..

/-! ## The host's commands -/

theorem State.reserveOne_prober (e : ReservationEntry) (s : State) : (s.reserveOne e).1.prober = s.prober := by
  unfold State.reserveOne
  split <;> rfl

theorem State.reserveAll_prober (es : List ReservationEntry) (s : State) : (s.reserveAll es).1.prober = s.prober := by
  induction es generalizing s with
  | nil => rfl
  | cons e es ih => exact (ih _).trans (State.reserveOne_prober e s)

theorem State.loadReservations_prober (s : State) : s.loadReservations.prober = s.prober := by
  unfold State.loadReservations
  dsimp only
  split
  · have run := State.reserveAll_prober ((List.range (s.p 0)).map (reservationAt s.port.buffer)) s
    generalize s.reserveAll ((List.range (s.p 0)).map (reservationAt s.port.buffer)) = t at run ⊢
    exact run
  · rfl

/-- A command on the record at an address, where its action on a record leaves the Prober alone. -/
theorem State.withRecord_prober {body : Record → State → State}
    (acts : ∀ (r : Record) (u : State), (body r u).prober = u.prober) (s : State) :
    (s.withRecord body).prober = s.prober := by
  unfold State.withRecord
  split
  · split
    · exact acts ..
    · rfl
  · rfl

theorem State.releaseRecord_prober (r : Record) (s : State) : (s.releaseRecord r).prober = s.prober := by
  unfold State.releaseRecord
  split <;> simp

theorem State.evictRecord_prober (r : Record) (s : State) : (s.evictRecord r).prober = s.prober := by
  unfold State.evictRecord
  split
  · rfl
  · split <;> simp
  · simp
  · simp
  · simp

theorem State.pinRecord_prober (r : Record) (s : State) : (s.pinRecord r).prober = s.prober := by
  unfold State.pinRecord
  split
  · rfl
  split
  · rfl
  split <;> rfl

theorem State.unpinRecord_prober (r : Record) (s : State) : (s.unpinRecord r).prober = s.prober := by
  unfold State.unpinRecord
  split
  · rfl
  split <;> rfl

theorem State.award_prober (s : State) : s.award.prober = s.prober := by
  have recorded (r : Record) : (s.awardRecorded r).prober = s.prober := by
    unfold State.awardRecorded
    dsimp only
    split
    · exact State.commandRevoke_prober ..
    · rfl
  have rival (r : Record) (i : Identity) : (s.awardRival r i).prober = s.prober := State.commandRevoke_prober ..
  unfold State.award
  split
  · rfl
  split
  · rfl
  split
  · rfl
  split
  · exact recorded _
  split
  · rfl
  split
  · rfl
  · exact rival ..

theorem State.setParameter_prober (s : State) : s.setParameter.prober = s.prober := by
  unfold State.setParameter
  dsimp only
  split
  · split <;> rfl
  · split <;> rfl

theorem State.startCensus_prober (s : State) : s.startCensus.prober = s.prober := by
  unfold State.startCensus
  split <;> simp

theorem State.endCensus_prober (s : State) : s.endCensus.prober = s.prober := by
  unfold State.endCensus
  split <;> rfl

theorem State.groupAssign_prober (s : State) : s.groupAssign.prober = s.prober := by
  have joined : (s.addMember (s.p 0) (s.p 1)).prober = s.prober := rfl
  simp only [State.groupAssign, apply_ite State.prober, State.finish_prober, joined, ite_self]

theorem State.groupRemove_prober (s : State) : s.groupRemove.prober = s.prober := by
  have left : (s.removeMember (s.p 0) (s.p 1)).prober = s.prober := rfl
  simp only [State.groupRemove, apply_ite State.prober, State.finish_prober, left, ite_self]

theorem State.readGroup_prober (s : State) : s.readGroup.prober = s.prober := by
  unfold State.readGroup
  dsimp only
  split <;> rfl

theorem State.setGroupMode_prober (s : State) : s.setGroupMode.prober = s.prober := by
  unfold State.setGroupMode
  dsimp only
  split
  · split <;> rfl
  · rfl

theorem State.clearGroup_prober (s : State) : s.clearGroup.prober = s.prober := by
  have noted (l : List Nat) (u : State) : (l.foldl (fun t a => t.note .altered a) u).prober = u.prober :=
    List.foldlRecOn (motive := fun v : State => v.prober = u.prober) _ _ rfl fun _ same _ _ => same
  unfold State.clearGroup
  dsimp only
  split
  · exact noted ..
  · rfl

theorem State.changeLine_prober (new : LineState) (s : State) : (s.changeLine new).prober = s.prober := by
  unfold State.changeLine
  dsimp only
  split <;> rfl

theorem State.lineEnable_prober (s : State) : s.lineEnable.prober = s.prober := by
  unfold State.lineEnable
  split
  · exact State.changeLine_prober ..
  · rfl

theorem State.setBitRate_prober (s : State) : s.setBitRate.prober = s.prober := by
  simp only [State.setBitRate, apply_ite State.prober, State.finish_prober, State.setLine_prober, ite_self]

theorem State.readRecord_prober (s : State) : s.readRecord.prober = s.prober := by
  unfold State.readRecord
  dsimp only
  split
  · rfl
  · split <;> rfl

theorem State.readDirectory_prober (s : State) : s.readDirectory.prober = s.prober := by
  unfold State.readDirectory
  dsimp only
  split <;> rfl

/-! ## The port and the line -/

theorem State.writeBufferByte_prober (data : Byte) (s : State) : (s.writeBufferByte data).prober = s.prober := by
  unfold State.writeBufferByte
  split <;> rfl

theorem State.readWindowByte_prober (offset : Nat) (s : State) : (s.readWindowByte offset).prober = s.prober := by
  rw [State.readWindowByte_frame]

theorem State.censusOnline_prober (s : State) : s.censusOnline.prober = s.prober := by
  unfold State.censusOnline
  split
  · exact State.beginCensus_prober _
  split
  · exact State.queueCensus_prober s
  · rfl

theorem State.passFrame_prober (f : Frame) (s : State) : (s.passFrame f).prober = s.prober := by
  rw [State.passFrame_frame]

theorem State.endFrame_prober (f : Frame) (check : Half) (s : State) : (s.endFrame f check).prober = s.prober := by
  rw [State.endFrame_frame]

theorem State.stopAtLength_prober (f : Frame) (s : State) : (s.stopAtLength f).prober = s.prober := by
  rw [State.stopAtLength_frame]

theorem State.stopReception_prober (s : State) : s.stopReception.prober = s.prober := by
  rw [State.stopReception_frame]

/-! ## Parts of an epoch expiry -/

theorem State.directoryPart_prober (s : State) : s.directoryPart.prober = s.prober := by
  rw [State.directoryPart, State.countHolds_eq, foldl_revokeDisputed, State.ageTerms, foldl_lapseRecord]
  rfl

theorem State.censusPart_prober (s : State) : s.censusPart.prober = s.prober := by rw [State.censusPart_frame]

/-! ## The end of an attempt -/

theorem State.applyOutcome_prober (c : ProbeContext) (o : ProbeOutcome) (r : Record) (s : State) :
    (s.applyOutcome c o r).prober = s.prober := by
  have failed : (s.failLapseProbe r c.attempt).prober = s.prober := by
    unfold State.failLapseProbe
    dsimp only
    split
    · rfl
    · exact State.retire_prober ..
  unfold State.applyOutcome
  split
  · split <;> simp
  · exact failed
  · split
    · rfl
    · exact State.raiseDispute_prober ..
  · exact State.lapseRecord_prober ..

theorem State.placeDiscarded_prober (c : ProbeContext) (s : State) : (s.placeDiscarded c).prober = s.prober := by
  unfold State.placeDiscarded
  split
  · split <;> rfl
  · rfl

end Sys2Proof.Machine
end

section
/-! The law of the Prober (R88, R101, R103) under every step: what writes the probe context or the sweep context, and
that it writes one in form. -/

namespace Sys2Proof.Machine

/-! ## Writing a context -/

theorem State.Probing.congr {s t : State} (h : s.Probing) (same : t.prober = s.prober) : t.Probing := by
  unfold State.Probing
  rwa [same]

theorem State.Probing.aimed {s t : State} {c : Option ProbeContext} (h : s.Probing)
    (fits : c.all ProbeContext.fits = true) (written : t.prober = { s.prober with context := c }) : t.Probing := by
  obtain ⟨-, sweep⟩ := h
  unfold State.Probing
  rw [written]
  exact ⟨fits, sweep⟩

theorem State.Probing.swept {s t : State} {w : Option Sweep} (h : s.Probing) (fits : w.all Sweep.fits = true)
    (written : t.prober = { s.prober with sweep := w }) : t.Probing := by
  obtain ⟨context, -⟩ := h
  unfold State.Probing
  rw [written]
  exact ⟨context, fits⟩

theorem State.Probing.setQueue {s : State} (h : s.Probing) (q : TxQueue) : (s.setQueue q).Probing := h.congr rfl

theorem State.Probing.setPort {s : State} (h : s.Probing) (p : Port) : (s.setPort p).Probing := h.congr rfl

/-- The context emptied, R91. -/
theorem State.Probing.emptied {s t : State} (h : s.Probing) (written : t.prober = { s.prober with context := none }) :
    t.Probing := h.aimed (c := none) rfl written

theorem State.Probing.context_fits {s : State} {c : ProbeContext} (h : s.Probing)
    (context : s.prober.context = some c) : c.fits = true := by
  obtain ⟨fits, -⟩ := h
  simpa [context] using fits

theorem State.Probing.sweep_fits {s : State} {w : Sweep} (h : s.Probing) (sweep : s.prober.sweep = some w) :
    w.fits = true := by
  obtain ⟨-, fits⟩ := h
  simpa [sweep] using fits

/-! ## Probe contexts, R88 -/

/-- A context in use, its kind and its phase apart. -/
theorem ProbeContext.fits_iff {c : ProbeContext} : c.fits = true ↔
    leasable c.target = true ∧ validIdentity c.identity = true ∧ 1 ≤ c.attempt ∧ c.attempt ≤ 7
      ∧ (c.kind = .sweep → c.attempt = 1) ∧ ∀ n, c.phase = .waiting n → n ≤ 255 := by
  obtain ⟨target, identity, kind, attempt, phase⟩ := c
  cases kind with
  | lapse => cases phase <;> simp [ProbeContext.fits, and_assoc]
  | sweep => cases phase <;> simp [ProbeContext.fits, and_assoc] <;> omega

/-- A PROBE sent begins the probe wait. -/
theorem ProbeContext.waiting_fits {c : ProbeContext} {n : Nat} (fits : c.fits = true) (wait : n ≤ 255) :
    ({ c with phase := .waiting n } : ProbeContext).fits = true := by
  obtain ⟨target, identity, least, most, once, -⟩ := ProbeContext.fits_iff.mp fits
  exact ProbeContext.fits_iff.mpr ⟨target, identity, least, most, once, fun m h => ProbePhase.waiting.inj h ▸ wait⟩

theorem ProbeContext.waited_fits {c : ProbeContext} (fits : c.fits = true) : c.waited.fits = true := by
  unfold ProbeContext.waited
  split
  · next n phase =>
    obtain ⟨-, -, -, -, -, wait⟩ := ProbeContext.fits_iff.mp fits
    exact ProbeContext.waiting_fits fits ((Nat.sub_le n 1).trans (wait n phase))
  · exact fits

/-- A record that the Prober may take as its target, on any of its attempts. -/
def Record.Probeable (r : Record) : Prop :=
  leasable r.address = true ∧ validIdentity r.identity = true ∧ r.attempts ≤ 6

theorem Record.attempts_of_shaped {r : Record} (shaped : r.shaped = true) : r.attempts ≤ 6 := by
  unfold Record.shaped at shaped
  split at shaped
  case h_6 => exact nomatch shaped
  all_goals
    simp only [Bool.and_eq_true, beq_iff_eq, decide_eq_true_eq] at shaped
    omega

/-- Under the laws of the addresses, the identities and the fields any record may be probed. -/
theorem State.probeable {s : State} (placed : s.Placed) (identified : s.Identified) (shaped : s.Shaped) :
    ∀ r ∈ s.directory.records, r.Probeable := fun r mem => by
  obtain ⟨-, named⟩ := identified
  obtain ⟨valid, -⟩ := named r mem
  obtain ⟨fields, -⟩ := shaped r mem
  exact ⟨placed.leasable_of_mem mem, valid, Record.attempts_of_shaped fields⟩

/-! ## Sweep contexts, R101 and R103 -/

theorem Sweep.fits_iff {w : Sweep} : w.fits = true ↔
    leasable w.first = true ∧ leasable w.last = true ∧ w.first ≤ w.cursor ∧ w.cursor ≤ w.last + 1 ∧ w.first ≤ w.last
      ∧ w.threshold ≤ 255 ∧ w.passes ≤ 65535
      ∧ (w.scanning = true ∨ w.mode = .continuous ∧ w.cursor = w.first) := by
  simp [Sweep.fits, and_assoc]

/-- The cursor moves past the candidate taken, R102. -/
theorem Sweep.advance_fits {w : Sweep} {r : Record} (fits : w.fits = true) (scanning : w.scanning = true)
    (candidate : w.candidate r = true) : ({ w with cursor := r.address + 1 } : Sweep).fits = true := by
  obtain ⟨first, last, low, -, ordered, threshold, passes, -⟩ := Sweep.fits_iff.mp fits
  simp only [Sweep.candidate, Bool.and_eq_true, decide_eq_true_eq] at candidate
  exact Sweep.fits_iff.mpr ⟨first, last, by dsimp only; omega, by dsimp only; omega, ordered, threshold, passes,
    .inl scanning⟩

/-- A CONTINUOUS sweep waits at its first address after a pass, R103. -/
theorem Sweep.waits_fits {w : Sweep} (fits : w.fits = true) (mode : w.mode = .continuous) :
    ({ w with scanning := false, cursor := w.first, passes := (w.passes + 1) % 65536 } : Sweep).fits = true := by
  obtain ⟨first, last, -, -, ordered, threshold, -, -⟩ := Sweep.fits_iff.mp fits
  exact Sweep.fits_iff.mpr ⟨first, last, Nat.le_refl _, Nat.le_succ_of_le ordered, ordered, threshold,
    Nat.le_of_lt_succ (Nat.mod_lt _ (by decide)), .inr ⟨mode, rfl⟩⟩

/-- It scans again, R103. -/
theorem Sweep.scans_fits {w : Sweep} (fits : w.fits = true) : ({ w with scanning := true } : Sweep).fits = true := by
  obtain ⟨first, last, low, high, ordered, threshold, passes, -⟩ := Sweep.fits_iff.mp fits
  exact Sweep.fits_iff.mpr ⟨first, last, low, high, ordered, threshold, passes, .inl rfl⟩

/-- The operands of Start Sweep give a sweep in form, R101. -/
theorem newSweep_fits {first last threshold : Nat} (mode : SweepMode) (notice : SweepNotice)
    (lowest : leasable first = true) (highest : leasable last = true) (ordered : first ≤ last)
    (byte : threshold ≤ 255) : (newSweep first last mode notice threshold).fits = true :=
  Sweep.fits_iff.mpr ⟨lowest, highest, Nat.le_refl _, Nat.le_succ_of_le ordered, ordered, byte, Nat.zero_le _, .inl rfl⟩

/-! ## The Prober's own operations -/

/-- However an attempt ends, the context is empty afterwards. -/
theorem State.endAttempt_prober (o : ProbeOutcome) (s : State) :
    (s.endAttempt o).prober = { s.prober with context := none } := by
  cases context : s.prober.context with
  | none =>
    simp only [State.endAttempt, context]
    rw [← context]
  | some c =>
    cases target : s.outcomeTarget c o with
    | none => rw [State.endAttempt_discarded context target, State.placeDiscarded_prober]; rfl
    | some r => rw [State.endAttempt_applied context target, State.applyOutcome_prober]; rfl

theorem State.discardContext_prober (s : State) : s.discardContext.prober = { s.prober with context := none } := by
  unfold State.discardContext
  split
  · next context => rw [← context]
  · split
    · split <;> rfl
    · rfl

theorem State.Probing.endAttempt {s : State} (h : s.Probing) (o : ProbeOutcome) : (s.endAttempt o).Probing :=
  h.emptied (State.endAttempt_prober o s)

theorem State.Probing.takeProbeReply {s : State} (h : s.Probing) (a : Nat) (i : Identity) :
    (s.takeProbeReply a i).Probing := by
  unfold State.takeProbeReply
  split
  · split
    · exact h.endAttempt _
    · exact h
  · exact h

/-- A target is taken from a record that may be probed. -/
theorem State.Probing.takeTarget {s : State} {r : Record} {kind : ProbeKind} {attempt : Nat} (h : s.Probing)
    (probeable : r.Probeable) (least : 1 ≤ attempt) (most : attempt ≤ 7) (once : kind = .sweep → attempt = 1) :
    (s.takeTarget r kind attempt).Probing := by
  obtain ⟨leased, valid, -⟩ := probeable
  exact h.aimed (c := some { target := r.address, identity := r.identity, kind := kind, attempt := attempt,
                             phase := .queued })
    (ProbeContext.fits_iff.mpr ⟨leased, valid, least, most, once, fun _ waits => nomatch waits⟩) rfl

theorem State.Probing.sweepOn {s : State} {w : Sweep} (h : s.Probing)
    (probeable : ∀ r ∈ s.directory.records, r.Probeable) (sweep : s.prober.sweep = some w)
    (scanning : w.scanning = true) : (s.sweepOn w).Probing := by
  have fits := h.sweep_fits sweep
  unfold State.sweepOn
  split
  · next r found =>
    have advanced : (s.setProber { s.prober with sweep := some { w with cursor := r.address + 1 } }).Probing :=
      h.swept (w := some _) (Sweep.advance_fits fits scanning (List.find?_some found)) rfl
    exact advanced.takeTarget (probeable r (List.mem_of_find?_eq_some found)) (Nat.le_refl _) (by decide) fun _ => rfl
  · rw [State.endPass_eq]
    refine h.swept ?_ rfl
    split
    · rfl
    · next more =>
      cases mode : w.mode with
      | once => exact absurd mode more
      | continuous => exact mode ▸ Sweep.waits_fits fits mode

theorem State.Probing.choose {s : State} (h : s.Probing) (probeable : ∀ r ∈ s.directory.records, r.Probeable) :
    s.choose.Probing := by
  unfold State.choose
  split
  · next a rest list =>
    split
    · next r found =>
      have candidate := probeable r (State.mem_of_recordAt found).1
      have ⟨_, _, few⟩ := candidate
      have dropped : (s.dropLapse a).Probing := h.congr rfl
      exact dropped.takeTarget candidate (Nat.le_add_left 1 _) (Nat.succ_le_succ few) fun sweep => nomatch sweep
    · exact h
  · split
    · next w sweep =>
      split
      · next may =>
        obtain ⟨scanning, -⟩ := Bool.and_eq_true_iff.mp may
        exact h.sweepOn probeable sweep scanning
      · exact h
    · exact h

theorem State.Probing.startSweep {s : State} (h : s.Probing) : s.startSweep.Probing := by
  unfold State.startSweep
  split
  · next m n _ _ =>
    split
    · next operands =>
      simp only [Bool.and_eq_true, decide_eq_true_eq] at operands
      obtain ⟨⟨lowest, highest⟩, ordered⟩ := operands
      exact h.swept (w := some _)
        (newSweep_fits m n lowest highest ordered (Nat.le_of_lt_succ (s.port.parameters.getD 4 0).isLt)) rfl
    · exact h.congr rfl
  · exact h.congr rfl

/-! ## Reports and the ends of a send attempt, R91 -/

theorem State.Probing.report {s : State} (h : s.Probing) (wait : s.params.probeWait ≤ 255) (o : Originator)
    (sent : Bool) : (s.report o sent).Probing := by
  unfold State.report
  split
  · split
    · next c context =>
      split
      · split
        · exact h.aimed (c := some _) (ProbeContext.waiting_fits (h.context_fits context) wait) rfl
        · exact h.endAttempt _
      · exact h
    · exact h
  · exact h.congr rfl
  all_goals exact h

theorem State.grantWaiting_params (s : State) : s.grantWaiting.params = s.params := by
  unfold State.grantWaiting
  split
  · split <;> rfl
  · rfl

theorem State.Probing.grantWaiting {s : State} (h : s.Probing) : s.grantWaiting.Probing := h.congr s.grantWaiting_prober

theorem State.Probing.leaveQueue {s : State} (h : s.Probing) (wait : s.params.probeWait ≤ 255) (e : TxEntry)
    (sent : Bool) : (s.leaveQueue e sent).Probing := by
  unfold State.leaveQueue
  refine (h.setQueue _).grantWaiting.report ?_ _ _
  rwa [State.grantWaiting_params]

theorem State.Probing.countAttempt {s : State} (h : s.Probing) (wait : s.params.probeWait ≤ 255) (e : TxEntry) :
    (s.countAttempt e).Probing := by
  unfold State.countAttempt
  split
  · exact h.leaveQueue wait _ _
  · exact h.congr rfl

theorem State.Probing.settleSlot {s : State} (h : s.Probing) (wait : s.params.probeWait ≤ 255) (e : TxEntry)
    (dominant : Bool) : (s.settleSlot e dominant).Probing := by
  unfold State.settleSlot
  dsimp only
  split
  · exact h.leaveQueue wait _ _
  · exact h.countAttempt wait _

theorem State.Probing.cutOff {s : State} (h : s.Probing) (wait : s.params.probeWait ≤ 255) : s.cutOff.Probing := by
  unfold State.cutOff
  split
  · exact h.countAttempt wait _
  · exact h

/-! ## The epoch expiry and time -/

theorem State.Probing.partOf {s : State} (h : s.Probing) (o : EpochOwner) : (s.partOf o).Probing := by
  cases o with
  | leaseDirectory => exact h.congr (State.directoryPart_prober s)
  | addressPool => exact h.congr rfl
  | censusUnit => exact h.congr (State.censusPart_prober s)
  | prober =>
    simp only [State.partOf, State.proberPart]
    split
    · next w sweep =>
      split
      · exact h.swept (w := some _) (Sweep.scans_fits (h.sweep_fits sweep)) rfl
      · exact h
    · exact h

theorem State.Probing.takePart {s : State} (h : s.Probing) (o : EpochOwner) : (s.takePart o).Probing := by
  unfold State.takePart
  split
  · exact h
  · exact (h.partOf o).congr rfl

theorem State.Probing.expire {s : State} (h : s.Probing) (order : List EpochOwner) : (s.expire order).Probing := by
  have parts : (s.takeParts order).Probing := List.foldlRecOn _ _ h fun _ probing o _ => probing.takePart o
  exact parts.congr rfl

theorem State.Probing.finishExpiry {s : State} (h : s.Probing) : s.finishExpiry.Probing := by
  unfold State.finishExpiry
  split
  · exact h.expire []
  · exact h

theorem State.finishExpiry_params (s : State) : s.finishExpiry.params = s.params := by
  unfold State.finishExpiry
  split
  · exact (expire_beside [] s).params
  · rfl

theorem State.Probing.tick {s : State} (h : s.Probing) : s.tick.Probing := by
  have written : s.tick.prober = { s.prober with context := s.prober.context.map ProbeContext.waited } := by
    rw [State.tick, State.countBits_frame]
  refine h.aimed ?_ written
  cases context : s.prober.context with
  | none => rfl
  | some c => exact ProbeContext.waited_fits (h.context_fits context)

/-! ## Reception -/

theorem State.Probing.handOver {s : State} (h : s.Probing) (k : RequestKind) (f : Frame) :
    (s.handOver k f).Probing := by
  by_cases reply : k = .probeReply
  · subst reply
    exact h.takeProbeReply _ _
  · exact h.congr (State.handOver_prober reply f s)

theorem State.Probing.takeFrame {s : State} (h : s.Probing) (f : Frame) : (s.takeFrame f).Probing := by
  unfold State.takeFrame
  split
  · exact h.congr rfl
  split
  · exact h.congr (State.heard_prober f s)
  · next k _ =>
    dsimp only
    refine State.Probing.congr (s := State.handOver k f _) (State.Probing.handOver ?_ k f) rfl
    split
    · exact h.congr (State.heard_prober f _)
    · exact h.congr (State.heard_prober f s)

theorem State.Probing.receiveFrame {s : State} (h : s.Probing) (f : Frame) : (s.receiveFrame f).Probing := by
  unfold State.receiveFrame
  split
  · exact h
  split
  · exact h.congr (State.stopAtLength_prober f s)
  · have passed : (s.passFrame f).Probing := h.congr (State.passFrame_prober f s)
    exact (passed.takeFrame f).congr (State.endFrame_prober f f.check _)

theorem State.Probing.receiveInvalid {s : State} (h : s.Probing) (cause : InvalidReception) :
    (s.receiveInvalid cause).Probing := by
  have stopped := s.stopReception_prober
  unfold State.receiveInvalid
  split
  · exact h
  split
  · exact h.congr stopped
  · split
    · exact h.congr stopped
    · exact h
  · next f check =>
    split
    · exact h.receiveFrame f
    split
    · exact h.congr (State.stopAtLength_prober f s)
    · have passed : ((s.passFrame f).setAcknowledged false).Probing :=
        h.congr (State.passFrame_prober f s)
      exact passed.congr (State.endFrame_prober f check _)

/-! ## The host's commands -/

theorem State.Probing.lineDisable {s : State} (h : s.Probing) : s.lineDisable.Probing := by
  have discarded : s.finishExpiry.purgeAll.discardContext.Probing :=
    (h.finishExpiry.congr (t := s.finishExpiry.purgeAll) rfl).emptied (State.discardContext_prober _)
  unfold State.lineDisable
  generalize s.finishExpiry.purgeAll.discardContext = u at discarded ⊢
  exact discarded.congr (State.changeLine_prober .disabled u)

theorem State.Probing.body {s : State} (h : s.Probing) (code : Nat) : (commandBody code s).Probing := by
  unfold commandBody
  split
  · exact h.congr s.setParameter_prober
  · exact h.congr rfl
  · exact h.congr rfl
  · exact h.congr rfl
  · exact h.congr (State.reserveOne_prober _ s)
  · exact h.congr s.loadReservations_prober
  · exact h.congr (State.withRecord_prober State.releaseRecord_prober s)
  · exact ⟨rfl, rfl⟩
  · exact h.congr (State.withRecord_prober State.evictRecord_prober s)
  · exact h.congr (State.withRecord_prober State.pinRecord_prober s)
  · exact h.congr (State.withRecord_prober State.unpinRecord_prober s)
  · exact h.congr s.award_prober
  · exact h.congr s.startCensus_prober
  · exact h.congr s.endCensus_prober
  · exact h.startSweep
  · exact h.swept (w := none) rfl rfl
  · exact h.congr s.groupAssign_prober
  · exact h.congr s.groupRemove_prober
  · exact h.congr s.readGroup_prober
  · exact h.congr s.setGroupMode_prober
  · exact h.congr s.clearGroup_prober
  · exact h.congr s.lineEnable_prober
  · exact h.lineDisable
  · exact h.congr s.setBitRate_prober
  · exact h.congr s.readRecord_prober
  · exact h.congr s.readDirectory_prober
  · exact h.congr rfl
  · exact h.congr rfl
  · exact h.congr rfl
  · exact h.congr rfl

theorem State.Probing.takeCode {s : State} (h : s.Probing) (code : Byte) :
    (s.takeCommand code (commandBody code.toNat)).Probing := by
  unfold State.takeCommand
  split
  · exact h.congr rfl
  · exact (h.setPort _).body code.toNat

theorem State.Probing.writeCode {s : State} (h : s.Probing) (code : Byte) : (s.writeCode code).Probing := by
  unfold State.writeCode
  split
  · exact h.congr rfl
  · exact h.takeCode code

theorem State.Probing.transaction {s : State} (h : s.Probing) (header : Byte) (data : List Byte) :
    (s.transaction header data).Probing := by
  unfold State.transaction
  split
  · unfold State.windowWrite
    split
    · exact h
    split
    · exact h.congr rfl
    split
    · exact h.writeCode _
    split
    · exact h.congr rfl
    split
    · unfold State.writePointer
      split
      · exact h
      · exact h.congr rfl
    split
    · exact List.foldlRecOn _ _ h fun u probing b _ => probing.congr (u.writeBufferByte_prober b)
    · exact h
  · exact List.foldlRecOn _ _ h fun u probing _ _ => probing.congr (u.readWindowByte_prober _)

/-! ## Every command and every step -/

/-- What a command answers has its Prober in form. -/
def AnswersProbing (o : Host.Outcome State Fault Refusal) : Prop := ∀ t, o = .next t → t.Probing

theorem State.Probing.answers {t : State} (h : t.Probing) : AnswersProbing (.next t) := fun _ e =>
  Host.Outcome.next.inj e ▸ h

/-- A command that leaves the Prober alone. -/
theorem State.Probing.unmoved {s t : State} (h : s.Probing) (same : t.prober = s.prober) : AnswersProbing (.next t) :=
  (h.congr same).answers

section Rows

variable {s : State}

theorem State.Probing.execTransmitBegin (h : s.Probing) : AnswersProbing (execTransmitBegin s) := by
  unfold Machine.execTransmitBegin
  split
  · split
    · exact h.unmoved rfl
    · exact h.answers
  · exact h.answers

theorem State.Probing.execArbitrationLost (h : s.Probing) (wait : s.params.probeWait ≤ 255) :
    AnswersProbing (execArbitrationLost s) := by
  unfold Machine.execArbitrationLost
  split
  · next e _ =>
    refine State.Probing.answers ?_
    have received : ((s.enterPhase .receiving).runsDrawn (s.bitsToLoss e.frame)).Probing := h.congr rfl
    split
    · exact received.leaveQueue wait _ _
    · exact received.setQueue _
  · exact h.answers

theorem State.Probing.execEchoDifference (h : s.Probing) (wait : s.params.probeWait ≤ 255) :
    AnswersProbing (execEchoDifference s) := by
  unfold Machine.execEchoDifference
  split
  · next e _ =>
    have stopped : ((s.enterPhase .stopped).runsDrawn (s.bitsToDifference e)).Probing := h.congr rfl
    exact (stopped.countAttempt wait e).answers
  · exact h.answers

theorem State.Probing.execAcknowledgeSlot (h : s.Probing) (wait : s.params.probeWait ≤ 255) (dominant : Bool) :
    AnswersProbing (execAcknowledgeSlot dominant s) := by
  unfold Machine.execAcknowledgeSlot
  split
  · next e _ =>
    have ended : ((s.enterPhase .afterFrame).runsOf (e.frame.wholeBits e.check !dominant)).Probing := h.congr rfl
    exact (ended.settleSlot wait e dominant).answers
  · exact h.answers

theorem State.Probing.execLineOnline (h : s.Probing) : AnswersProbing (execLineOnline s) := by
  unfold Machine.execLineOnline
  split
  · exact h.unmoved ((State.censusOnline_prober _).trans (State.changeLine_prober .online s))
  · exact h.answers

theorem State.Probing.execLineFault (h : s.Probing) (wait : s.params.probeWait ≤ 255) :
    AnswersProbing (execLineFault s) := by
  unfold Machine.execLineFault
  split
  · have cut := h.finishExpiry.cutOff (s.finishExpiry_params ▸ wait)
    generalize s.finishExpiry.cutOff = u at cut ⊢
    exact cut.unmoved (u.changeLine_prober .fault)
  · exact h.answers

theorem State.Probing.execFaultRecovery (h : s.Probing) : AnswersProbing (execFaultRecovery s) := by
  unfold Machine.execFaultRecovery
  split
  · exact h.unmoved (State.changeLine_prober .settling s)
  · exact h.answers

theorem State.Probing.execEpochExpiry (h : s.Probing) (order : List EpochOwner) :
    AnswersProbing (execEpochExpiry order s) := by
  unfold Machine.execEpochExpiry
  split
  · exact (h.expire order).answers
  · exact h.answers

theorem State.Probing.execOfferWaitExpiry (h : s.Probing) (address : Byte) :
    AnswersProbing (execOfferWaitExpiry address s) := by
  have expired (r : Record) (o : OfferContext) : (s.expireOffer r o).prober = s.prober := by
    unfold State.expireOffer
    split
    · exact State.endRecord_prober ..
    · rfl
    · split <;> simp
  unfold Machine.execOfferWaitExpiry
  split
  · split
    · refine State.Probing.answers ?_
      split
      · exact h.congr (expired ..)
      · exact h
    · exact h.answers
  · exact h.answers

theorem State.Probing.execProbeWaitExpiry (h : s.Probing) : AnswersProbing (execProbeWaitExpiry s) := by
  unfold Machine.execProbeWaitExpiry
  split
  · split
    · exact (h.endAttempt _).answers
    · exact h.answers
  · exact h.answers

theorem State.Probing.execProbeChoose (h : s.Probing) (probeable : ∀ r ∈ s.directory.records, r.Probeable) :
    AnswersProbing (execProbeChoose s) := by
  refine State.Probing.answers ?_
  split
  · exact h.choose probeable
  · exact h

/-- The rows that name what comes about inside an expiry run their owner's part, or nothing. -/
theorem State.Probing.row (h : s.Probing) {a : Byte} {o : EpochOwner} {c : Instr} (row : RowOf a c o) :
    AnswersProbing (exec c s) := by
  rcases exec_row_cases row s with idle | ⟨-, part⟩
  · rw [idle]
    exact h.answers
  · rw [part]
    exact (h.takePart o).answers

theorem State.Probing.execLineIdle (h : s.Probing) : AnswersProbing (execLineIdle s) := by
  unfold Machine.execLineIdle
  split
  · exact h.unmoved rfl
  · exact h.answers

theorem State.Probing.execStartMarkReceived (h : s.Probing) : AnswersProbing (execStartMarkReceived s) := by
  unfold Machine.execStartMarkReceived
  split
  · exact h.unmoved rfl
  · exact h.answers

theorem State.Probing.execDestinationFieldRead (h : s.Probing) (destination : Byte) :
    AnswersProbing (execDestinationFieldRead destination s) := by
  unfold Machine.execDestinationFieldRead
  split
  · have read : (s.readDestination destination.toNat).prober = s.prober := by rw [State.readDestination_frame]
    exact h.unmoved read
  · exact h.answers

end Rows

theorem State.Probing.exec {s : State} (h : s.Probing) (probeable : ∀ r ∈ s.directory.records, r.Probeable)
    (wait : s.params.probeWait ≤ 255) (c : Instr) : AnswersProbing (exec c s) := by
  have host (code : Byte) : AnswersProbing (.next (s.takeCommand code (commandBody code.toNat))) :=
    (h.takeCode code).answers
  have received (f : Frame) : AnswersProbing (.next (s.receiveFrame f)) := (h.receiveFrame f).answers
  cases c with
  | partReset f g a e => exact State.Probing.answers ⟨rfl, rfl⟩
  | frameInvalid cause => exact (h.receiveInvalid cause).answers
  | frameHeard | foreignDirectoryFrame | join | accept | renew | leave | clashReport | probeReply | resolveIdentity
  | resolveAddress | claim | groupJoin | groupLeave | groupExpand => exact received _
  | transmitBegin => exact h.execTransmitBegin
  | arbitrationLost => exact h.execArbitrationLost wait
  | echoDifference => exact h.execEchoDifference wait
  | acknowledgeSlot dominant => exact h.execAcknowledgeSlot wait dominant
  | waitingClaimGranted => exact h.grantWaiting.answers
  | lineOnline => exact h.execLineOnline
  | lineFault => exact h.execLineFault wait
  | faultRecovery => exact h.execFaultRecovery
  | epochExpiry order => exact h.execEpochExpiry order
  | lapse address => exact h.row (a := address) (o := .leaseDirectory) (.inl rfl)
  | disputeHoldExpiry address => exact h.row (a := address) (o := .leaseDirectory) (.inr rfl)
  | quarantineHoldExpiry => exact h.row (a := 0) (o := .addressPool) rfl
  | censusWindowEnd => exact h.row (a := 0) (o := .censusUnit) rfl
  | offerWaitExpiry address => exact h.execOfferWaitExpiry address
  | probeWaitExpiry => exact h.execProbeWaitExpiry
  | probeChoose => exact h.execProbeChoose probeable
  | setParameter => exact host 0x01
  | readParameters => exact host 0x02
  | readSummary => exact host 0x03
  | acknowledgeAttention => exact host 0x04
  | reserve => exact host 0x10
  | loadReservations => exact host 0x11
  | releaseReservation => exact host 0x12
  | clearDirectory => exact host 0x20
  | evict => exact host 0x21
  | pin => exact host 0x22
  | unpin => exact host 0x23
  | award => exact host 0x24
  | startCensus => exact host 0x30
  | endCensus => exact host 0x31
  | startSweep => exact host 0x32
  | stopSweep => exact host 0x33
  | groupAssign => exact host 0x40
  | groupRemove => exact host 0x41
  | readGroup => exact host 0x42
  | setGroupMode => exact host 0x43
  | clearGroup => exact host 0x44
  | lineEnable => exact host 0x50
  | lineDisable => exact host 0x51
  | setBitRate => exact host 0x52
  | readRecord => exact host 0x60
  | readDirectory => exact host 0x61
  | collectChanges => exact host 0x62
  | readFreeList => exact host 0x63
  | readQuarantine => exact host 0x64
  | portRestart => exact h.unmoved rfl
  | badCommand code => exact (h.writeCode code).answers
  | commandWriteWhileBusy code => exact (h.writeCode code).answers
  | bufferDataRead => exact h.unmoved rfl
  | bufferDataWrite data => exact h.unmoved (s.writeBufferByte_prober data)
  | attentionEnablesWrite data => exact h.unmoved rfl
  | registerWrite header data => exact (h.transaction header data).answers
  | lineIdle => exact h.execLineIdle
  | startMarkReceived => exact h.execStartMarkReceived
  | destinationFieldRead destination => exact h.execDestinationFieldRead destination

/-- Settles O16: any record may be probed, the probe wait is in its range, and every command and 5 ms of time keep the
two contexts in form. -/
theorem proberStaysInForm : Obligations.ProberStaysInForm := by
  intro s t placed identified shaped ranged probing stepped
  have probeable := State.probeable placed identified shaped
  have wait : s.params.probeWait ≤ 255 := by
    simp only [State.Ranged, Params.inRange, Bool.and_eq_true, decide_eq_true_eq] at ranged
    omega
  unfold step at stepped
  split at stepped
  · next c rest _ =>
    have taken : State.Probing { s with pending := rest } := probing.congr rfl
    exact taken.exec probeable wait c t stepped
  · exact probing.tick.answers t stepped

end Sys2Proof.Machine
end

section
/-! CLASH REPORT, R107: evidence from its source, raising a dispute under either policy (R108 to R110) or filling an
absent rival. -/

namespace Sys2Proof.Machine

/-! ## Taking a CLASH REPORT, R107 -/

/-- The rival that a CLASH REPORT names: the reporter, unless it is the holder. -/
def Record.clashRival (r : Record) (i : Identity) : Option Identity := if r.identity = i then none else some i

theorem State.takeClashReport_disputes {s : State} {a : Nat} {r : Record} (i : Identity)
    (found : s.recordAt a = some r) (live : r.state = .bound ∨ r.state = .lapsed) :
    s.takeClashReport a i = s.raiseDispute r (r.clashRival i) := by
  rcases live with state | state <;> simp only [State.takeClashReport, found, state, Record.clashRival]

theorem State.takeClashReport_disputed {s : State} {a : Nat} {r : Record} (i : Identity)
    (found : s.recordAt a = some r) (state : r.state = .disputed) : s.takeClashReport a i = s.fillRival r i := by
  simp only [State.takeClashReport, found, state]

/-- A CLASH REPORT adds nothing to a record that is RESERVED or OFFERED, or DISPUTED with its rival named or by the
report of the recorded identity. -/
def Record.ignoresClash (i : Identity) (r : Record) : Bool :=
  r.state == .reserved || r.state == .offered || r.settledFor i

theorem State.takeClashReport_ignored {s : State} {a : Nat} {i : Identity}
    (ignored : (s.recordAt a).all (Record.ignoresClash i) = true) : s.takeClashReport a i = s := by
  cases found : s.recordAt a with
  | none => simp only [State.takeClashReport, found]
  | some r =>
    cases state : r.state with
    | reserved | offered => simp only [State.takeClashReport, found, state]
    | bound | lapsed => simp [Record.ignoresClash, Record.settledFor, found, state] at ignored
    | disputed =>
      have known : r.identity = i ∨ r.rival.isSome = true := by
        simpa [Record.ignoresClash, Record.settledFor, found, state] using ignored
      rw [State.takeClashReport_disputed i found state, State.fillRival, if_pos known]

theorem State.takeClashReport_line (a : Nat) (i : Identity) (s : State) : (s.takeClashReport a i).line = s.line := by
  unfold State.takeClashReport
  split
  · rfl
  split
  · exact State.raiseDispute_line ..
  · exact State.raiseDispute_line ..
  · exact State.fillRival_line ..
  · rfl
  · rfl

/-! ## Its admission, R148 -/

/-- The frame of a CLASH REPORT, section 12.2. -/
def clashReportFrame (p : BitVec 2) (a : Byte) (i : Identity) : Frame :=
  requestFrame .clashReport p a 0 (bytesOfIdentity i)

theorem handOver_clashReportFrame (p : BitVec 2) (a : Byte) (i : Identity) (s : State) :
    s.handOver .clashReport (clashReportFrame p a i) = s.takeClashReport a.toNat i := by
  have holder : (clashReportFrame p a i).payloadIdentity = i := identityOfBytes_bytesOfIdentity i
  rw [State.handOver, holder]
  rfl

/-- An admitted CLASH REPORT is taken by the Lease Directory after its heard event; no place is set aside for an
answer. -/
theorem exec_clashReport_admitted {s : State} (p : BitVec 2) {a : Byte} {i : Identity} (receives : s.Receives)
    (leased : leasable a.toNat = true) (valid : validIdentity i = true) :
    ∃ l l', exec (.clashReport p a i) s =
        .next ((((s.setLine l).heardFrom a.toNat true).takeClashReport a.toNat i).setLine l')
      ∧ l.state = s.line.state ∧ s.LineAfter 254 true l' := by
  have reporter : (clashReportFrame p a i).payloadIdentity = i := identityOfBytes_bytesOfIdentity i
  have identity : validIdentity (clashReportFrame p a i).payloadIdentity = true := by rw [reporter, valid]
  have admitted : s.admission (clashReportFrame p a i) = some .clashReport :=
    State.admission_requestFrame rfl leased identity fun reply => nomatch reply
  have short : (bytesOfIdentity i).length ≤ 24 := show 6 ≤ 24 by decide
  obtain ⟨l, l', received, state, after⟩ := State.receiveFrame_request receives (.inl leased) short admitted
    (handOver_clashReportFrame p a i) (State.takeClashReport_line a.toNat i)
  rw [State.heard_requestFrame _ _ _ _ _ leased] at received
  exact ⟨l, l', congrArg Host.Outcome.next received, state, after⟩

/-- From the address of a BOUND, LAPSED or DISPUTED record it finds that record with its quiet count reset. -/
theorem exec_clashReport_live {s : State} (p : BitVec 2) {a : Byte} {i : Identity} {r : Record} (receives : s.Receives)
    (leased : leasable a.toNat = true) (valid : validIdentity i = true) (found : s.recordAt a.toNat = some r)
    (live : r.state = .bound ∨ r.state = .lapsed ∨ r.state = .disputed) :
    ∃ l l' u, exec (.clashReport p a i) s = .next ((u.takeClashReport a.toNat i).setLine l')
      ∧ u = (s.setLine l).putRecord { r with quiet := 0 } ∧ u.recordAt a.toNat = some { r with quiet := 0 }
      ∧ l.state = s.line.state ∧ s.LineAfter 254 true l' := by
  obtain ⟨l, l', taken, state, after⟩ := exec_clashReport_admitted p receives leased valid
  rw [State.heardFrom_limited (s := s.setLine l) found live] at taken
  exact ⟨l, l', _, taken, rfl, State.recordAt_putQuiet found, state, after⟩

/-- On a BOUND or LAPSED record it raises the dispute as if the heard event had not been. -/
theorem exec_clashReport_disputes {s : State} (p : BitVec 2) {a : Byte} {i : Identity} {r : Record}
    (receives : s.Receives) (leased : leasable a.toNat = true) (valid : validIdentity i = true)
    (found : s.recordAt a.toNat = some r) (live : r.state = .bound ∨ r.state = .lapsed) :
    ∃ l l', exec (.clashReport p a i) s =
        .next (((s.setLine l).raiseDispute { r with quiet := 0 } (r.clashRival i)).setLine l')
      ∧ l.state = s.line.state ∧ s.LineAfter 254 true l' := by
  obtain ⟨l, l', u, taken, rfl, quieted, state, after⟩ :=
    exec_clashReport_live p receives leased valid found (live.imp_right .inl)
  rw [State.takeClashReport_disputes i quieted live, State.raiseDispute_quieted] at taken
  exact ⟨l, l', taken, state, after⟩

/-! ## The evidence, R106 and R110 -/

/-- Evidence fills an absent rival in a record whose quiet count was reset before. -/
theorem State.fillRival_quieted {r : Record} {i : Identity} (s : State) (other : r.identity ≠ i)
    (empty : r.rival = none) :
    (s.putRecord { r with quiet := 0 }).fillRival { r with quiet := 0 } i =
      (s.putRecord { r with rival := some i, quiet := 0 }).note .altered r.address := by
  rw [State.fillRival_fills (r := { r with quiet := 0 }) _ other empty]
  exact congrArg (State.note .altered r.address)
    (State.putRecord_putRecord (q := { r with quiet := 0 }) (r := { r with rival := some i, quiet := 0 }) rfl s)

/-- A claim looks at the line's state alone of the line. -/
theorem State.claimed_setLine {s : State} {l : Line} (state : l.state = s.line.state) (o : Originator) (f : Frame)
    (beside : Nat) : (s.setLine l).claimed o f beside = s.claimed o f beside := by
  simp only [State.claimed, State.setLine_line, state]
  rfl

/-- Settles O25, by the record at the source and, where the dispute is raised, by the policy. -/
theorem clashReportIsEvidence : Obligations.ClashReportIsEvidence := by
  refine ⟨?held, ?revoked, ?ignored, ?filled⟩
  case held =>
    rintro s p a i r receives leased valid found live hold
    obtain ⟨l, l', taken, -, after⟩ := exec_clashReport_disputes p receives leased valid found live
    rw [taken, State.raiseDispute_hold (s := s.setLine l) _ _ hold]
    exact ⟨_, rfl, State.alters_of_directory rfl, rfl, rfl, after⟩
  case revoked =>
    rintro s p a i r receives leased valid found live revoke
    obtain ⟨-, address⟩ := State.mem_of_recordAt found
    obtain ⟨l, l', taken, online, after⟩ := exec_clashReport_disputes p receives leased valid found live
    obtain ⟨ends, frame⟩ := State.revokeDisputed_entered { r with quiet := 0 } (r.clashRival i) (s.setLine l)
    rw [State.claimed_setLine online] at frame
    rw [taken, State.raiseDispute_revoke (s := s.setLine l) _ _ revoke, ← address]
    generalize State.revokeDisputed { r with quiet := 0 } _ = v at ends frame ⊢
    rw [frame]
    exact ⟨_, rfl, ends, rfl, rfl, after⟩
  case ignored =>
    rintro s p a i _ receives leased valid ignored placed rfl
    obtain ⟨l, l', taken, online, after⟩ := exec_clashReport_admitted p receives leased valid
    have ignored' : (((s.heardState a.toNat false 0).setLine l).recordAt a.toNat).all (Record.ignoresClash i) = true :=
      (State.view_recordAt_heardState (Option.all _) leased 0 fun _ _ => rfl).trans ignored
    rw [taken, State.heardFrom_setLine placed online leased, State.takeClashReport_ignored ignored']
    exact ⟨_, rfl, rfl, after⟩
  case filled =>
    rintro s p a i r receives leased valid found state other empty
    obtain ⟨-, address⟩ := State.mem_of_recordAt found
    obtain ⟨l, l', u, taken, rfl, quieted, -, after⟩ :=
      exec_clashReport_live p receives leased valid found (.inr (.inr state))
    rw [taken, State.takeClashReport_disputed i quieted state, State.fillRival_quieted _ other empty, ← address]
    exact ⟨_, rfl, rfl, State.markOnly_setMark rfl, rfl, after⟩

end Sys2Proof.Machine
end

section
/-! Award, R112 to R115: the checks, the record that becomes BOUND for the party named, and the REVOKE of the other. -/

namespace Sys2Proof.Machine

theorem exec_award (s : State) : exec .award s = .next (s.takeCommand 0x24 State.award) := rfl

/-! ## The checks, R112 -/

/-- A check that fails is all there is of the command. -/
theorem State.award_refused {s : State} (refused : s.awardOutcome (s.p 0) (s.p 1) ≠ .ok) :
    s.award = s.finish (s.awardOutcome (s.p 0) (s.p 1)) := by
  unfold State.awardOutcome at refused ⊢
  unfold State.award
  by_cases operands : leasable (s.p 0) = false ∨ 1 < s.p 1
  · have bad : (!leasable (s.p 0) || decide (1 < s.p 1)) = true := by simpa using operands
    rw [if_pos bad, if_pos operands]
  have good : ¬ (!leasable (s.p 0) || decide (1 < s.p 1)) = true := by simpa using operands
  rw [if_neg good, if_neg operands]
  rw [if_neg operands] at refused
  cases found : s.recordAt (s.p 0) with
  | none => rfl
  | some r =>
    obtain ⟨-, address⟩ := State.mem_of_recordAt found
    simp only [found] at refused ⊢
    by_cases state : r.state = .disputed
    · by_cases recorded : s.p 1 = 0
      · simp [state, recorded] at refused
      cases rival : r.rival with
      | none => simp [state, recorded]
      | some i =>
        simp only [state, recorded, rival, address, ne_eq, not_true_eq_false, if_false] at refused ⊢
        by_cases elsewhere : (s.recordOf i).any (fun q => q.address != s.p 0) = true
        · rw [if_pos elsewhere, if_pos elsewhere]
        · exact absurd (if_neg elsewhere) refused
    · rw [if_pos state, if_pos state]

/-- Award to the recorded identity passes the checks on any DISPUTED record. -/
theorem State.award_recorded {s : State} {r : Record} (leased : leasable (s.p 0) = true)
    (found : s.recordAt (s.p 0) = some r) (state : r.state = .disputed) (choice : s.p 1 = 0) :
    s.award = s.awardRecorded r := by
  simp [State.award, leased, found, state, choice]

/-- Award to the rival passes them where the rival is recorded at no other address. -/
theorem State.award_rival {s : State} {r : Record} {i : Identity} (leased : leasable (s.p 0) = true)
    (found : s.recordAt (s.p 0) = some r) (state : r.state = .disputed) (choice : s.p 1 = 1) (rival : r.rival = some i)
    (nowhereElse : (s.recordOf i).all (fun q => q.address == r.address) = true) : s.award = s.awardRival r i := by
  have free : (s.recordOf i).any (fun q => q.address != r.address) = false := by
    cases held : s.recordOf i with
    | none => rfl
    | some q => simpa [held] using nowhereElse
  simp [State.award, leased, found, state, choice, rival, free]

/-! ## The award, R113 and R114 -/

/-- The recorded identity has been given the address. -/
def State.awardedRecorded (r : Record) (s : State) : State := s.bindRecord { s.refreshed r with quiet := 0 }

/-- The rival has been given the address. -/
def State.awardedRival (r : Record) (i : Identity) (s : State) : State :=
  (s.strike r.address).bindRecord
    { r with identity := i, pinned := false, term := s.grantTerm 0, granted := some (s.grantTerm 0), quiet := 0 }

theorem State.awardRecorded_alone {r : Record} (s : State) (alone : r.rival = none) :
    s.awardRecorded r = (s.awardedRecorded r).finish .ok := by
  rw [State.awardRecorded, alone]
  rfl

theorem State.awardRecorded_revokes {r : Record} {i : Identity} (s : State) (rival : r.rival = some i) :
    s.awardRecorded r = (s.awardedRecorded r).commandRevoke (targetedRevoke r.address i) := by
  rw [State.awardRecorded, rival]
  rfl

/-- The record is what BOUND with the granted term makes of it. -/
theorem State.awardedRecorded_alters (r : Record) (s : State) :
    s.Alters (s.awardedRecorded r) (r.boundWith (s.grantedOf r) 0) := State.alters_of_directory rfl

/-- The record is the rival's, unpinned and with the default term; the strike moves no mark of its own. -/
theorem State.awardedRival_alters (r : Record) (i : Identity) (s : State) :
    s.Alters (s.awardedRival r i) ({ r with identity := i, pinned := false }.boundWith (s.grantTerm 0) 0) :=
  State.alters_of_directory rfl

/-! ## The command, R115 -/

theorem exec_award_recorded {s : State} {r : Record} (ready : s.port.state ≠ .busy) (leased : leasable (s.p 0) = true)
    (found : s.recordAt (s.p 0) = some r) (state : r.state = .disputed) (choice : s.p 1 = 0) :
    exec .award s = .next ((s.taken 0x24).awardRecorded r) := by
  have awarded := State.award_recorded (s := s.taken 0x24) leased found state choice
  rw [exec_award, State.takeCommand_taken _ _ ready]
  exact congrArg Host.Outcome.next awarded

/-- With a rival, the command goes on with the rival's REVOKE. -/
theorem exec_award_recorded_revokes {s : State} {r : Record} {i : Identity} (ready : s.port.state ≠ .busy)
    (leased : leasable (s.p 0) = true) (found : s.recordAt (s.p 0) = some r) (state : r.state = .disputed)
    (choice : s.p 1 = 0) (rival : r.rival = some i) :
    exec .award s = .next (((s.taken 0x24).awardedRecorded r).commandRevoke (targetedRevoke (s.p 0) i)) := by
  obtain ⟨-, address⟩ := State.mem_of_recordAt found
  rw [exec_award_recorded ready leased found state choice, State.awardRecorded_revokes _ rival, address]

/-- Awarded to the rival, it goes on with that of the old identity. -/
theorem exec_award_rival {s : State} {r : Record} {i : Identity} (ready : s.port.state ≠ .busy)
    (leased : leasable (s.p 0) = true) (found : s.recordAt (s.p 0) = some r) (state : r.state = .disputed)
    (choice : s.p 1 = 1) (rival : r.rival = some i)
    (nowhereElse : (s.recordOf i).all (fun q => q.address == r.address) = true) :
    exec .award s = .next (((s.taken 0x24).awardedRival r i).commandRevoke (targetedRevoke (s.p 0) r.identity)) := by
  obtain ⟨-, address⟩ := State.mem_of_recordAt found
  have awarded := State.award_rival (s := s.taken 0x24) leased found state choice rival nowhereElse
  rw [exec_award, State.takeCommand_taken _ _ ready, ← address]
  exact congrArg Host.Outcome.next awarded

theorem exec_award_refused {s : State} (ready : s.port.state ≠ .busy)
    (refused : s.awardOutcome (s.p 0) (s.p 1) ≠ .ok) :
    exec .award s = .next { s with port := s.port.completed 0x24 (s.awardOutcome (s.p 0) (s.p 1)) } := by
  rw [exec_award, State.takeCommand_taken _ _ ready]
  exact congrArg Host.Outcome.next (State.award_refused (s := s.taken 0x24) refused)

/-- Settles O47, by the choice and by what becomes of the REVOKE. -/
theorem awardGivesTheAddressToOneParty : Obligations.AwardGivesTheAddressToOneParty := by
  refine ⟨?recordedAlone, ?recordedQueued, ?rivalQueued, ?rivalUndelivered, fun s => exec_award_refused,
    ?recordedUndelivered, ?recordedWaits, ?rivalWaits⟩
  case recordedAlone =>
    intro s r ready _ _ leased found state choice alone
    rw [exec_award_recorded ready leased found state choice, State.awardRecorded_alone _ alone]
    exact ⟨_, rfl, s.awardedRecorded_alters r, rfl⟩
  case recordedQueued =>
    intro s r i ready _ _ leased found state choice rival online free
    rw [exec_award_recorded_revokes ready leased found state choice rival,
      State.commandRevoke_queued (s := (s.taken 0x24).awardedRecorded r) _ online free]
    exact ⟨_, rfl, s.awardedRecorded_alters r, rfl, rfl⟩
  case recordedUndelivered =>
    intro s r i ready _ _ leased found state choice rival disabled
    rw [exec_award_recorded_revokes ready leased found state choice rival,
      State.commandRevoke_disabled (s := (s.taken 0x24).awardedRecorded r) _ disabled]
    exact ⟨_, rfl, s.awardedRecorded_alters r, rfl⟩
  case recordedWaits =>
    intro s r i ready _ _ leased found state choice rival online full
    rw [exec_award_recorded_revokes ready leased found state choice rival,
      State.commandRevoke_waits (s := (s.taken 0x24).awardedRecorded r) _ online full]
    exact ⟨_, rfl, s.awardedRecorded_alters r, rfl⟩
  case rivalQueued =>
    intro s r i ready _ _ leased found state choice rival nowhereElse online free
    obtain ⟨-, address⟩ := State.mem_of_recordAt found
    rw [exec_award_rival ready leased found state choice rival nowhereElse,
      State.commandRevoke_queued (s := (s.taken 0x24).awardedRival r i) _ online free, ← address]
    exact ⟨_, rfl, s.awardedRival_alters r i, rfl, rfl, rfl⟩
  case rivalUndelivered =>
    intro s r i ready _ _ leased found state choice rival nowhereElse disabled
    obtain ⟨-, address⟩ := State.mem_of_recordAt found
    rw [exec_award_rival ready leased found state choice rival nowhereElse,
      State.commandRevoke_disabled (s := (s.taken 0x24).awardedRival r i) _ disabled, ← address]
    exact ⟨_, rfl, s.awardedRival_alters r i, rfl, rfl⟩
  case rivalWaits =>
    intro s r i ready _ _ leased found state choice rival nowhereElse online full
    obtain ⟨-, address⟩ := State.mem_of_recordAt found
    rw [exec_award_rival ready leased found state choice rival nowhereElse,
      State.commandRevoke_waits (s := (s.taken 0x24).awardedRival r i) _ online full, ← address]
    exact ⟨_, rfl, s.awardedRival_alters r i, rfl, rfl⟩

end Sys2Proof.Machine
end

section
/-! CLAIM, R125: its admission, the heard event of its source in CENSUS, and the branch of R126 that it takes. -/

namespace Sys2Proof.Machine

/-! ## The line is left to the frame -/

theorem State.answerGranted_line (a term : Nat) (gs : List Nat) (s : State) :
    (s.answerGranted a term gs).line = s.line := by
  change (s.addClaimGroups a gs).1.line = s.line
  rw [State.addClaimGroups_frame]

theorem State.grantClaim_frame (r : Record) (term : Nat) (s : State) :
    s.grantClaim r term = { s with directory := (s.grantClaim r term).directory } := by
  unfold State.grantClaim
  dsimp only
  split <;> rfl

theorem State.claimAgainst_line (r : Record) (i : Identity) (term : Nat) (gs : List Nat) (s : State) :
    (s.claimAgainst r i term gs).line = s.line := by
  unfold State.claimAgainst
  split
  · exact State.raiseDispute_line ..
  · exact State.raiseDispute_line ..
  · exact State.raiseDispute_line ..
  · exact State.fillRival_line ..
  · split
    · exact State.raiseDispute_line ..
    · exact State.answerGranted_line ..

/-- The Census Unit leaves the line alone. -/
theorem State.takeClaim_line (a : Nat) (i : Identity) (requested : Nat) (gs : List Nat) (s : State) :
    (s.takeClaim a i requested gs).line = s.line := by
  unfold State.takeClaim State.decideClaim
  dsimp only
  split
  · split
    · rfl
    split
    · split
      · rfl
      · exact State.answerGranted_line ..
    · split
      · split
        · rfl
        · rw [State.answerGranted_line, State.grantClaim_frame]
      · exact State.claimAgainst_line ..
  · rfl

/-! ## Its admission, R148 -/

/-- The frame of a CLAIM, section 12.2. -/
def claimFrame (p : BitVec 2) (a : Byte) (i : Identity) (term : Half) (gs : List Byte) : Frame :=
  requestFrame .claim p a 0 (claimPayload i term gs)

/-- The numbers of the groups that a CLAIM lists. -/
def groupNumbers (gs : List Byte) : List Nat := gs.map (fun g => g.toNat)

theorem handOver_claimFrame (p : BitVec 2) (a : Byte) (i : Identity) (term : Half) (gs : List Byte) (s : State) :
    s.handOver .claim (claimFrame p a i term gs) = s.takeClaim a.toNat i term.toNat (groupNumbers gs) := by
  have holder : (claimFrame p a i term gs).payloadIdentity = i := identityOfBytes_bytesOfIdentity i
  have requested : (claimFrame p a i term gs).payloadTerm = term.toNat := natOfBytes_bytesOfHalf term.isLt
  rw [State.handOver, holder, requested]
  rfl

theorem length_claimPayload (i : Identity) (term : Half) (gs : List Byte) :
    (claimPayload i term gs).length = 9 + gs.length := by
  have head : (bytesOfIdentity i ++ bytesOfHalf term.toNat).length = 8 := rfl
  rw [claimPayload, List.length_append, List.length_cons, head]
  omega

/-- The length field of a CLAIM of at most 8 groups fits its payload. -/
theorem lengthFits_claimFrame (p : BitVec 2) (a : Byte) (i : Identity) (term : Half) {gs : List Byte}
    (few : gs.length ≤ 8) : (claimFrame p a i term gs).lengthFits .claim = true := by
  have listed : ((claimFrame p a i term gs).payload.getD 8 0).toNat = gs.length :=
    Nat.mod_eq_of_lt (by omega : gs.length < 2 ^ 8)
  have length : (claimFrame p a i term gs).payload.length = 9 + gs.length := length_claimPayload i term gs
  simp only [Frame.lengthFits, listed, length, few, decide_true, beq_self_eq_true, Bool.and_self]

/-- An admitted CLAIM is taken by the Census Unit after its heard event, and the line passes its frame. -/
theorem exec_claim_admitted {s : State} (p : BitVec 2) {a : Byte} {i : Identity} (term : Half) {gs : List Byte}
    (receives : s.Receives) (room : s.HasReplyRoom) (leased : leasable a.toNat = true)
    (valid : validIdentity i = true) (few : gs.length ≤ 8) :
    ∃ l l', exec (.claim p a i term gs) s =
        .next ((((s.joining l).heardFrom a.toNat true).takeClaim a.toNat i term.toNat (groupNumbers gs)).setLine l')
      ∧ l.state = s.line.state ∧ s.LineAfter 254 true l' := by
  have holder : (claimFrame p a i term gs).payloadIdentity = i := identityOfBytes_bytesOfIdentity i
  have identity : validIdentity (claimFrame p a i term gs).payloadIdentity = true := by rw [holder, valid]
  have admitted : s.admission (claimFrame p a i term gs) = some .claim :=
    State.admission_requestFrame (lengthFits_claimFrame p a i term few) leased identity fun _ => room
  have short : (claimPayload i term gs).length ≤ 24 := by rw [length_claimPayload]; omega
  obtain ⟨l, l', received, state, after⟩ := State.receiveFrame_request receives (.inl leased) short admitted
    (handOver_claimFrame p a i term gs) (State.takeClaim_line a.toNat i term.toNat (groupNumbers gs))
  rw [State.heard_requestFrame _ _ _ _ _ leased] at received
  exact ⟨l, l', congrArg Host.Outcome.next received, state, after⟩

/-! ## The heard event of its source -/

/-- No frame is a stray's during a census, R80. -/
theorem State.handleStray_census {s : State} (a : Nat) (census : s.census.mode = .census) : s.handleStray a = s := by
  simp [State.handleStray, census]

/-- During a census a source without a live record is not heard. -/
theorem State.heardFrom_census {s : State} {a : Nat} (census : s.census.mode = .census)
    (silent : (s.recordAt a).all (fun r => r.state == .reserved || r.state == .offered) = true) (limited : Bool) :
    s.heardFrom a limited = s := by
  unfold State.heardFrom
  cases found : s.recordAt a with
  | none => exact State.handleStray_census a census
  | some r =>
    cases state : r.state with
    | reserved => simp only [state, State.handleStray_census a census]
    | offered => simp only [state]
    | bound | lapsed | disputed => simp [found, state] at silent

/-! ## The branches of R126 -/

/-- The CLAIM is weighed at its address: it comes during a census, and the claimant is recorded at no other address. -/
structure State.Weighs (s : State) (a : Nat) (i : Identity) : Prop where
  census : s.census.mode = .census
  here : (s.recordOf i).any (fun r => r.address != a) = false

theorem State.weighs_of_unrecorded {s : State} {i : Identity} (a : Nat) (census : s.census.mode = .census)
    (new : s.recordOf i = none) : s.Weighs a i := ⟨census, by rw [new]; rfl⟩

/-- A CLAIM that is not weighed is answered NOT_CENSUS or IDENTITY_ELSEWHERE. -/
theorem State.weighs_of_claimOutcome {s : State} {a : Nat} {i : Identity} (inCensus : s.claimOutcome a i ≠ .notCensus)
    (here : s.claimOutcome a i ≠ .identityElsewhere) : s.Weighs a i := by
  unfold State.claimOutcome at inCensus here
  cases census : s.census.mode with
  | serving => exact absurd (if_pos census) inCensus
  | census =>
    simp only [census, reduceCtorEq, if_false] at here
    exact ⟨census, Bool.eq_false_iff.mpr fun elsewhere => here (if_pos elsewhere)⟩

section Weighed

variable {s : State} {a : Nat} {i : Identity} {r : Record}

theorem State.Weighs.takeClaim (weighed : s.Weighs a i) (requested : Nat) (gs : List Nat) :
    s.takeClaim a i requested gs = match s.recordAt a with
      | none =>
        if 192 ≤ s.directory.records.length then s.answerClaim a .full
        else ((s.takeAddress a).createRecord (claimedRecord a i (s.grantTerm requested))).answerGranted a
          (s.grantTerm requested) gs
      | some r =>
        if r.identity = i then
          if r.state = .disputed then s.answerClaim a .disputed
          else (s.grantClaim r (s.grantTerm requested)).answerGranted a (s.grantTerm requested) gs
        else s.claimAgainst r i (s.grantTerm requested) gs := by
  obtain ⟨census, here⟩ := weighed
  rw [State.takeClaim, if_pos census, State.decideClaim, here]
  rfl

theorem State.Weighs.claimOutcome_none (weighed : s.Weighs a i) (none : s.recordAt a = none) :
    s.claimOutcome a i = if 192 ≤ s.directory.records.length then .full else .granted := by
  obtain ⟨census, here⟩ := weighed
  simp [State.claimOutcome, census, here, none]

/-- Another identity's CLAIM takes the place of the offer: it is one of origin NEW or RESERVED. -/
def Record.yields (r : Record) : Bool := r.state == .offered && r.offer.all (fun o => o.origin != .rebind)

theorem State.Weighs.claimOutcome_found (weighed : s.Weighs a i) (found : s.recordAt a = some r) :
    s.claimOutcome a i =
      if r.state ≠ .disputed ∧ (r.identity = i ∨ r.yields = true) then .granted else .disputed := by
  obtain ⟨census, here⟩ := weighed
  cases state : r.state <;> simp [State.claimOutcome, Record.yields, census, here, found, state]

end Weighed

/-- The record gives way to the claimant's. -/
theorem State.claimAgainst_supplants {r : Record} (i : Identity) (term : Nat) (gs : List Nat) (s : State)
    (yields : r.yields = true) :
    s.claimAgainst r i term gs =
      ((s.endRecord .passedOn r).createRecord (claimedRecord r.address i term)).answerGranted r.address term gs := by
  simp only [Record.yields, Bool.and_eq_true, beq_iff_eq] at yields
  obtain ⟨state, fresh⟩ := yields
  simp only [State.claimAgainst, state]
  split
  · next offer => simp [offer] at fresh
  · rfl

/-- The record is disputed. -/
theorem State.claimAgainst_disputes {r : Record} (i : Identity) (term : Nat) (gs : List Nat) (s : State)
    (firm : r.yields = false) (state : r.state ≠ .disputed) :
    s.claimAgainst r i term gs = (s.raiseDispute r (some i)).answerClaim r.address .disputed := by
  cases live : r.state with
  | disputed => exact absurd live state
  | reserved | bound | lapsed => simp only [State.claimAgainst, live]
  | offered =>
    cases offer : r.offer with
    | none => simp [Record.yields, live, offer] at firm
    | some o =>
      obtain ⟨origin, term, wait⟩ := o
      obtain rfl : origin = .rebind := by simpa [Record.yields, live, offer] using firm
      simp only [State.claimAgainst, live, offer]

theorem State.claimAgainst_disputed {r : Record} (i : Identity) (term : Nat) (gs : List Nat) (s : State)
    (state : r.state = .disputed) :
    s.claimAgainst r i term gs = (s.fillRival r i).answerClaim r.address .disputed := by
  simp only [State.claimAgainst, state]

/-! ## The CLAIM by its outcome -/

/-- A BOUND record of the claimant's own takes the term and moves no mark. -/
theorem State.grantClaim_bound {r : Record} (term : Nat) (s : State) (bound : r.state = .bound) :
    s.grantClaim r term = s.putRecord (r.renewed term) := if_pos bound

/-- Any other of its own becomes BOUND. -/
theorem State.grantClaim_unbound {r : Record} (term : Nat) (s : State) (unbound : r.state ≠ .bound) :
    s.grantClaim r term = s.bindRecord (r.renewed term) := if_neg unbound

/-- The directory, the pool and the lists once the address of a granted CLAIM stands under its BOUND record, R127. -/
def State.claimHeld (a : Nat) (i : Identity) (requested : Nat) (s : State) : State :=
  match s.recordAt a with
  | none => (s.takeAddress a).createRecord (claimedRecord a i (s.grantTerm requested))
  | some r =>
    if r.identity = i then s.grantClaim r (s.grantTerm requested)
    else (s.endRecord .passedOn r).createRecord (claimedRecord a i (s.grantTerm requested))

theorem State.claimHeld_none {s : State} {a : Nat} (i : Identity) (requested : Nat) (none : s.recordAt a = none) :
    s.claimHeld a i requested = (s.takeAddress a).createRecord (claimedRecord a i (s.grantTerm requested)) := by
  rw [State.claimHeld, none]

theorem State.claimHeld_own {s : State} {a : Nat} {i : Identity} {r : Record} (requested : Nat)
    (found : s.recordAt a = some r) (holder : r.identity = i) :
    s.claimHeld a i requested = s.grantClaim r (s.grantTerm requested) := by
  rw [State.claimHeld, found]
  exact if_pos holder

theorem State.claimHeld_other {s : State} {a : Nat} {i : Identity} {r : Record} (requested : Nat)
    (found : s.recordAt a = some r) (other : r.identity ≠ i) :
    s.claimHeld a i requested =
      (s.endRecord .passedOn r).createRecord (claimedRecord a i (s.grantTerm requested)) := by
  rw [State.claimHeld, found]
  exact if_neg other

/-- A granted CLAIM finds no record, the claimant's own, or an offer that yields. -/
theorem State.claim_granted_cases {s : State} {a : Nat} {i : Identity} (granted : s.claimOutcome a i = .granted) :
    s.Weighs a i ∧ ((s.recordAt a = none ∧ s.directory.records.length < 192)
      ∨ ∃ r, s.recordAt a = some r ∧ r.state ≠ .disputed ∧ (r.identity = i ∨ r.yields = true)) := by
  have weighed : s.Weighs a i := State.weighs_of_claimOutcome (by simp [granted]) (by simp [granted])
  refine ⟨weighed, ?_⟩
  cases found : s.recordAt a with
  | none =>
    rw [weighed.claimOutcome_none found] at granted
    exact .inl ⟨rfl, Nat.lt_of_not_le fun full => by simp [full] at granted⟩
  | some r =>
    rw [weighed.claimOutcome_found found] at granted
    by_contra refused
    simp only [not_or, not_exists, reduceCtorEq, false_and, not_false_eq_true, true_and] at refused
    rw [if_neg fun grants => refused r ⟨rfl, grants⟩] at granted
    exact nomatch granted

/-- A granted CLAIM is granted its address first and its groups then. -/
theorem State.takeClaim_granted {s : State} {a : Nat} {i : Identity} (requested : Nat) (gs : List Nat)
    (granted : s.claimOutcome a i = .granted) :
    s.takeClaim a i requested gs = (s.claimHeld a i requested).answerGranted a (s.grantTerm requested) gs := by
  obtain ⟨weighed, ⟨none, room⟩ | ⟨r, found, state, holder | yields⟩⟩ := State.claim_granted_cases granted
  · rw [weighed.takeClaim, State.claimHeld_none i requested none, none]
    exact if_neg (Nat.not_le.mpr room)
  · rw [weighed.takeClaim, State.claimHeld_own requested found holder, found]
    simp only [holder, state, if_true, if_false]
  · obtain ⟨-, rfl⟩ := State.mem_of_recordAt found
    by_cases holder : r.identity = i
    · rw [weighed.takeClaim, State.claimHeld_own requested found holder, found]
      simp only [holder, state, if_true, if_false]
    · rw [weighed.takeClaim, State.claimHeld_other requested found holder, found]
      simp only [holder, if_false]
      exact State.claimAgainst_supplants i _ gs s yields

/-- One that finds a record and is not granted is set against it. -/
theorem State.takeClaim_disputes {s : State} {a : Nat} {i : Identity} {r : Record} (requested : Nat) (gs : List Nat)
    (found : s.recordAt a = some r) (disputed : s.claimOutcome a i = .disputed) (state : r.state ≠ .disputed) :
    s.takeClaim a i requested gs = (s.raiseDispute r (some i)).answerClaim a .disputed := by
  obtain ⟨-, rfl⟩ := State.mem_of_recordAt found
  have weighed : s.Weighs r.address i := State.weighs_of_claimOutcome (by simp [disputed]) (by simp [disputed])
  have contested : ¬ (r.state ≠ .disputed ∧ (r.identity = i ∨ r.yields = true)) := fun grants => by
    rw [weighed.claimOutcome_found found, if_pos grants] at disputed
    exact nomatch disputed
  have other : r.identity ≠ i := fun holder => contested ⟨state, .inl holder⟩
  have firm : r.yields = false := Bool.eq_false_iff.mpr fun yields => contested ⟨state, .inr yields⟩
  rw [weighed.takeClaim, found]
  simp only [other, if_false]
  exact State.claimAgainst_disputes i _ gs s firm state

/-- On a DISPUTED record it is evidence, R106. -/
theorem State.Weighs.takeClaim_disputed {s : State} {a : Nat} {i : Identity} {r : Record} (weighed : s.Weighs a i)
    (requested : Nat) (gs : List Nat) (found : s.recordAt a = some r) (state : r.state = .disputed) :
    s.takeClaim a i requested gs = (s.fillRival r i).answerClaim a .disputed := by
  obtain ⟨-, rfl⟩ := State.mem_of_recordAt found
  rw [weighed.takeClaim, found]
  by_cases holder : r.identity = i
  · have known : s.fillRival r i = s := if_pos (.inl holder)
    simp only [holder, state, if_true, known]
  · simp only [holder, if_false]
    exact State.claimAgainst_disputed i _ gs s state

/-- A CLAIM that is not granted and brings no new evidence is answered, and that is all. -/
theorem State.takeClaim_answered {s : State} {a : Nat} {i : Identity} (requested : Nat) (gs : List Nat)
    (ungranted : s.claimOutcome a i ≠ .granted)
    (settled : s.claimOutcome a i ≠ .disputed ∨ (s.recordAt a).any (Record.settledFor i) = true) :
    s.takeClaim a i requested gs = s.answerClaim a (s.claimOutcome a i) := by
  cases census : s.census.mode with
  | serving => simp [State.takeClaim, State.claimOutcome, census]
  | census =>
  by_cases elsewhere : (s.recordOf i).any (fun r => r.address != a) = true
  · simp [State.takeClaim, State.decideClaim, State.claimOutcome, census, elsewhere]
  have weighed : s.Weighs a i := ⟨census, Bool.eq_false_iff.mpr elsewhere⟩
  cases found : s.recordAt a with
  | none =>
    rw [weighed.claimOutcome_none found] at ungranted ⊢
    have full : 192 ≤ s.directory.records.length := by
      by_contra room
      exact ungranted (if_neg room)
    rw [weighed.takeClaim, found]
    simp only [full, if_true]
  | some r =>
    have disputed : s.claimOutcome a i = .disputed := by
      rw [weighed.claimOutcome_found found] at ungranted ⊢
      exact if_neg fun grants => ungranted (if_pos grants)
    have known : r.state = .disputed ∧ (r.identity = i ∨ r.rival.isSome = true) := by
      simpa [Record.settledFor, disputed, found] using settled
    obtain ⟨state, known⟩ := known
    rw [weighed.takeClaim_disputed requested gs found state, State.fillRival, if_pos known, disputed]

end Sys2Proof.Machine
end

section
/-! The groups that a granted CLAIM adds its address to (R128): what becomes of each group listed, in order, and what
the additions come to. -/

namespace Sys2Proof.Machine

/-! ## Each group listed, R128 -/

/-- The number names a group whose list has room for the address and does not hold it yet. -/
def State.HasPlace (s : State) (g a : Nat) : Prop :=
  groupNumber g = true ∧ a ∉ (s.group g).members ∧ (s.group g).members.length < 16

theorem State.freeEntries_eq_zero {s : State} : s.freeEntries = 0 ↔ 256 ≤ memberTotal s.groups :=
  Nat.sub_eq_zero_iff_le

/-- A group that has no place for the address is skipped. -/
theorem State.addClaimGroups_skips {s : State} {a g : Nat} (gs : List Nat) (unfit : ¬ s.HasPlace g a) :
    s.addClaimGroups a (g :: gs) = s.addClaimGroups a gs := by
  refine if_pos ?_
  by_contra fits
  simp only [Bool.or_eq_true, Bool.not_eq_true', decide_eq_true_eq, List.contains_iff_mem, not_or, Bool.not_eq_false,
    Nat.not_le] at fits
  obtain ⟨⟨number, new⟩, room⟩ := fits
  exact unfit ⟨number, new, room⟩

/-- A group that has one passes the checks of its list. -/
theorem State.HasPlace.passes {s : State} {a g : Nat} (place : s.HasPlace g a) :
    ¬ (!groupNumber g || (s.group g).members.contains a
        || Config.groupMembers ≤ (s.group g).members.length) = true := by
  obtain ⟨number, new, room⟩ := place
  have room : ¬ Config.groupMembers ≤ (s.group g).members.length := Nat.not_le.mpr room
  simp [number, new, room]

/-- An empty pool of entries ends the additions. -/
theorem State.addClaimGroups_exhausted {s : State} {a g : Nat} (gs : List Nat) (place : s.HasPlace g a)
    (full : 256 ≤ memberTotal s.groups) : s.addClaimGroups a (g :: gs) = (s, 0) :=
  (if_neg place.passes).trans (if_pos (State.freeEntries_eq_zero.mpr full))

/-- Otherwise the list takes the address at its tail. -/
theorem State.addClaimGroups_adds {s : State} {a g : Nat} (gs : List Nat) (place : s.HasPlace g a)
    (room : memberTotal s.groups < 256) :
    s.addClaimGroups a (g :: gs) =
      (((s.addMember g a).addClaimGroups a gs).1, ((s.addMember g a).addClaimGroups a gs).2 + 1) :=
  (if_neg place.passes).trans (if_neg fun empty => Nat.not_le.mpr room (State.freeEntries_eq_zero.mp empty))

/-- The three fates of a group listed. -/
theorem State.addClaimGroups_cases (s : State) (a g : Nat) :
    ¬ s.HasPlace g a ∨ (s.HasPlace g a ∧ 256 ≤ memberTotal s.groups)
      ∨ (s.HasPlace g a ∧ memberTotal s.groups < 256) := by
  by_cases place : s.HasPlace g a
  · exact .inr ((Nat.lt_or_ge (memberTotal s.groups) 256).symm.imp (⟨place, ·⟩) (⟨place, ·⟩))
  · exact .inl place

/-! ## One addition -/

theorem groupNumber_iff {g : Nat} : groupNumber g = true ↔ 1 ≤ g ∧ g ≤ 32 := by
  rw [groupNumber, Bool.and_eq_true, decide_eq_true_iff, decide_eq_true_iff]
  rfl

theorem State.length_groups_addMember (g a : Nat) (s : State) : (s.addMember g a).groups.length = s.groups.length :=
  List.length_set

/-- The list written, and the others as they were. -/
theorem State.group_addMember {s : State} {g h : Nat} (a : Nat) (count : s.groups.length = 32)
    (number : groupNumber g = true) (named : groupNumber h = true) :
    (s.addMember g a).group h =
      if h = g then { s.group g with members := (s.group g).members ++ [a] } else s.group h := by
  obtain ⟨low, high⟩ := groupNumber_iff.mp number
  obtain ⟨low', high'⟩ := groupNumber_iff.mp named
  rw [State.addMember_eq]
  simp only [State.group, List.getD_eq_getElem?_getD, List.getElem?_set]
  by_cases same : h = g
  · have inside : g - 1 < s.groups.length := by omega
    simp [same, inside]
  · have apart : ¬ g - 1 = h - 1 := by omega
    simp [same, apart]

/-- Writing one list of those there are changes the total by that list. -/
theorem memberTotal_set_add {gs : List Group} {n : Nat} (inside : n < gs.length) (v : Group) :
    memberTotal (gs.set n v) + (gs.getD n { mode := .opened, members := [] }).members.length =
      memberTotal gs + v.members.length := by
  induction gs generalizing n with
  | nil => exact absurd inside (Nat.not_lt_zero n)
  | cons g gs ih =>
    cases n with
    | zero =>
      simp only [memberTotal, List.set_cons_zero, List.map_cons, List.sum_cons, List.getD_cons_zero]
      omega
    | succ n =>
      have rest := ih (Nat.lt_of_succ_lt_succ inside)
      simp only [memberTotal, List.set_cons_succ, List.map_cons, List.sum_cons, List.getD_cons_succ] at rest ⊢
      omega

theorem State.memberTotal_addMember {s : State} {g : Nat} (a : Nat) (count : s.groups.length = 32)
    (number : groupNumber g = true) : memberTotal (s.addMember g a).groups = memberTotal s.groups + 1 := by
  obtain ⟨low, high⟩ := groupNumber_iff.mp number
  have written := memberTotal_set_add (n := g - 1) (show g - 1 < s.groups.length by omega)
    { s.group g with members := (s.group g).members ++ [a] }
  rw [List.length_append, List.length_singleton] at written
  exact Nat.add_right_cancel (written.trans (by rw [State.group]; omega))

theorem State.markOf_addMember (g a b : Nat) (s : State) :
    (s.addMember g a).markOf b = if b = a then Mark.move .altered (s.markOf a) else s.markOf b :=
  State.markOf_note .altered a b (s.setGroup g { s.group g with members := (s.group g).members ++ [a] })

theorem Mark.move_altered_twice (m : Mark) : Mark.move .altered (Mark.move .altered m) = Mark.move .altered m := by
  cases m <;> rfl

/-! ## What the additions come to -/

theorem State.addClaimGroups_count_le (a : Nat) (gs : List Nat) (s : State) :
    (s.addClaimGroups a gs).2 ≤ gs.length := by
  induction gs generalizing s with
  | nil => exact Nat.le_refl 0
  | cons g gs ih =>
    rcases s.addClaimGroups_cases a g with unfit | ⟨place, full⟩ | ⟨place, room⟩
    · rw [State.addClaimGroups_skips gs unfit]
      exact Nat.le_succ_of_le (ih s)
    · rw [State.addClaimGroups_exhausted gs place full]
      exact Nat.zero_le _
    · rw [State.addClaimGroups_adds gs place room]
      exact Nat.succ_le_succ (ih _)

/-- Each addition takes one entry of the pool. -/
theorem State.memberTotal_addClaimGroups {s : State} (a : Nat) (gs : List Nat) (count : s.groups.length = 32) :
    memberTotal (s.addClaimGroups a gs).1.groups = memberTotal s.groups + (s.addClaimGroups a gs).2 := by
  induction gs generalizing s with
  | nil => rfl
  | cons g gs ih =>
    rcases s.addClaimGroups_cases a g with unfit | ⟨place, full⟩ | ⟨place, room⟩
    · rw [State.addClaimGroups_skips gs unfit, ih count]
    · rw [State.addClaimGroups_exhausted gs place full, Nat.add_zero]
    · rw [State.addClaimGroups_adds gs place room, ih ((s.length_groups_addMember g a).trans count),
        State.memberTotal_addMember a count place.1, Nat.add_assoc, Nat.add_comm 1]

/-- What may become of a list: it is as it was, or it is a listed one that had a place for the address and has it at its
tail. -/
def Group.Grows (listed : Prop) (a : Nat) (before after : Group) : Prop :=
  after.mode = before.mode
    ∧ (after.members = before.members
        ∨ (listed ∧ a ∉ before.members ∧ before.members.length < 16 ∧ after.members = before.members ++ [a]))

theorem Group.Grows.weaken {listed listed' : Prop} {a : Nat} {u v : Group} (grows : Group.Grows listed a u v)
    (implied : listed → listed') : Group.Grows listed' a u v := by
  obtain ⟨mode, same | ⟨mem, new⟩⟩ := grows
  · exact ⟨mode, .inl same⟩
  · exact ⟨mode, .inr ⟨implied mem, new⟩⟩

theorem State.group_addClaimGroups {s : State} {h : Nat} (a : Nat) (gs : List Nat) (count : s.groups.length = 32)
    (named : groupNumber h = true) : Group.Grows (h ∈ gs) a (s.group h) ((s.addClaimGroups a gs).1.group h) := by
  induction gs generalizing s with
  | nil => exact ⟨rfl, .inl rfl⟩
  | cons g gs ih =>
    rcases s.addClaimGroups_cases a g with unfit | ⟨place, full⟩ | ⟨place, room⟩
    · rw [State.addClaimGroups_skips gs unfit]
      exact (ih count).weaken (List.mem_cons_of_mem g)
    · rw [State.addClaimGroups_exhausted gs place full]
      exact ⟨rfl, .inl rfl⟩
    · rw [State.addClaimGroups_adds gs place room]
      have rest := ih ((s.length_groups_addMember g a).trans count)
      obtain ⟨number, new, short⟩ := place
      rw [State.group_addMember a count number named] at rest
      by_cases same : h = g
      · subst same
        rw [if_pos rfl] at rest
        obtain ⟨mode, kept | ⟨-, again, -⟩⟩ := rest
        · exact ⟨mode, .inr ⟨List.mem_cons_self, new, short, kept⟩⟩
        · exact absurd (List.mem_append_right _ List.mem_cons_self) again
      · rw [if_neg same] at rest
        exact rest.weaken (List.mem_cons_of_mem g)

/-- No list loses a member. -/
theorem State.mem_group_addClaimGroups {s : State} {h a b : Nat} (gs : List Nat) (count : s.groups.length = 32)
    (named : groupNumber h = true) (mem : b ∈ (s.group h).members) :
    b ∈ ((s.addClaimGroups a gs).1.group h).members := by
  obtain ⟨-, same | ⟨-, -, -, grown⟩⟩ := State.group_addClaimGroups a gs count named
  · exact same ▸ mem
  · exact grown ▸ List.mem_append_left _ mem

/-- The additions are one alteration of the address, if there is any. -/
theorem State.markOf_addClaimGroups (a b : Nat) (gs : List Nat) (s : State) :
    (s.addClaimGroups a gs).1.markOf b =
      if b = a ∧ 0 < (s.addClaimGroups a gs).2 then Mark.move .altered (s.markOf a) else s.markOf b := by
  induction gs generalizing s with
  | nil => exact (if_neg fun added => absurd added.2 (Nat.lt_irrefl 0)).symm
  | cons g gs ih =>
    rcases s.addClaimGroups_cases a g with unfit | ⟨place, full⟩ | ⟨place, room⟩
    · rw [State.addClaimGroups_skips gs unfit, ih s]
    · rw [State.addClaimGroups_exhausted gs place full, if_neg fun added => absurd added.2 (Nat.lt_irrefl 0)]
    · rw [State.addClaimGroups_adds gs place room, ih, State.markOf_addMember, State.markOf_addMember, if_pos rfl,
        Mark.move_altered_twice]
      by_cases here : b = a <;> simp [here]

/-- With entries for all of them, every list with room comes to hold the address. -/
theorem State.mem_of_addClaimGroups {s : State} {h a : Nat} {gs : List Nat} (count : s.groups.length = 32)
    (entries : memberTotal s.groups + gs.length ≤ 256) (listed : h ∈ gs) (named : groupNumber h = true)
    (short : (s.group h).members.length < 16) : a ∈ ((s.addClaimGroups a gs).1.group h).members := by
  induction gs generalizing s with
  | nil => exact absurd listed List.not_mem_nil
  | cons g gs ih =>
    rw [List.length_cons] at entries
    by_cases held : a ∈ (s.group h).members
    · exact State.mem_group_addClaimGroups _ count named held
    rcases s.addClaimGroups_cases a g with unfit | ⟨place, full⟩ | ⟨place, room⟩
    · have later : h ∈ gs := (List.mem_cons.mp listed).resolve_left fun same => unfit (same ▸ ⟨named, held, short⟩)
      rw [State.addClaimGroups_skips gs unfit]
      exact ih count (by omega) later short
    · omega
    · rw [State.addClaimGroups_adds gs place room]
      obtain ⟨number, -, -⟩ := place
      have count' := (s.length_groups_addMember g a).trans count
      have written := State.group_addMember a count number named
      by_cases same : h = g
      · subst same
        rw [if_pos rfl] at written
        refine State.mem_group_addClaimGroups gs count' named ?_
        rw [written]
        exact List.mem_append_right _ List.mem_cons_self
      · rw [if_neg same] at written
        have total := State.memberTotal_addMember a count number
        exact ih count' (by omega) ((List.mem_cons.mp listed).resolve_left same) (written ▸ short)

/-! ## The line and the queue beside them -/

/-- The state with another line and another queue. -/
def State.wired (l : Line) (q : TxQueue) (s : State) : State := { s with line := l, queue := q }

/-- The additions look at neither, and leave both. -/
theorem State.addClaimGroups_wired (l : Line) (q : TxQueue) (a : Nat) (gs : List Nat) (s : State) :
    (s.wired l q).addClaimGroups a gs = ((s.addClaimGroups a gs).1.wired l q, (s.addClaimGroups a gs).2) := by
  induction gs generalizing s with
  | nil => rfl
  | cons g gs ih =>
    rcases s.addClaimGroups_cases a g with unfit | ⟨place, full⟩ | ⟨place, room⟩
    · rw [State.addClaimGroups_skips gs unfit, State.addClaimGroups_skips (s := s.wired l q) gs unfit, ih]
    · rw [State.addClaimGroups_exhausted gs place full,
        State.addClaimGroups_exhausted (s := s.wired l q) gs place full]
    · have added : (s.wired l q).addMember g a = (s.addMember g a).wired l q := rfl
      rw [State.addClaimGroups_adds gs place room, State.addClaimGroups_adds (s := s.wired l q) gs place room, added,
        ih]

end Sys2Proof.Machine
end

section
/-! The granted CLAIM, R126 to R128: its heard event leaves no trace of its own, and its groups are added last. -/

namespace Sys2Proof.Machine

/-! ## The heard event of a granted CLAIM -/

/-- The claimant's record written by the grant does not see the quiet count that was reset before. -/
theorem State.grantClaim_quieted (r : Record) (term : Nat) (s : State) :
    (s.putRecord { r with quiet := 0 }).grantClaim { r with quiet := 0 } term = s.grantClaim r term := by
  have address : ({ r with quiet := 0 } : Record).address = (r.renewed term).address := rfl
  by_cases bound : r.state = .bound
  · rw [State.grantClaim_bound term s bound, State.grantClaim_bound (r := { r with quiet := 0 }) term _ bound]
    exact State.putRecord_putRecord address s
  · rw [State.grantClaim_unbound term s bound, State.grantClaim_unbound (r := { r with quiet := 0 }) term _ bound]
    exact State.putRecord_bindRecord address s

/-- A holder recorded at no other address is so after its record is written again. -/
theorem State.recordOf_putHolder {s : State} {q : Record}
    (here : (s.recordOf q.identity).any (fun r => r.address != q.address) = false) :
    ((s.putRecord q).recordOf q.identity).any (fun r => r.address != q.address) = false := by
  simp only [State.recordOf, State.putRecord_eq, replaceRecord] at here ⊢
  generalize s.directory.records = rs at here ⊢
  induction rs with
  | nil => rfl
  | cons p ps ih =>
    by_cases same : p.address = q.address
    · simp [same]
    · by_cases holder : p.identity = q.identity
      · simp [holder, same] at here
      · simp only [List.find?_cons, List.map_cons, same, if_false, beq_eq_false_iff_ne.mpr holder] at here ⊢
        exact ih here

/-- The heard event of a granted CLAIM does nothing, or resets the quiet count of the claimant's own record. -/
theorem State.heardFrom_granted {s : State} {a : Nat} {i : Identity} (granted : s.claimOutcome a i = .granted) :
    s.heardFrom a true = s ∨ ∃ r, s.recordAt a = some r ∧ r.identity = i ∧ r.state ≠ .disputed
      ∧ s.heardFrom a true = s.putRecord { r with quiet := 0 } := by
  obtain ⟨weighed, ⟨none, -⟩ | ⟨r, found, state, grants⟩⟩ := State.claim_granted_cases granted
  · exact .inl (State.heardFrom_census weighed.census (by rw [none]; rfl) true)
  · cases live : r.state with
    | reserved | offered => exact .inl (State.heardFrom_census weighed.census (by simp [found, live]) true)
    | bound | lapsed =>
      have holder : r.identity = i := grants.resolve_right (by simp [Record.yields, live])
      exact .inr ⟨r, found, holder, by simp [live], State.heardFrom_limited found (by simp [live])⟩
    | disputed => exact absurd live state

/-- A granted CLAIM is taken as if the heard event had not been. -/
theorem State.takeClaim_heardFrom {s : State} {a : Nat} {i : Identity} (requested : Nat) (gs : List Nat)
    (granted : s.claimOutcome a i = .granted) :
    (s.heardFrom a true).takeClaim a i requested gs =
      (s.claimHeld a i requested).answerGranted a (s.grantTerm requested) gs := by
  rcases State.heardFrom_granted granted with unheard | ⟨r, found, rfl, state, quieted⟩
  · rw [unheard, State.takeClaim_granted requested gs granted]
  · obtain ⟨⟨census, here⟩, -⟩ := State.claim_granted_cases granted
    obtain ⟨-, rfl⟩ := State.mem_of_recordAt found
    have weighed : (s.putRecord { r with quiet := 0 }).Weighs r.address r.identity :=
      ⟨census, State.recordOf_putHolder (q := { r with quiet := 0 }) here⟩
    have found' := State.recordAt_putQuiet found
    have granted' : (s.putRecord { r with quiet := 0 }).claimOutcome r.address r.identity = .granted :=
      (weighed.claimOutcome_found found').trans (if_pos ⟨state, .inl rfl⟩)
    rw [quieted, State.takeClaim_granted requested gs granted', State.claimHeld_own requested found' rfl,
      State.claimHeld_own requested found rfl]
    exact congrArg (State.answerGranted r.address _ gs) (State.grantClaim_quieted r _ s)

/-! ## What a granted CLAIM leaves alone -/

theorem State.claimHeld_frame (a : Nat) (i : Identity) (requested : Nat) (s : State) :
    s.claimHeld a i requested = { s with
      directory := (s.claimHeld a i requested).directory
      pool := (s.claimHeld a i requested).pool
      groups := (s.claimHeld a i requested).groups } := by
  unfold State.claimHeld
  split
  · rfl
  · split
    · rw [State.grantClaim_frame]
    · rw [State.endRecord_eq]
      rfl

/-- What it grants does not depend on the line or on the place set aside. -/
theorem State.claimHeld_joining (l : Line) (a : Nat) (i : Identity) (requested : Nat) (s : State) :
    (s.joining l).claimHeld a i requested = (s.claimHeld a i requested).joining l := by
  have found : (s.joining l).recordAt a = s.recordAt a := rfl
  rw [State.claimHeld, State.claimHeld, found]
  split
  · rfl
  · split
    · unfold State.grantClaim
      dsimp only
      split <;> rfl
    · rfl

/-- The reply takes the place set aside for it, and says how many groups were added. -/
theorem State.answerGranted_joining (l l' : Line) (a term : Nat) (gs : List Nat) (s : State) :
    ((s.joining l).answerGranted a term gs).setLine l' =
      (s.addClaimGroups a gs).1.wired l' (s.replied (claimReply a .granted (s.addClaimGroups a gs).2 term)) := by
  have added : (s.joining l).addClaimGroups a gs =
      ((s.addClaimGroups a gs).1.wired l (s.joining l).queue, (s.addClaimGroups a gs).2) :=
    s.addClaimGroups_wired l (s.joining l).queue a gs
  have frame := s.addClaimGroups_frame a gs
  rw [State.answerGranted, added]
  generalize s.addClaimGroups a gs = t at frame ⊢
  rw [frame]
  rfl

/-- A granted CLAIM, its heard event included: its address, then its groups, then its reply. -/
theorem exec_claim_granted {s : State} (p : BitVec 2) {a : Byte} {i : Identity} (term : Half) {gs : List Byte}
    (receives : s.Receives) (room : s.HasReplyRoom) (leased : leasable a.toNat = true)
    (valid : validIdentity i = true) (few : gs.length ≤ 8) (granted : s.claimOutcome a.toNat i = .granted) :
    ∃ l, exec (.claim p a i term gs) s =
        .next (((s.claimHeld a.toNat i term.toNat).addClaimGroups a.toNat (groupNumbers gs)).1.wired l
          (s.replied (claimReply a.toNat .granted
            ((s.claimHeld a.toNat i term.toNat).addClaimGroups a.toNat (groupNumbers gs)).2
            (s.grantTerm term.toNat))))
      ∧ s.LineAfter 254 true l := by
  obtain ⟨l, l', taken, -, after⟩ := exec_claim_admitted p term receives room leased valid few
  have granted' : (s.joining l).claimOutcome a.toNat i = .granted := granted
  have queue (f : Frame) : (s.claimHeld a.toNat i term.toNat).replied f = s.replied f := by
    rw [State.claimHeld_frame]
    rfl
  rw [State.takeClaim_heardFrom _ _ granted', State.claimHeld_joining, State.answerGranted_joining, queue] at taken
  exact ⟨l', taken, after⟩

/-- One that lists no groups. -/
theorem exec_claim_alone {s : State} (p : BitVec 2) {a : Byte} {i : Identity} (term : Half) (receives : s.Receives)
    (room : s.HasReplyRoom) (leased : leasable a.toNat = true) (valid : validIdentity i = true)
    (granted : s.claimOutcome a.toNat i = .granted) :
    ∃ l, exec (.claim p a i term []) s = .next ((s.claimHeld a.toNat i term.toNat).wired l
          (s.replied (claimReply a.toNat .granted 0 (s.grantTerm term.toNat))))
      ∧ s.LineAfter 254 true l :=
  exec_claim_granted p term receives room leased valid (Nat.zero_le 8) granted

/-! ## By the record at the address, R126 and R127 -/

/-- An identity is recorded at one address. -/
theorem State.Identified.weighs {s : State} {a : Nat} {r : Record} (identified : s.Identified)
    (census : s.census.mode = .census) (found : s.recordAt a = some r) : s.Weighs a r.identity := by
  obtain ⟨nodup, -⟩ := identified
  obtain ⟨mem, rfl⟩ := State.mem_of_recordAt found
  refine ⟨census, ?_⟩
  cases held : s.recordOf r.identity with
  | none => rfl
  | some q =>
    obtain ⟨mem', identity⟩ := State.mem_of_recordOf held
    obtain rfl := List.inj_on_of_nodup_map nodup mem' mem identity
    exact bne_self_eq_false _

/-- On its own record, DISPUTED apart, a CLAIM is granted. -/
theorem State.Weighs.granted_own {s : State} {a : Nat} {r : Record} (weighed : s.Weighs a r.identity)
    (found : s.recordAt a = some r) (state : r.state ≠ .disputed) : s.claimOutcome a r.identity = .granted :=
  (weighed.claimOutcome_found found).trans (if_pos ⟨state, .inl rfl⟩)

/-- The claimant's record that was not BOUND becomes so, an alteration. -/
theorem State.grantClaim_alters {r : Record} (term : Nat) (s : State) (unbound : r.state ≠ .bound) :
    s.Alters (s.grantClaim r term) (r.boundWith term 0) := by
  rw [State.grantClaim_unbound term s unbound]
  exact State.alters_of_directory rfl

/-- One record created in the place of another, which ends without its address passing the pool, R126 and R14. -/
theorem State.supplant_fields (r q : Record) (address : q.address = r.address) (s : State) :
    let t := (s.endRecord .passedOn r).createRecord q
    t.recordAt r.address = some q
      ∧ removeRecord r.address t.directory.records = removeRecord r.address s.directory.records
      ∧ s.MarkOnly t r.address (Mark.move .created (Mark.move .removed (s.markOf r.address)))
      ∧ t.directory.lapseList = s.directory.lapseList.filter (fun b => b != r.address)
      ∧ t.directory.pacing = s.directory.pacing
      ∧ t = { s with directory := t.directory, groups := struck r.address s.groups } := by
  have records : (s.endRecord .passedOn r).directory.records = removeRecord r.address s.directory.records :=
    State.records_endRecord .passedOn r s
  have apart : ∀ p ∈ (s.endRecord .passedOn r).directory.records, p.address ≠ q.address := fun p mem => by
    rw [records, mem_removeRecord, ← address] at mem
    exact mem.2
  have ended : s.MarkOnly (s.endRecord .passedOn r) r.address (Mark.move .removed (s.markOf r.address)) :=
    State.markOnly_setMark (by rw [State.endRecord_eq])
  have created : (s.endRecord .passedOn r).MarkOnly ((s.endRecord .passedOn r).createRecord q) q.address
      (Mark.move .created ((s.endRecord .passedOn r).markOf q.address)) := State.markOnly_setMark rfl
  rw [address, ended.1] at created
  dsimp only
  refine ⟨?_, ?_, ended.trans created, rfl, rfl, rfl⟩
  · rw [← address]
    exact find_insertRecord apart
  · rw [← address]
    exact (removeRecord_insertRecord q _ apart).trans (address ▸ records)

/-- Settles O29: a granted CLAIM is the grant of its address by the record found there, then the additions of its groups
one after another, then its reply. -/
theorem claimBindsAnAddressInCensus : Obligations.ClaimBindsAnAddressInCensus := by
  refine ⟨?creates, ?alters, ?refreshes, ?supplants, ?lists, ?additions, ?skipped, ?exhausted, ?added⟩
  case creates =>
    intro s p a i term receives room leased valid census placed new none few
    have weighed := State.weighs_of_unrecorded a.toNat census new
    have granted : s.claimOutcome a.toNat i = .granted :=
      (weighed.claimOutcome_none none).trans (if_neg (Nat.not_le.mpr few))
    have apart : ∀ q ∈ s.directory.records, q.address ≠ a.toNat := State.recordAt_eq_none.mp none
    obtain ⟨l, taken, after⟩ := exec_claim_alone p term receives room leased valid granted
    rw [taken, State.claimHeld_none i _ none]
    exact ⟨_, rfl, ⟨find_insertRecord apart, removeRecord_insertRecord _ _ apart, rfl, rfl,
      State.markOnly_setMark rfl⟩, rfl, rfl, rfl, after⟩
  case alters =>
    rintro s p a i term r receives room leased valid census identified placed found rfl state
    have unbound : r.state ≠ .bound ∧ r.state ≠ .disputed := by rcases state with h | h | h <;> simp [h]
    have granted := (identified.weighs census found).granted_own found unbound.2
    obtain ⟨l, taken, after⟩ := exec_claim_alone p term receives room leased valid granted
    rw [taken, State.claimHeld_own _ found rfl]
    exact ⟨_, rfl, s.grantClaim_alters _ unbound.1, rfl, by rw [State.grantClaim_frame]; rfl, after⟩
  case refreshes =>
    rintro s p a i term r receives room leased valid census identified placed found rfl bound
    have granted := (identified.weighs census found).granted_own found (by simp [bound])
    obtain ⟨l, taken, after⟩ := exec_claim_alone p term receives room leased valid granted
    rw [taken, State.claimHeld_own _ found rfl, State.grantClaim_bound _ s bound]
    exact ⟨_, rfl, rfl, rfl, rfl, after⟩
  case supplants =>
    intro s p a i term r o receives room leased valid census placed found other new state offer fresh
    have weighed := State.weighs_of_unrecorded a.toNat census new
    have yields : r.yields = true := by simp [Record.yields, state, offer, fresh]
    have granted : s.claimOutcome a.toNat i = .granted :=
      (weighed.claimOutcome_found found).trans (if_pos ⟨by simp [state], .inr yields⟩)
    obtain ⟨l, taken, after⟩ := exec_claim_alone p term receives room leased valid granted
    obtain ⟨-, address⟩ := State.mem_of_recordAt found
    rw [taken, State.claimHeld_other _ found other, ← address]
    obtain ⟨held, rest, mark, lapseList, pacing, frame⟩ :=
      s.supplant_fields r (claimedRecord r.address i (s.grantTerm term.toNat)) rfl
    generalize (s.endRecord .passedOn r).createRecord _ = t at held rest mark lapseList pacing frame ⊢
    exact ⟨_, rfl, held, rest, lapseList, pacing, mark, by rw [frame]; rfl, rfl, by rw [frame]; rfl, after⟩
  case lists =>
    intro s p a i term gs v receives room leased valid census few granted alone
    obtain ⟨l, taken, -⟩ := exec_claim_alone p term receives room leased valid granted
    obtain rfl := Host.Outcome.next.inj (alone.symm.trans taken)
    obtain ⟨l', listed, after⟩ := exec_claim_granted p term receives room leased valid few granted
    have added := (s.claimHeld a.toNat i term.toNat).addClaimGroups_wired l
      (s.replied (claimReply a.toNat .granted 0 (s.grantTerm term.toNat))) a.toNat (groupNumbers gs)
    have frame := (s.claimHeld a.toNat i term.toNat).addClaimGroups_frame a.toNat (groupNumbers gs)
    rw [← groupNumbers, listed, added]
    generalize (s.claimHeld a.toNat i term.toNat).addClaimGroups a.toNat (groupNumbers gs) = t at frame ⊢
    exact ⟨_, rfl, rfl, rfl, rfl, by rw [frame]; rfl, after⟩
  case additions =>
    rintro s a gs ⟨count, -, -⟩
    refine ⟨s.addClaimGroups_count_le a gs, State.memberTotal_addClaimGroups a gs count, fun g named => ?_,
      fun b => s.markOf_addClaimGroups a b gs, fun entries g listed named short =>
        State.mem_of_addClaimGroups count entries listed named short⟩
    obtain ⟨low, high⟩ := List.mem_range'_1.mp named
    exact State.group_addClaimGroups a gs count (groupNumber_iff.mpr ⟨low, Nat.le_of_lt_succ high⟩)
  case skipped =>
    intro s a g gs out
    refine State.addClaimGroups_skips gs fun ⟨number, new, short⟩ => ?_
    rcases out with outside | held | full
    · exact Bool.false_ne_true (outside.symm.trans number)
    · exact new held
    · exact Nat.not_le.mpr short full
  case exhausted =>
    intro s a g gs number new short full
    exact State.addClaimGroups_exhausted gs ⟨number, new, short⟩ full
  case added =>
    rintro s a g gs _ number new short room rfl
    exact State.addClaimGroups_adds gs ⟨number, new, short⟩ room

end Sys2Proof.Machine
end

section
/-! The CLAIM that is not granted, R125, R126 and R129: its answer, or its dispute under each policy (R108 to R110). -/

namespace Sys2Proof.Machine

/-! ## What a heard event leaves of the outcome -/

/-- The records after a heard event without passive renewal name the same holders at the same addresses. -/
theorem State.any_recordOf_heardState {s : State} {a : Nat} (leased : leasable a = true) (i : Identity) (beside : Nat) :
    ((s.heardState a false beside).recordOf i).any (fun r => r.address != a) =
      (s.recordOf i).any (fun r => r.address != a) := by
  simp only [State.heardState, leased, State.recordOf, Bool.true_eq_false, if_false]
  induction s.directory.records with
  | nil => rfl
  | cons q qs ih =>
    obtain ⟨-, kept⟩ := s.heardRecord_unrenewed q
    by_cases holder : q.identity = i
    · by_cases here : q.address = a <;> simp [here, holder, kept]
    · by_cases here : q.address = a <;> simpa [here, holder, kept] using ih

/-- A CLAIM is answered by what its heard event leaves alone. -/
theorem State.claimOutcome_heardState {s : State} {a : Nat} (leased : leasable a = true) (i : Identity) (beside : Nat) :
    (s.heardState a false beside).claimOutcome a i = s.claimOutcome a i := by
  have mode : (s.heardState a false beside).census.mode = s.census.mode := by
    unfold State.heardState
    split <;> rfl
  have number : (s.heardState a false beside).directory.records.length = s.directory.records.length := by
    unfold State.heardState
    split
    · rfl
    · exact List.length_map _
  unfold State.claimOutcome
  rw [mode, number, State.any_recordOf_heardState leased, State.recordAt_heardState leased]
  cases found : s.recordAt a with
  | none => rfl
  | some r =>
    obtain ⟨n, quiet⟩ := s.heardRecord_quiet_only r
    rw [Option.map_some, quiet]

/-- During a census a heard event from a record's address is the record as heard, put in its place. -/
theorem State.heardState_census {s : State} {a : Nat} {r : Record} (placed : s.Placed) (leased : leasable a = true)
    (census : s.census.mode = .census) (found : s.recordAt a = some r) (beside : Nat) :
    s.heardState a false beside = s.putRecord (s.heardRecord false r) := by
  have paced : s.strayRevoked a beside = false := by simp [State.strayRevoked, census]
  simp only [State.heardState, leased, paced, State.restores,
    placed.map_at_address found _ (s.heardRecord_address false r)]
  rfl

/-! ## The dispute, R106 and R108 to R110 -/

/-- A dispute does not see what was put in the record's place before. -/
theorem State.raiseDispute_putRecord (q : Record) (rival : Option Identity) (s : State) :
    (s.putRecord q).raiseDispute q rival = s.raiseDispute q rival := by
  unfold State.raiseDispute
  rw [State.putRecord_enterDisputed rfl]
  rfl

/-- The record as heard, unless it is DISPUTED. -/
theorem State.heardRecord_undisputed {r : Record} (s : State) (state : r.state ≠ .disputed) :
    s.heardRecord false r = { r with quiet := if r.state = .bound ∨ r.state = .lapsed then 0 else r.quiet } := by
  by_cases live : r.state = .bound ∨ r.state = .lapsed
  · rw [if_pos live]
    rcases live with live | live <;> simp [State.heardRecord, live]
  · have unheard : s.heardRecord false r = r := by
      cases silent : r.state with
      | reserved | offered => simp [State.heardRecord, silent]
      | bound => exact absurd (.inl silent) live
      | lapsed => exact absurd (.inr silent) live
      | disputed => exact absurd silent state
    rw [if_neg live, unheard]

/-- An identity that a record put does not name is recorded nowhere still. -/
theorem State.recordOf_putRecord_none {s : State} {q : Record} {i : Identity} (new : s.recordOf i = none)
    (other : q.identity ≠ i) : (s.putRecord q).recordOf i = none := by
  refine State.recordOf_eq_none.mpr fun p mem => ?_
  rcases (mem_replaceRecord q p _).mp mem with ⟨mem, -⟩ | ⟨rfl, -⟩
  · exact State.recordOf_eq_none.mp new p mem
  · exact other

/-- Where the outcome is a dispute of a record not DISPUTED before, it is raised on that record as heard. -/
theorem exec_claim_disputes {s : State} (p : BitVec 2) {a : Byte} {i : Identity} (term : Half) {gs : List Byte}
    {r : Record} (receives : s.Receives) (room : s.HasReplyRoom) (leased : leasable a.toNat = true)
    (valid : validIdentity i = true) (few : gs.length ≤ 8) (placed : s.Placed) (census : s.census.mode = .census)
    (found : s.recordAt a.toNat = some r) (disputed : s.claimOutcome a.toNat i = .disputed)
    (state : r.state ≠ .disputed) :
    ∃ l l', exec (.claim p a i term gs) s = .next ((((s.joining l).raiseDispute
          { r with quiet := if r.state = .bound ∨ r.state = .lapsed then 0 else r.quiet } (some i)).answerClaim a.toNat
          .disputed).setLine l')
      ∧ l.state = s.line.state ∧ s.LineAfter 254 true l' := by
  obtain ⟨l, l', taken, online, after⟩ := exec_claim_admitted p term receives room leased valid few
  have heard := State.recordAt_heardState (s := s) leased false 1
  have outcome := State.claimOutcome_heardState (s := s) leased i 1
  rw [found] at heard
  rw [State.heardFrom_joining placed online leased, State.heardState_census placed leased census found 1] at taken
  rw [State.heardState_census placed leased census found 1] at heard outcome
  have undisputed : (s.heardRecord false r).state ≠ .disputed := (s.heardRecord_unrenewed r).1 ▸ state
  have raised : ((s.putRecord (s.heardRecord false r)).joining l).raiseDispute (s.heardRecord false r) (some i) =
      (s.joining l).raiseDispute (s.heardRecord false r) (some i) :=
    State.raiseDispute_putRecord (s.heardRecord false r) (some i) (s.joining l)
  rw [State.takeClaim_disputes (s := (s.putRecord (s.heardRecord false r)).joining l) _ _ heard
    (outcome.trans disputed) undisputed, raised, State.heardRecord_undisputed s state] at taken
  exact ⟨l, l', taken, online, after⟩

/-- Settles O30: an answer alone leaves the heard event's state, a dispute is raised on the record as heard, with the
REVOKE claimed beside the place kept for the answer, and evidence fills an absent rival. -/
theorem claimThatIsNotGrantedIsAnsweredByItsCase : Obligations.ClaimThatIsNotGrantedIsAnsweredByItsCase := by
  refine ⟨?answered, ?held, ?revoked, ?filled⟩
  case answered =>
    rintro s p a i term gs _ receives room leased valid few ungranted settled placed rfl
    obtain ⟨l, l', taken, online, after⟩ := exec_claim_admitted p term receives room leased valid few
    have outcome : ((s.heardState a.toNat false 1).joining l).claimOutcome a.toNat i = s.claimOutcome a.toNat i :=
      State.claimOutcome_heardState leased i 1
    have known : (((s.heardState a.toNat false 1).joining l).recordAt a.toNat).any (Record.settledFor i) =
        (s.recordAt a.toNat).any (Record.settledFor i) :=
      State.view_recordAt_heardState (Option.any _) leased 1 fun _ _ => rfl
    have settled' := settled.imp_right known.trans
    rw [← outcome] at ungranted settled'
    rw [taken, State.heardFrom_joining placed online leased, State.takeClaim_answered _ _ ungranted settled', outcome]
    exact ⟨_, rfl, rfl, after⟩
  case held =>
    intro s p a i term r gs receives room leased valid census few found disputed state hold placed
    obtain ⟨l, l', taken, -, after⟩ :=
      exec_claim_disputes p term receives room leased valid few placed census found disputed state
    rw [taken, State.raiseDispute_hold (s := s.joining l) _ _ hold]
    exact ⟨_, rfl, State.alters_of_directory rfl, rfl, rfl, rfl, after⟩
  case revoked =>
    intro s p a i term r gs receives room leased valid census few found disputed state revoke placed
    obtain ⟨-, address⟩ := State.mem_of_recordAt found
    obtain ⟨l, l', taken, online, after⟩ :=
      exec_claim_disputes p term receives room leased valid few placed census found disputed state
    rw [taken, State.raiseDispute_revoke (s := s.joining l) _ _ revoke, ← address]
    generalize (if r.state = .bound ∨ r.state = .lapsed then 0 else r.quiet) = n
    obtain ⟨ends, frame⟩ := State.revokeDisputed_entered { r with quiet := n } (some i) (s.joining l)
    rw [State.claimed_joining online] at frame
    generalize ((s.joining l).enterDisputed { r with quiet := n } (some i)).revokeDisputed { r with quiet := n } = u
      at ends frame ⊢
    rw [frame]
    exact ⟨_, rfl, ends, rfl, rfl, rfl, after⟩
  case filled =>
    intro s p a i term r gs receives room leased valid census few found new other state empty
    obtain ⟨-, address⟩ := State.mem_of_recordAt found
    obtain ⟨l, l', taken, -, after⟩ := exec_claim_admitted p term receives room leased valid few
    have quieted : ((s.putRecord { r with quiet := 0 }).joining l).recordAt a.toNat = some { r with quiet := 0 } :=
      State.recordAt_putQuiet found
    have weighed : ((s.putRecord { r with quiet := 0 }).joining l).Weighs a.toNat i :=
      State.weighs_of_unrecorded a.toNat census (State.recordOf_putRecord_none new other)
    have heard : (s.joining l).heardFrom a.toNat true = (s.putRecord { r with quiet := 0 }).joining l :=
      State.heardFrom_limited (s := s.joining l) found (.inr (.inr state))
    rw [taken, heard, weighed.takeClaim_disputed _ _ quieted state, State.fillRival_heard l s other empty, ← address]
    exact ⟨_, rfl, rfl, State.markOnly_setMark rfl, rfl, rfl, after⟩

end Sys2Proof.Machine
end

section
/-! Start Census, End Census, Start Sweep and Stop Sweep: the contexts they set (R120, R121, R123, R101, R104). -/

namespace Sys2Proof.Machine

/-! ## Start Census and End Census, R120, R121 and R123 -/

theorem exec_startCensus {s : State} (ready : s.port.state ≠ .busy) :
    exec .startCensus s = .next (s.taken 0x30).startCensus :=
  congrArg Host.Outcome.next (State.takeCommand_taken 0x30 State.startCensus ready)

theorem exec_endCensus {s : State} (ready : s.port.state ≠ .busy) :
    exec .endCensus s = .next (s.taken 0x31).endCensus :=
  congrArg Host.Outcome.next (State.takeCommand_taken 0x31 State.endCensus ready)

/-- The Census Unit with a census under way from now on, R120. -/
def State.censusBegun (s : State) : Census := { s.census with mode := .census, window := s.params.censusWindow }

/-- The CENSUS frame that announces it, R121. -/
def State.censusCall (s : State) : Frame := censusFrame s.params.censusWindow s.params.epochPeriod

/-- With no CENSUS frame waiting unsent, one is claimed for. -/
theorem State.beginCensus_claims {s : State} (none : s.queue.entries.any TxEntry.waitingCensus = false) :
    s.beginCensus = { s with census := s.censusBegun, queue := s.claimed .censusUnit s.censusCall 0 } := by
  rw [State.beginCensus, State.queueCensus, State.setCensus_queue, none, State.claimOrDrop_eq]
  rfl

/-- Every CENSUS frame that waits unsent is brought up to date. -/
theorem State.beginCensus_updates {s : State} (waiting : s.queue.entries.any TxEntry.waitingCensus = true) :
    s.beginCensus = { s with census := s.censusBegun, queue := s.censusUpdated s.censusCall } := by
  rw [State.beginCensus, State.queueCensus, State.setCensus_queue, if_pos waiting]
  rfl

theorem State.startCensus_online {s : State} (online : s.line.state = .online) :
    s.startCensus = s.beginCensus.finish .ok := if_pos online

theorem State.startCensus_offline {s : State} (offline : s.line.state ≠ .online) :
    s.startCensus = s.finish .lineDown := if_neg offline

theorem State.endCensus_census {s : State} (census : s.census.mode = .census) :
    s.endCensus = s.finishCensus.finish .ok := if_pos census

theorem State.endCensus_serving {s : State} (serving : s.census.mode = .serving) : s.endCensus = s.finish .ok :=
  if_neg (serving ▸ nofun)

/-! ## Start Sweep and Stop Sweep, R101 and R104 -/

theorem exec_startSweep {s : State} (ready : s.port.state ≠ .busy) :
    exec .startSweep s = .next (s.taken 0x32).startSweep :=
  congrArg Host.Outcome.next (State.takeCommand_taken 0x32 State.startSweep ready)

theorem exec_stopSweep {s : State} (ready : s.port.state ≠ .busy) :
    exec .stopSweep s = .next (s.taken 0x33).stopSweep :=
  congrArg Host.Outcome.next (State.takeCommand_taken 0x33 State.stopSweep ready)

theorem sweepModeOf_eq (n : Nat) :
    sweepModeOf n = if n ≤ 1 then some (if n = 0 then .once else .continuous) else none := by
  match n with
  | 0 | 1 | _ + 2 => rfl

theorem sweepNoticeOf_eq (n : Nat) :
    sweepNoticeOf n = if n ≤ 1 then some (if n = 0 then .everyPass else .everyFourth) else none := by
  match n with
  | 0 | 1 | _ + 2 => rfl

/-- The operands of Start Sweep are in their ranges, R101. -/
def State.sweepOperands (s : State) : Prop :=
  leasable (s.p 0) = true ∧ leasable (s.p 1) = true ∧ s.p 0 ≤ s.p 1 ∧ s.p 2 ≤ 1 ∧ s.p 3 ≤ 1

theorem State.startSweep_begins {s : State} (operands : s.sweepOperands) :
    s.startSweep = (s.setProber { s.prober with
      sweep := some (newSweep (s.p 0) (s.p 1) (if s.p 2 = 0 then .once else .continuous)
                      (if s.p 3 = 0 then .everyPass else .everyFourth) (s.p 4)) }).finish .ok := by
  obtain ⟨first, last, ordered, mode, notice⟩ := operands
  simp only [State.startSweep, sweepModeOf_eq, sweepNoticeOf_eq, first, last, ordered, mode, notice, if_true,
    Bool.and_self, decide_true]

theorem State.startSweep_refused {s : State} (refused : ¬ s.sweepOperands) : s.startSweep = s.finish .badValue := by
  unfold State.startSweep
  rw [sweepModeOf_eq, sweepNoticeOf_eq]
  by_cases mode : s.p 2 ≤ 1
  · by_cases notice : s.p 3 ≤ 1
    · have range : ¬ (leasable (s.p 0) && leasable (s.p 1) && decide (s.p 0 ≤ s.p 1)) = true := fun range => by
        simp only [Bool.and_eq_true, decide_eq_true_eq, and_assoc] at range
        obtain ⟨first, last, ordered⟩ := range
        exact refused ⟨first, last, ordered, mode, notice⟩
      rw [if_pos mode, if_pos notice]
      exact if_neg range
    · rw [if_pos mode, if_neg notice]
  · rw [if_neg mode]

/-- Settles O48, by the command and the branch it takes. -/
theorem censusAndSweepCommandsSetTheirContexts : Obligations.CensusAndSweepCommandsSetTheirContexts := by
  refine ⟨?claims, ?updates, ?offline, ?ends, ?serving, ?sweeps, ?refused, ?stops⟩
  case claims =>
    intro s ready online none
    rw [exec_startCensus ready, State.startCensus_online (s := s.taken 0x30) online,
      State.beginCensus_claims (s := s.taken 0x30) none]
    rfl
  case updates =>
    intro s ready online waiting
    rw [exec_startCensus ready, State.startCensus_online (s := s.taken 0x30) online,
      State.beginCensus_updates (s := s.taken 0x30) waiting]
    exact ⟨_, rfl, rfl, rfl, rfl⟩
  case offline =>
    intro s ready offline
    rw [exec_startCensus ready, State.startCensus_offline (s := s.taken 0x30) offline, State.finish_taken]
  case ends =>
    intro s ready census
    rw [exec_endCensus ready, State.endCensus_census (s := s.taken 0x31) census]
    rfl
  case serving =>
    intro s ready serving
    rw [exec_endCensus ready, State.endCensus_serving (s := s.taken 0x31) serving, State.finish_taken]
  case sweeps =>
    intro s ready first last ordered mode notice
    rw [exec_startSweep ready, State.startSweep_begins (s := s.taken 0x32) ⟨first, last, ordered, mode, notice⟩]
    rfl
  case refused =>
    intro s ready out
    have refused : ¬ (s.taken 0x32).sweepOperands := fun ⟨first, last, ordered, mode, notice⟩ => by
      rcases out with unleased | unleased | backward | unnamed | unnamed
      · exact Bool.false_ne_true (unleased.symm.trans first)
      · exact Bool.false_ne_true (unleased.symm.trans last)
      · exact Nat.not_le_of_lt backward ordered
      · exact Nat.not_le_of_lt unnamed mode
      · exact Nat.not_le_of_lt unnamed notice
    rw [exec_startSweep ready, State.startSweep_refused (s := s.taken 0x32) refused, State.finish_taken]
  case stops =>
    intro s ready
    rw [exec_stopSweep ready]
    rfl

end Sys2Proof.Machine
end

section
/-! The statement of the family "Groups" about every step, and what a change of one list leaves. -/

namespace Sys2Proof.Machine

/-! ## The member lists under every step, R132 and R133 -/

theorem changes_keep_grouped {s t : State} (h : Changes s t) (placed : s.Placed) (hs : s.Grouped) : t.Grouped :=
  h.keep_beside_placed (fun edit _ hs => edit_keeps_grouped edit hs)
    (fun {u} hs => hs.congr rfl fun _ ha => addresses_mapRecords keepsIdentity_held u ▸ ha) placed hs

/-- Settles O11: a step is a run of changes, and each keeps the member lists bounded and held where the addresses obey
their law. -/
theorem memberListsStayBoundedAndHeld : Obligations.MemberListsStayBoundedAndHeld := by
  intro s t placed grouped h
  exact changes_keep_grouped (step_changes h) placed grouped

/-! ## One list written, R132 -/

/-- The state with the group's list of members written, as an alteration of the address. -/
def State.regrouped (g a : Nat) (members : List Nat) (s : State) : State :=
  (s.setGroup g { s.group g with members := members }).note .altered a

theorem State.addMember_regrouped (g a : Nat) (s : State) :
    s.addMember g a = s.regrouped g a ((s.group g).members ++ [a]) := rfl

theorem State.removeMember_regrouped (g a : Nat) (s : State) :
    s.removeMember g a = s.regrouped g a ((s.group g).members.filter (fun b => b != a)) := rfl

/-- A list written is the one that a GROUP REPLY then carries. -/
theorem State.membersOf_regrouped {s : State} {g : Nat} (a : Nat) (members : List Nat) (count : s.groups.length = 32)
    (number : groupNumber g = true) : (s.regrouped g a members).membersOf g = members := by
  obtain ⟨low, high⟩ := groupNumber_iff.mp number
  have inside : g - 1 < s.groups.length := by omega
  have written : (s.regrouped g a members).group g = { s.group g with members := members } := by
    change (s.groups.set (g - 1) _).getD (g - 1) _ = _
    rw [List.getD_eq_getElem?_getD, List.getElem?_set_self inside, Option.getD_some]
  rw [State.membersOf, if_pos number, written]

end Sys2Proof.Machine
end

section
/-! GROUP JOIN, GROUP LEAVE and GROUP EXPAND, R134 to R137: each decided on the state that its heard event leaves, and
answered in the place set aside for it. -/

namespace Sys2Proof.Machine

/-! ## What a heard event leaves of the checks, R134 -/

theorem State.usable_eq (s : State) (a : Nat) :
    s.usable a = (s.recordAt a).any (fun r => r.state == .bound || r.state == .lapsed) := by
  unfold State.usable
  cases s.recordAt a <;> rfl

theorem State.heardState_groups (s : State) (a : Nat) (renews : Bool) (beside : Nat) :
    (s.heardState a renews beside).groups = s.groups := by
  unfold State.heardState
  split <;> rfl

theorem State.group_heardState (s : State) (a : Nat) (renews : Bool) (beside g : Nat) :
    (s.heardState a renews beside).group g = s.group g := by
  rw [State.group, State.heardState_groups, State.group]

/-- Passive renewal may bind a LAPSED record, which may name groups before and after. -/
theorem State.usable_heardState {s : State} {a : Nat} (leased : leasable a = true) (renews : Bool) (beside : Nat) :
    (s.heardState a renews beside).usable a = s.usable a := by
  rw [State.usable_eq, State.usable_eq, State.recordAt_heardState leased]
  cases s.recordAt a with
  | none => rfl
  | some r => cases state : r.state <;> cases renews <;> simp [State.heardRecord, Record.boundWith, state]

/-! ## The decisions -/

/-- A GROUP JOIN is answered with the outcome of its checks, and appends the source when that is OK, R135. -/
theorem State.takeGroupJoin_eq (a g : Nat) (s : State) :
    s.takeGroupJoin a g =
      (if s.groupJoinOutcome a g = .ok then s.addMember g a else s).answerGroup a g (s.groupJoinOutcome a g) := by
  unfold State.takeGroupJoin State.groupJoinOutcome
  rw [← State.usable_eq]
  cases usable : s.usable a with
  | false => rfl
  | true =>
    cases number : groupNumber g with
    | false => rfl
    | true =>
      cases mode : (s.group g).mode with
      | closed => rfl
      | opened =>
        by_cases member : a ∈ (s.group g).members
        · simp [member]
        · by_cases full : 16 ≤ (s.group g).members.length
          · simp [member, full, Config.groupMembers]
          · by_cases exhausted : 256 ≤ memberTotal s.groups <;>
              simp [member, full, exhausted, State.freeEntries_eq_zero, Config.groupMembers]

/-- The heard event of its source leaves its outcome. -/
theorem State.groupJoinOutcome_heardState {s : State} {a : Nat} (leased : leasable a = true) (renews : Bool)
    (beside g : Nat) : (s.heardState a renews beside).groupJoinOutcome a g = s.groupJoinOutcome a g := by
  have usable := State.usable_heardState (s := s) leased renews beside
  rw [State.usable_eq, State.usable_eq] at usable
  rw [State.groupJoinOutcome, State.groupJoinOutcome, usable, State.group_heardState, State.heardState_groups]

theorem State.groupNumber_of_join_ok {s : State} {a g : Nat} (ok : s.groupJoinOutcome a g = .ok) :
    groupNumber g = true := by
  unfold State.groupJoinOutcome at ok
  cases number : groupNumber g with
  | true => rfl
  | false =>
    rw [number] at ok
    split at ok <;> simp at ok

/-- A GROUP LEAVE takes a member out whose record may name groups, R136. -/
theorem State.takeGroupLeave_removes {s : State} {a g : Nat}
    (leaves : groupNumber g = true ∧ a ∈ (s.group g).members ∧ s.usable a = true) :
    s.takeGroupLeave a g = (s.removeMember g a).answerGroup a g .ok := by
  obtain ⟨number, member, usable⟩ := leaves
  exact if_pos (by simp [number, member, usable])

/-- Every other changes no list. -/
theorem State.takeGroupLeave_refused {s : State} {a g : Nat}
    (stays : ¬ (groupNumber g = true ∧ a ∈ (s.group g).members ∧ s.usable a = true)) :
    s.takeGroupLeave a g = s.answerGroup a g .notMember := by
  refine if_neg fun leaves => stays ?_
  simp only [Bool.and_eq_true, List.contains_iff_mem] at leaves
  obtain ⟨⟨number, usable⟩, member⟩ := leaves
  exact ⟨number, member, usable⟩

/-- A GROUP EXPAND is answered with the list as it stands, R137. -/
theorem State.takeGroupExpand_eq (a g : Nat) (s : State) :
    s.takeGroupExpand a g = s.queueReply .reply
      (if groupNumber g then groupReply a g .ok (s.group g).members else groupReply a g .badGroup []) := by
  cases number : groupNumber g <;> simp [State.takeGroupExpand, State.answerGroup, State.membersOf, number]

theorem State.takeGroupJoin_line (a g : Nat) (s : State) : (s.takeGroupJoin a g).line = s.line := by
  rw [State.takeGroupJoin_eq]
  split <;> rfl

theorem State.takeGroupLeave_line (a g : Nat) (s : State) : (s.takeGroupLeave a g).line = s.line := by
  unfold State.takeGroupLeave
  split <;> rfl

theorem State.takeGroupExpand_line (a g : Nat) (s : State) : (s.takeGroupExpand a g).line = s.line := by
  rw [State.takeGroupExpand_eq]
  rfl

/-! ## Their admission, R148 -/

/-- A GROUP request with a place for its answer is taken by the Group Table on the state that its heard event leaves. -/
theorem State.receiveFrame_groupRequest {s u : State} {k : RequestKind} {p : BitVec 2} {a g : Byte}
    {owner : State → State} (receives : s.Receives) (room : s.HasReplyRoom) (placed : s.Placed)
    (heard : u = s.heardState a.toNat s.params.passiveRenewal 1)
    (kind : k = .groupJoin ∨ k = .groupLeave ∨ k = .groupExpand)
    (sender : leasable a.toNat = true ∨ fixedAddress a.toNat = true)
    (source : (requestFrame k p a 0 [g]).sourceFits k = true)
    (takes : ∀ v : State, v.handOver k (requestFrame k p a 0 [g]) = owner v)
    (line : ∀ v : State, (owner v).line = v.line) :
    ∃ l l', s.receiveFrame (requestFrame k p a 0 [g]) = (owner (u.joining l)).setLine l'
      ∧ s.LineAfter 254 true l' := by
  subst heard
  have short : [g].length ≤ 24 := show 1 ≤ 24 by decide
  obtain ⟨length, identity, answered, anonymous⟩ : (requestFrame k p a 0 [g]).lengthFits k = true
      ∧ (requestFrame k p a 0 [g]).identityFits k = true ∧ k.needsReply = true ∧ k.carriesIdentity = false := by
    rcases kind with rfl | rfl | rfl <;> exact ⟨rfl, rfl, rfl, rfl⟩
  exact State.receiveFrame_anonymous receives placed answered anonymous sender short
    (State.admission_requestFrame length source identity fun _ => room) takes line

theorem exec_groupJoin_admitted {s u : State} (p : BitVec 2) {a : Byte} (g : Byte) (receives : s.Receives)
    (room : s.HasReplyRoom) (leased : leasable a.toNat = true) (placed : s.Placed)
    (heard : u = s.heardState a.toNat s.params.passiveRenewal 1) :
    ∃ l l', exec (.groupJoin p a g) s = .next (((u.joining l).takeGroupJoin a.toNat g.toNat).setLine l')
      ∧ s.LineAfter 254 true l' := by
  obtain ⟨l, l', received, after⟩ := State.receiveFrame_groupRequest (p := p) (g := g) receives room placed heard
    (.inl rfl) (.inl leased) leased (fun _ => rfl) (State.takeGroupJoin_line a.toNat g.toNat)
  exact ⟨l, l', congrArg Host.Outcome.next received, after⟩

theorem exec_groupLeave_admitted {s u : State} (p : BitVec 2) {a : Byte} (g : Byte) (receives : s.Receives)
    (room : s.HasReplyRoom) (leased : leasable a.toNat = true) (placed : s.Placed)
    (heard : u = s.heardState a.toNat s.params.passiveRenewal 1) :
    ∃ l l', exec (.groupLeave p a g) s = .next (((u.joining l).takeGroupLeave a.toNat g.toNat).setLine l')
      ∧ s.LineAfter 254 true l' := by
  obtain ⟨l, l', received, after⟩ := State.receiveFrame_groupRequest (p := p) (g := g) receives room placed heard
    (.inr (.inl rfl)) (.inl leased) leased (fun _ => rfl) (State.takeGroupLeave_line a.toNat g.toNat)
  exact ⟨l, l', congrArg Host.Outcome.next received, after⟩

theorem exec_groupExpand_admitted {s u : State} (p : BitVec 2) {a : Byte} (g : Byte) (receives : s.Receives)
    (room : s.HasReplyRoom) (sender : fixedAddress a.toNat = true ∨ leasable a.toNat = true) (placed : s.Placed)
    (heard : u = s.heardState a.toNat s.params.passiveRenewal 1) :
    ∃ l l', exec (.groupExpand p a g) s = .next (((u.joining l).takeGroupExpand a.toNat g.toNat).setLine l')
      ∧ s.LineAfter 254 true l' := by
  obtain ⟨l, l', received, after⟩ := State.receiveFrame_groupRequest (p := p) (g := g) receives room placed heard
    (.inr (.inr rfl)) sender.symm (Bool.or_eq_true_iff.mpr sender.symm) (fun _ => rfl)
    (State.takeGroupExpand_line a.toNat g.toNat)
  exact ⟨l, l', congrArg Host.Outcome.next received, after⟩

/-! ## The answers -/

/-- An answer alone takes the place set aside for it. -/
theorem State.answerGroup_joining (l l' : Line) (a g : Nat) (o : GroupOutcome) (u : State) :
    ((u.joining l).answerGroup a g o).setLine l' =
      { u with queue := u.replied (groupReply a g o (u.membersOf g)), line := l' } := rfl

/-- An answer with the list that the request wrote. -/
theorem State.answerGroup_regrouped {u : State} {g : Nat} (l l' : Line) (a : Nat) (members : List Nat)
    (count : u.groups.length = 32) (number : groupNumber g = true) :
    (((u.joining l).regrouped g a members).answerGroup a g .ok).setLine l' =
      { u.regrouped g a members with queue := u.replied (groupReply a g .ok members), line := l' } := by
  have listed := State.membersOf_regrouped (s := u.joining l) a members count number
  rw [State.answerGroup, listed]
  rfl

/-- Settles O31: each request is its decision by its checks, which the heard event leaves as they were, then its answer
with the list as it then stands. -/
theorem groupRequestsAreDecidedByTheirChecks : Obligations.GroupRequestsAreDecidedByTheirChecks := by
  refine ⟨?joins, ?refused, ?leaves, ?stays, ?expands⟩
  case joins =>
    intro s p a g u receives room leased ok count placed heard
    have groups : u.groups = s.groups := heard ▸ s.heardState_groups ..
    have group : u.group g.toNat = s.group g.toNat := heard ▸ s.group_heardState ..
    have outcome : u.groupJoinOutcome a.toNat g.toNat = s.groupJoinOutcome a.toNat g.toNat :=
      heard ▸ State.groupJoinOutcome_heardState leased ..
    obtain ⟨l, l', taken, after⟩ := exec_groupJoin_admitted p g receives room leased placed heard
    have passes : (u.joining l).groupJoinOutcome a.toNat g.toNat = .ok := outcome.trans ok
    rw [State.takeGroupJoin_eq, passes, if_pos rfl, State.addMember_regrouped,
      State.answerGroup_regrouped _ _ _ _ (groups ▸ count) (State.groupNumber_of_join_ok ok)] at taken
    rw [← groups, ← group]
    exact ⟨_, taken, rfl, rfl, State.markOnly_setMark rfl, rfl, rfl, after⟩
  case refused =>
    intro s p a g u receives room leased refused placed heard
    have group : u.group g.toNat = s.group g.toNat := heard ▸ s.group_heardState ..
    have outcome : u.groupJoinOutcome a.toNat g.toNat = s.groupJoinOutcome a.toNat g.toNat :=
      heard ▸ State.groupJoinOutcome_heardState leased ..
    obtain ⟨l, l', taken, after⟩ := exec_groupJoin_admitted p g receives room leased placed heard
    have fails : (u.joining l).groupJoinOutcome a.toNat g.toNat = s.groupJoinOutcome a.toNat g.toNat := outcome
    rw [State.takeGroupJoin_eq, fails, if_neg refused, State.answerGroup_joining, State.membersOf, group] at taken
    exact ⟨_, taken, rfl, after⟩
  case leaves =>
    intro s p a g u receives room leased member count placed heard
    have groups : u.groups = s.groups := heard ▸ s.heardState_groups ..
    have group : u.group g.toNat = s.group g.toNat := heard ▸ s.group_heardState ..
    have usable : u.usable a.toNat = s.usable a.toNat := heard ▸ State.usable_heardState leased ..
    obtain ⟨l, l', taken, after⟩ := exec_groupLeave_admitted p g receives room leased placed heard
    rw [← State.usable_eq, ← usable, ← group] at member
    rw [State.takeGroupLeave_removes (s := u.joining l) member, State.removeMember_regrouped,
      State.answerGroup_regrouped _ _ _ _ (groups ▸ count) member.1] at taken
    rw [← groups, ← group]
    exact ⟨_, taken, rfl, rfl, State.markOnly_setMark rfl, rfl, rfl, after⟩
  case stays =>
    intro s p a g u receives room leased other placed heard
    have group : u.group g.toNat = s.group g.toNat := heard ▸ s.group_heardState ..
    have usable : u.usable a.toNat = s.usable a.toNat := heard ▸ State.usable_heardState leased ..
    obtain ⟨l, l', taken, after⟩ := exec_groupLeave_admitted p g receives room leased placed heard
    rw [← State.usable_eq, ← usable, ← group] at other
    rw [State.takeGroupLeave_refused (s := u.joining l) other, State.answerGroup_joining, State.membersOf,
      group] at taken
    exact ⟨_, taken, rfl, after⟩
  case expands =>
    intro s p a g u receives room sender placed heard
    have group : u.group g.toNat = s.group g.toNat := heard ▸ s.group_heardState ..
    obtain ⟨l, l', taken, after⟩ := exec_groupExpand_admitted p g receives room sender placed heard
    rw [State.takeGroupExpand_eq, State.queueReply_joining] at taken
    rw [← group]
    exact ⟨_, taken, rfl, after⟩

end Sys2Proof.Machine
end

section
/-! Group Assign, Group Remove, Read Group, Set Group Mode and Clear Group, R138 and R139. -/

namespace Sys2Proof.Machine

theorem exec_groupAssign {s : State} (ready : s.port.state ≠ .busy) :
    exec .groupAssign s = .next (s.taken 0x40).groupAssign :=
  congrArg Host.Outcome.next (State.takeCommand_taken 0x40 State.groupAssign ready)

theorem exec_groupRemove {s : State} (ready : s.port.state ≠ .busy) :
    exec .groupRemove s = .next (s.taken 0x41).groupRemove :=
  congrArg Host.Outcome.next (State.takeCommand_taken 0x41 State.groupRemove ready)

theorem exec_readGroup {s : State} (ready : s.port.state ≠ .busy) :
    exec .readGroup s = .next (s.taken 0x42).readGroup :=
  congrArg Host.Outcome.next (State.takeCommand_taken 0x42 State.readGroup ready)

theorem exec_setGroupMode {s : State} (ready : s.port.state ≠ .busy) :
    exec .setGroupMode s = .next (s.taken 0x43).setGroupMode :=
  congrArg Host.Outcome.next (State.takeCommand_taken 0x43 State.setGroupMode ready)

theorem exec_clearGroup {s : State} (ready : s.port.state ≠ .busy) :
    exec .clearGroup s = .next (s.taken 0x44).clearGroup :=
  congrArg Host.Outcome.next (State.takeCommand_taken 0x44 State.clearGroup ready)

/-! ## Group Assign and Group Remove, R138 -/

/-- Group Assign ends with the outcome of its checks, and appends the address when that is OK. -/
theorem State.groupAssign_eq (s : State) :
    s.groupAssign =
      (if s.groupAssignOutcome (s.p 0) (s.p 1) = .ok then s.addMember (s.p 0) (s.p 1) else s).finish
        (s.groupAssignOutcome (s.p 0) (s.p 1)) := by
  unfold State.groupAssign State.groupAssignOutcome
  by_cases range : groupNumber (s.p 0) = false ∨ leasable (s.p 1) = false
  · have out : (groupNumber (s.p 0) && leasable (s.p 1)) = false := by
      rcases range with h | h <;> simp [h]
    simp [range, out]
  · have inRange : (groupNumber (s.p 0) && leasable (s.p 1)) = true := by simpa using range
    cases found : s.recordAt (s.p 1) with
    | none => simp [range, inRange, found]
    | some r =>
      by_cases member : s.p 1 ∈ (s.group (s.p 0)).members
      · simp [range, inRange, found, member]
      · by_cases full : 16 ≤ (s.group (s.p 0)).members.length
        · simp [range, inRange, found, member, full, Config.groupMembers]
        · by_cases exhausted : 256 ≤ memberTotal s.groups <;>
            simp [range, inRange, found, member, full, exhausted, State.freeEntries_eq_zero, Config.groupMembers]

theorem State.groupRemove_member {s : State} (number : groupNumber (s.p 0) = true) (leased : leasable (s.p 1) = true)
    (member : s.p 1 ∈ (s.group (s.p 0)).members) :
    s.groupRemove = (s.removeMember (s.p 0) (s.p 1)).finish .ok := by
  simp [State.groupRemove, number, leased, member]

theorem State.groupRemove_absent {s : State} (number : groupNumber (s.p 0) = true) (leased : leasable (s.p 1) = true)
    (absent : s.p 1 ∉ (s.group (s.p 0)).members) : s.groupRemove = s.finish .notMember := by
  simp [State.groupRemove, number, leased, absent]

theorem State.groupRemove_refused {s : State} (out : groupNumber (s.p 0) = false ∨ leasable (s.p 1) = false) :
    s.groupRemove = s.finish .badValue := by
  have outside : (!(groupNumber (s.p 0) && leasable (s.p 1))) = true := by simpa using out
  exact if_pos outside

/-! ## Commands on a group as a whole, R139 -/

theorem Gate.code_eq (m : Gate) : byteOf m.code = if m = .opened then 0 else 1 := by cases m <;> rfl

theorem gateOf_eq (n : Nat) : gateOf n = if n ≤ 1 then some (if n = 0 then .opened else .closed) else none := by
  match n with
  | 0 | 1 | _ + 2 => rfl

/-- Read Group of a list that fits in the buffer. -/
theorem State.readGroup_taken {s : State} (number : groupNumber (s.p 0) = true)
    (short : (s.group (s.p 0)).members.length ≤ 16) :
    (s.taken 0x42).readGroup = { s with
      port := s.port.shown 0x42
        [byteOf (s.group (s.p 0)).members.length, if (s.group (s.p 0)).mode = .opened then 0 else 1,
          byteOf ((256 - memberTotal s.groups) / 256), byteOf (256 - memberTotal s.groups)]
        (padded ((s.group (s.p 0)).members.map byteOf)) } := by
  have fits : ((s.group (s.p 0)).members.map byteOf).length ≤ 256 := by
    rw [List.length_map]
    omega
  rw [← Gate.code_eq, ← State.read_taken fits]
  exact if_pos number

theorem State.setGroupMode_sets {s : State} (number : groupNumber (s.p 0) = true) (named : s.p 1 ≤ 1) :
    s.setGroupMode = (s.setGroup (s.p 0) { s.group (s.p 0) with
      mode := if s.p 1 = 0 then .opened else .closed }).finish .ok := by
  rw [State.setGroupMode, gateOf_eq, if_pos named]
  exact if_pos number

theorem State.setGroupMode_refused {s : State} (out : groupNumber (s.p 0) = false ∨ 1 < s.p 1) :
    s.setGroupMode = s.finish .badValue := by
  rw [State.setGroupMode, gateOf_eq]
  rcases out with outside | unnamed
  · by_cases named : s.p 1 ≤ 1
    · rw [if_pos named]
      exact if_neg (outside ▸ Bool.false_ne_true)
    · rw [if_neg named]
  · rw [if_neg (Nat.not_le.mpr unnamed)]

/-- Alterations noted one after another move the marks alone. -/
theorem foldl_note_eq (e : MarkEvent) (as : List Nat) (s : State) :
    as.foldl (fun t a => t.note e a) s =
      { s with directory := { s.directory with marks := marksMoved e as s.directory.marks } } := by
  induction as generalizing s with
  | nil => rfl
  | cons a as ih => exact ih (s.note e a)

theorem State.clearGroup_eq {s : State} (number : groupNumber (s.p 0) = true) :
    s.clearGroup = State.finish .ok { s with
      groups := s.groups.set (s.p 0 - 1) { s.group (s.p 0) with members := [] }
      directory := { s.directory with
        marks := marksMoved .altered (s.group (s.p 0)).members s.directory.marks } } := by
  have emptied := foldl_note_eq .altered (s.group (s.p 0)).members
    (s.setGroup (s.p 0) { s.group (s.p 0) with members := [] })
  exact (if_pos number).trans (congrArg (State.finish .ok) emptied)

/-- Settles O49, by the command and the check that decides it. -/
theorem groupCommandsEditTheListsByTheirChecks : Obligations.GroupCommandsEditTheListsByTheirChecks := by
  refine ⟨?assigns, ?refused, ?removes, ?absent, ?outside, ?reads, ?sets, ?unnamed, ?clears, ?unread, ?uncleared⟩
  case assigns =>
    intro s ready _ ok
    have passes : (s.taken 0x40).groupAssignOutcome ((s.taken 0x40).p 0) ((s.taken 0x40).p 1) = .ok := ok
    rw [exec_groupAssign ready, State.groupAssign_eq, passes, if_pos rfl]
    exact ⟨_, rfl, rfl, rfl, State.markOnly_setMark rfl, rfl⟩
  case refused =>
    intro s ready refused
    rw [exec_groupAssign ready, State.groupAssign_eq]
    have refused' : (s.taken 0x40).groupAssignOutcome ((s.taken 0x40).p 0) ((s.taken 0x40).p 1) ≠ .ok := refused
    rw [if_neg refused']
    rfl
  case removes =>
    intro s ready number leased member _
    rw [exec_groupRemove ready, State.groupRemove_member (s := s.taken 0x41) number leased member]
    exact ⟨_, rfl, rfl, rfl, State.markOnly_setMark rfl, rfl⟩
  case absent =>
    intro s ready number leased absent
    rw [exec_groupRemove ready, State.groupRemove_absent (s := s.taken 0x41) number leased absent,
      State.finish_taken]
  case outside =>
    intro s ready out
    rw [exec_groupRemove ready, State.groupRemove_refused (s := s.taken 0x41) out, State.finish_taken]
  case reads =>
    intro s ready number short _
    rw [exec_readGroup ready, State.readGroup_taken number short]
  case sets =>
    intro s ready number named
    rw [exec_setGroupMode ready, State.setGroupMode_sets (s := s.taken 0x43) number named]
    rfl
  case unnamed =>
    intro s ready out
    rw [exec_setGroupMode ready, State.setGroupMode_refused (s := s.taken 0x43) out, State.finish_taken]
  case clears =>
    intro s ready number grouped
    rw [exec_clearGroup ready, State.clearGroup_eq (s := s.taken 0x44) number]
    exact ⟨_, rfl, rfl, rfl, fun b _ => markIn_marksMoved (grouped.nodup _) .altered s.directory.marks b, rfl⟩
  case unread =>
    intro s ready outside
    have unnamed : ¬ groupNumber ((s.taken 0x42).p 0) = true := Bool.eq_false_iff.mp outside
    rw [exec_readGroup ready, ← State.finish_taken]
    exact congrArg Host.Outcome.next (if_neg unnamed)
  case uncleared =>
    intro s ready outside
    have unnamed : ¬ groupNumber ((s.taken 0x44).p 0) = true := Bool.eq_false_iff.mp outside
    rw [exec_clearGroup ready, ← State.finish_taken]
    exact congrArg Host.Outcome.next (if_neg unnamed)

end Sys2Proof.Machine
end

section
/-! What any step keeps of the Transmit Queue (R150, R151, R173), of the line (R143, R155), of the pacing set (R52) and of
the port (R157, R160): the laws, and one rule for each shared operation that touches them. -/

namespace Sys2Proof.Machine

/-! ## What most operations leave alone -/

/-- The line, the queue, the parameters, the port, the pacing set and the count of the free values drawn. -/
def State.outward (s : State) : Line × TxQueue × Params × Port × List Nat × Nat :=
  (s.line, s.queue, s.params, s.port, s.directory.pacing, s.chance)

theorem State.endRecord_outward (place : Place) (r : Record) (s : State) :
    (s.endRecord place r).outward = s.outward := by
  rw [State.endRecord_eq]
  rfl

theorem State.lapseRecord_outward (r : Record) (s : State) : (s.lapseRecord r).outward = s.outward := by
  rw [State.lapseRecord_eq]
  rfl

theorem State.fillRival_outward (r : Record) (i : Identity) (s : State) : (s.fillRival r i).outward = s.outward := by
  unfold State.fillRival
  split <;> rfl

theorem State.addClaimGroups_outward (a : Nat) (gs : List Nat) (s : State) :
    (s.addClaimGroups a gs).1.outward = s.outward := by
  rw [State.addClaimGroups_frame]
  rfl

theorem State.resolveRival_outward (i : Identity) (s : State) : (s.resolveRival i).outward = s.outward :=
  List.foldlRecOn (motive := fun u : State => u.outward = s.outward) _ _ rfl fun _ same _ _ => same

theorem State.clearedMarks_outward (l : List Nat) (s : State) :
    (l.foldl (fun u a => u.note .altered a) s).outward = s.outward :=
  List.foldlRecOn (motive := fun u : State => u.outward = s.outward) _ _ rfl fun _ same _ _ => same

theorem State.grantRenew_outward (r : Record) (requested : Nat) (s : State) :
    (s.grantRenew r requested).outward = s.outward := by
  unfold State.grantRenew
  dsimp only
  split <;> rfl

theorem State.grantClaim_outward (r : Record) (term : Nat) (s : State) :
    (s.grantClaim r term).outward = s.outward := by
  unfold State.grantClaim
  dsimp only
  split <;> rfl

theorem State.expireOffer_outward (r : Record) (o : OfferContext) (s : State) :
    (s.expireOffer r o).outward = s.outward := by
  unfold State.expireOffer
  split
  · exact State.endRecord_outward ..
  · rfl
  · split
    · rfl
    · exact State.lapseRecord_outward ..

theorem State.placeDiscarded_outward (c : ProbeContext) (s : State) : (s.placeDiscarded c).outward = s.outward := by
  unfold State.placeDiscarded
  split
  · split <;> rfl
  · rfl

theorem State.failLapseProbe_outward (r : Record) (attempt : Nat) (s : State) :
    (s.failLapseProbe r attempt).outward = s.outward := by
  unfold State.failLapseProbe
  dsimp only
  split
  · rfl
  · exact State.endRecord_outward ..

theorem State.reserveOne_outward (e : ReservationEntry) (s : State) : (s.reserveOne e).1.outward = s.outward := by
  unfold State.reserveOne
  split <;> rfl

theorem State.reserveAll_outward (es : List ReservationEntry) (s : State) :
    (s.reserveAll es).1.outward = s.outward := by
  induction es generalizing s with
  | nil => rfl
  | cons e es ih => exact (ih _).trans (State.reserveOne_outward e s)

theorem State.proberPart_outward (s : State) : s.proberPart.outward = s.outward := by
  rw [State.proberPart_frame]
  rfl

/-! ## The laws -/

/-- The entries in transmission. -/
def State.sendingCount (s : State) : Nat := (s.queue.entries.filter (fun e => e.sending)).length

/-- The law of the line, and an entry in transmission exactly in the transmitting phase. -/
structure State.Phased (s : State) : Prop where
  lined : s.Lined
  sending : s.sendingCount = if s.line.phase = .transmitting then 1 else 0

/-- The law of the queue's entries with so many places set aside, inside a step that admits a request (R148), and the
parameters that fix a new entry's limit in their ranges. -/
structure State.Stocked (s : State) (places : Nat) : Prop where
  ranged : s.Ranged
  setAside : s.queue.setAside = places
  entries : s.queue.entries.length + places ≤ 8
  replies : replyCount s.queue.entries + places ≤ 6
  fits : ∀ e ∈ s.queue.entries, e.fits = true

/-- The law of the queue between steps is that of its entries with no place set aside, and that of the phase. -/
theorem State.Queued.stocked {s : State} (h : s.Queued) (ranged : s.Ranged) : s.Stocked 0 := by
  obtain ⟨entries, replies, setAside, fits, -⟩ := h
  exact ⟨ranged, setAside, entries, replies, fits⟩

theorem State.Queued.phased {s : State} (h : s.Queued) (lined : s.Lined) : s.Phased := by
  obtain ⟨-, -, -, -, sending⟩ := h
  exact ⟨lined, sending⟩

theorem State.Stocked.queued {s : State} (h : s.Stocked 0) (phased : s.Phased) : s.Queued :=
  ⟨h.entries, h.replies, h.setAside, h.fits, phased.sending⟩

/-- What leads from one state to another keeps each of the laws, where so many places are set aside before it and so
many after. -/
structure State.Keeps (s : State) (before after : Nat) (t : State) : Prop where
  phased : s.Phased → t.Phased
  stocked : s.Phased → s.Stocked before → t.Stocked after
  paced : s.Paced → t.Paced
  ported : s.Ported → t.Ported

theorem State.Keeps.refl (s : State) (n : Nat) : s.Keeps n n s := ⟨id, fun _ => id, id, id⟩

theorem State.Keeps.trans {s t u : State} {m n k : Nat} (h : s.Keeps m n t) (g : t.Keeps n k u) : s.Keeps m k u :=
  ⟨fun p => g.phased (h.phased p), fun p q => g.stocked (h.phased p) (h.stocked p q), fun p => g.paced (h.paced p),
    fun p => g.ported (h.ported p)⟩

section Operations

variable {s t : State} {m n : Nat}

/-! ## One block written -/

/-- The laws are about nothing else. -/
theorem State.Keeps.beside {u : State} (h : s.Keeps m n t) (same : u.outward = t.outward) : s.Keeps m n u := by
  simp only [State.outward, Prod.mk.injEq] at same
  obtain ⟨line, queue, params, port, pacing, -⟩ := same
  refine h.trans ⟨fun p => ⟨?_, ?_⟩, fun _ q => ⟨?_, ?_, ?_, ?_, ?_⟩, fun p => ?_, fun p => ?_⟩
  · simpa only [State.Lined, line] using p.lined
  · simpa only [State.sendingCount, queue, line] using p.sending
  · simpa only [State.Ranged, params] using q.ranged
  · simpa only [queue] using q.setAside
  · simpa only [queue] using q.entries
  · simpa only [queue] using q.replies
  · simpa only [queue] using q.fits
  · simpa only [State.Paced, pacing] using p
  · simpa only [State.Ported, port] using p

theorem State.Keeps.setDirectory (h : s.Keeps m n t) {d : Directory} (paced : t.Paced → (t.setDirectory d).Paced) :
    s.Keeps m n (t.setDirectory d) :=
  h.trans ⟨fun p => ⟨p.lined, p.sending⟩, fun _ q => ⟨q.ranged, q.setAside, q.entries, q.replies, q.fits⟩, paced, id⟩

theorem State.Keeps.setPort (h : s.Keeps m n t) {p : Port} (ported : t.Ported → (t.setPort p).Ported) :
    s.Keeps m n (t.setPort p) :=
  h.trans ⟨fun p => ⟨p.lined, p.sending⟩, fun _ q => ⟨q.ranged, q.setAside, q.entries, q.replies, q.fits⟩, id, ported⟩

theorem State.Keeps.setParams (h : s.Keeps m n t) {p : Params} (ranged : t.Ranged → (t.setParams p).Ranged) :
    s.Keeps m n (t.setParams p) :=
  h.trans ⟨fun p => ⟨p.lined, p.sending⟩, fun _ q => ⟨ranged q.ranged, q.setAside, q.entries, q.replies, q.fits⟩, id,
    id⟩

theorem State.Keeps.onLine (h : s.Keeps m n t) {l : Line} {c : Nat} (phased : t.Phased → (t.onLine l c).Phased) :
    s.Keeps m n (t.onLine l c) :=
  h.trans ⟨phased, fun _ q => ⟨q.ranged, q.setAside, q.entries, q.replies, q.fits⟩, id, id⟩

theorem State.Keeps.setQueue {k : Nat} (h : s.Keeps m n t) {q : TxQueue}
    (sending : (t.setQueue q).sendingCount = t.sendingCount) (stocked : t.Stocked n → (t.setQueue q).Stocked k) :
    s.Keeps m k (t.setQueue q) :=
  h.trans ⟨fun p => ⟨p.lined, sending.trans p.sending⟩, fun _ => stocked, id, id⟩

theorem State.Keeps.setCensus (h : s.Keeps m n t) (c : Census) : s.Keeps m n (t.setCensus c) := h.beside rfl

theorem State.Keeps.setProber (h : s.Keeps m n t) (p : Prober) : s.Keeps m n (t.setProber p) := h.beside rfl

theorem State.Keeps.setClock (h : s.Keeps m n t) (c : Clock) : s.Keeps m n (t.setClock c) := h.beside rfl

theorem State.Keeps.putRecord (h : s.Keeps m n t) (r : Record) : s.Keeps m n (t.putRecord r) := h.beside rfl

theorem State.Keeps.note (h : s.Keeps m n t) (e : MarkEvent) (a : Nat) : s.Keeps m n (t.note e a) := h.beside rfl

theorem State.Keeps.dropLapse (h : s.Keeps m n t) (a : Nat) : s.Keeps m n (t.dropLapse a) := h.beside rfl

theorem State.Keeps.bindRecord (h : s.Keeps m n t) (r : Record) : s.Keeps m n (t.bindRecord r) := h.beside rfl

theorem State.Keeps.takeAddress (h : s.Keeps m n t) (a : Nat) : s.Keeps m n (t.takeAddress a) := h.beside rfl

theorem State.Keeps.createRecord (h : s.Keeps m n t) (r : Record) : s.Keeps m n (t.createRecord r) := h.beside rfl

theorem State.Keeps.setGroup (h : s.Keeps m n t) (g : Nat) (v : Group) : s.Keeps m n (t.setGroup g v) := h.beside rfl

theorem State.Keeps.strike (h : s.Keeps m n t) (a : Nat) : s.Keeps m n (t.strike a) := h.beside rfl

/-! ## The port, R158, R160 and R169 -/

/-- A latched cause is one of the six. -/
theorem latched_or_bit (c : Cause) {x : Byte} (six : x &&& ~~~latchedMask = 0) :
    (x ||| c.bit) &&& ~~~latchedMask = 0 := by
  have one : c.bit &&& ~~~latchedMask = 0 := by cases c <;> decide
  rw [BitVec.and_comm, BitVec.and_or_distrib_left, BitVec.and_comm, six, BitVec.and_comm, one]
  rfl

theorem State.Keeps.raise (h : s.Keeps m n t) (c : Cause) : s.Keeps m n (t.raise c) :=
  h.setPort fun ⟨parameters, buffer, latched, enables, error⟩ =>
    ⟨parameters, buffer, latched_or_bit c latched, enables, error⟩

/-- A command completes, with ERROR as its outcome says. -/
theorem State.Keeps.complete (h : s.Keeps m n t) (o : OutcomeCode) (results : Bool) :
    s.Keeps m n (t.complete o results) := by
  refine State.Keeps.raise (h.setPort fun ⟨parameters, buffer, latched, enables, _⟩ => ?_) .done
  exact ⟨parameters, buffer, latched, enables, by cases results <;> rfl⟩

theorem State.Keeps.finish (h : s.Keeps m n t) (o : OutcomeCode) : s.Keeps m n (t.finish o) := h.complete o false

theorem State.Keeps.setResults (h : s.Keeps m n t) {bs : List Byte} (few : bs.length ≤ 8) :
    s.Keeps m n (t.setResults bs) :=
  State.Keeps.setPort h fun ⟨parameters, buffer, latched, enables, error⟩ =>
    ⟨t.length_parameters_setResults bs parameters few, buffer, latched, enables, error⟩

theorem State.Keeps.setBuffer (h : s.Keeps m n t) (bs : List Byte) (upTo : Nat) : s.Keeps m n (t.setBuffer bs upTo) :=
  State.Keeps.setPort h fun ⟨parameters, buffer, latched, enables, error⟩ =>
    ⟨parameters, t.length_buffer_setBuffer bs upTo buffer, latched, enables, error⟩

/-! ## The Transmit Queue, R150 and R151 -/

theorem replyCount_append (es fs : List TxEntry) : replyCount (es ++ fs) = replyCount es + replyCount fs := by
  simp [replyCount]

/-- An entry queued now has attempts left: its limit is the parameter's value, or 1. -/
theorem State.Ranged.entryOf_fits {s : State} (ranged : s.Ranged) (cls : TxClass) (o : Originator) (f : Frame) :
    (s.entryOf cls o f).fits = true := by
  simp only [State.Ranged, Params.inRange, Bool.and_eq_true, decide_eq_true_eq] at ranged
  have limit : 1 ≤ (s.entryOf cls o f).limit ∧ (s.entryOf cls o f).limit ≤ 8 := by
    simp only [State.entryOf]
    split <;> omega
  have check : ((s.entryOf cls o f).check == (s.entryOf cls o f).frame.check) = true := beq_self_eq_true _
  rw [TxEntry.fits, check, decide_eq_true limit.2, decide_eq_true (show _ < _ from limit.1)]
  rfl

theorem State.sendingCount_enqueue (cls : TxClass) (o : Originator) (f : Frame) (s : State) :
    (s.enqueue cls o f).sendingCount = s.sendingCount := by
  simp [State.sendingCount, State.enqueue_eq]

/-- A DIRECTORY-class frame enters a free entry. -/
theorem State.Keeps.enqueue (h : s.Keeps m n t) (free : t.hasFreeEntry = true) (o : Originator) (f : Frame) :
    s.Keeps m n (t.enqueue .directory o f) := by
  refine h.setQueue (State.sendingCount_enqueue ..) fun q => ⟨q.ranged, q.setAside, ?_, ?_, fun e he => ?_⟩
  · have room := State.hasFreeEntry_iff.mp free
    rw [q.setAside] at room
    simp only [State.setQueue_queue, List.length_append, List.length_singleton]
    omega
  · rw [State.setQueue_queue, replyCount_append]
    exact q.replies
  · rcases List.mem_append.mp he with old | new
    · exact q.fits e old
    · exact List.mem_singleton.mp new ▸ q.ranged.entryOf_fits .directory o f

theorem State.Keeps.claimOrDrop (h : s.Keeps m n t) (o : Originator) (f : Frame) :
    s.Keeps m n (t.claimOrDrop o f) := by
  unfold State.claimOrDrop
  split
  · next granted =>
    obtain ⟨-, free⟩ := Bool.and_eq_true_iff.mp granted
    exact h.enqueue free o f
  · exact h

/-- A reply takes a place set aside for it, R72. -/
theorem State.Keeps.queueReply (h : s.Keeps m (n + 1) t) (o : Originator) (f : Frame) :
    s.Keeps m n (t.queueReply o f) := by
  refine h.setQueue (State.sendingCount_enqueue ..) fun q => ⟨q.ranged, ?_, ?_, ?_, fun e he => ?_⟩
  · exact congrArg (fun k => k - 1) q.setAside
  · have room := q.entries
    simp only [State.setQueue_queue, List.length_append, List.length_singleton]
    omega
  · have room := q.replies
    have one : replyCount [t.entryOf .reply o f] = 1 := rfl
    have all := replyCount_append t.queue.entries [t.entryOf .reply o f]
    change replyCount (t.queue.entries ++ [t.entryOf .reply o f]) + n ≤ 6
    omega
  · rcases List.mem_append.mp he with old | new
    · exact q.fits e old
    · exact List.mem_singleton.mp new ▸ q.ranged.entryOf_fits .reply o f

/-- A place is set aside where there is reply room, R148. -/
theorem State.Keeps.placeSetAside (h : s.Keeps m n t) (room : t.replyRoom = true) :
    s.Keeps m (n + 1) t.placeSetAside := by
  obtain ⟨replies, entries⟩ := State.replyRoom_iff.mp room
  refine h.setQueue rfl fun q => ?_
  rw [q.setAside] at replies entries
  exact ⟨q.ranged, congrArg (fun k => k + 1) q.setAside, entries, replies, q.fits⟩

/-- Entries written again in their places, each with its class, its counts and its place on the line. -/
theorem State.Keeps.rewrite (h : s.Keeps m n t) {g : TxEntry → TxEntry} {w : Option Frame}
    (sending : ∀ e, (g e).sending = e.sending) (cls : ∀ e, (g e).cls = e.cls)
    (fits : ∀ e, e.fits = true → (g e).fits = true) :
    s.Keeps m n (t.setQueue { t.queue with entries := t.queue.entries.map g, waiting := w }) := by
  have count : (t.queue.entries.map g).filter (fun e => e.sending) =
      (t.queue.entries.filter (fun e => e.sending)).map g := by
    simp only [List.filter_map, Function.comp_def, sending]
  have replies : replyCount (t.queue.entries.map g) = replyCount t.queue.entries := by
    simp only [replyCount, List.filter_map, Function.comp_def, cls, List.length_map]
  refine h.setQueue ?_ fun q => ⟨q.ranged, q.setAside, ?_, ?_, fun e he => ?_⟩
  · simp only [State.sendingCount, State.setQueue_queue, count, List.length_map]
  · simpa only [State.setQueue_queue, List.length_map] using q.entries
  · simpa only [State.setQueue_queue, replies] using q.replies
  · obtain ⟨e, old, rfl⟩ := List.mem_map.mp he
    exact fits e (q.fits e old)

theorem detachProbe_fits (e : TxEntry) : (detachProbe e).fits = e.fits := by
  unfold detachProbe
  split <;> rfl

theorem detachCommand_fits (e : TxEntry) : (detachCommand e).fits = e.fits := by
  unfold detachCommand
  split <;> rfl

theorem detachCommand_cls (e : TxEntry) : (detachCommand e).cls = e.cls := by
  unfold detachCommand
  split <;> rfl

theorem State.Keeps.emptyContext (h : s.Keeps m n t) : s.Keeps m n t.emptyContext :=
  State.Keeps.rewrite (h.setProber { t.prober with context := none }) detachProbe_sending
    detachProbe_cls fun e fits => (detachProbe_fits e).trans fits

/-- A claim begins or ceases to wait. -/
theorem State.Keeps.setWaiting (h : s.Keeps m n t) (w : Option Frame) :
    s.Keeps m n (t.setQueue { t.queue with waiting := w }) :=
  h.setQueue rfl fun q => ⟨q.ranged, q.setAside, q.entries, q.replies, q.fits⟩

theorem State.Keeps.grantWaiting (h : s.Keeps m n t) : s.Keeps m n t.grantWaiting := by
  unfold State.grantWaiting
  split
  · split
    · next free => exact State.Keeps.enqueue (h.setWaiting none) free _ _
    · exact h
  · exact h

theorem State.Keeps.commandRevoke (h : s.Keeps m n t) (f : Frame) : s.Keeps m n (t.commandRevoke f) := by
  unfold State.commandRevoke
  split
  · exact h.finish _
  split
  · next free => exact h.enqueue free _ _
  · exact h.setWaiting _

theorem State.Keeps.queueCensus (h : s.Keeps m n t) : s.Keeps m n t.queueCensus := by
  unfold State.queueCensus
  dsimp only
  split
  · refine State.Keeps.rewrite h (fun e => ?_) (fun e => ?_) fun e fits => ?_
    · unfold TxEntry.updateCensus
      split <;> rfl
    · unfold TxEntry.updateCensus
      split <;> rfl
    · unfold TxEntry.updateCensus
      split
      · simp only [TxEntry.fits, Bool.and_eq_true] at fits ⊢
        exact ⟨fits.1, beq_self_eq_true _⟩
      · exact fits
  · exact h.claimOrDrop _ _

theorem State.Keeps.beginCensus (h : s.Keeps m n t) : s.Keeps m n t.beginCensus :=
  (h.setCensus _).queueCensus

theorem State.Keeps.finishCensus (h : s.Keeps m n t) : s.Keeps m n t.finishCensus :=
  (h.setCensus { t.census with mode := .serving, window := 0 }).raise .census

/-! ## Disputes, R108 to R111 -/

theorem State.Keeps.endRecord (h : s.Keeps m n t) (place : Place) (r : Record) : s.Keeps m n (t.endRecord place r) :=
  h.beside (State.endRecord_outward ..)

theorem State.Keeps.retire (h : s.Keeps m n t) (r : Record) : s.Keeps m n (t.retire r) := h.endRecord _ r

theorem State.Keeps.revokeDisputed (h : s.Keeps m n t) (r : Record) : s.Keeps m n (t.revokeDisputed r) :=
  (h.claimOrDrop _ _).retire r

theorem State.Keeps.raiseDispute (h : s.Keeps m n t) (r : Record) (rival : Option Identity) :
    s.Keeps m n (t.raiseDispute r rival) := by
  have entered : s.Keeps m n (t.enterDisputed r rival) := h.beside rfl
  unfold State.raiseDispute
  dsimp only
  split
  · exact entered.raise _
  · exact entered.revokeDisputed r

theorem State.Keeps.takeEvidence (h : s.Keeps m n t) (r : Record) (i : Identity) :
    s.Keeps m n (t.takeEvidence r i) := by
  unfold State.takeEvidence
  split
  · exact h.beside (State.fillRival_outward ..)
  split
  · exact h
  · exact h.raiseDispute r _

/-! ## The Prober, R90 to R98 -/

theorem State.Keeps.applyOutcome (h : s.Keeps m n t) (c : ProbeContext) (o : ProbeOutcome) (r : Record) :
    s.Keeps m n (t.applyOutcome c o r) := by
  unfold State.applyOutcome
  split
  · split
    · exact h.bindRecord _
    · exact h.raiseDispute r _
  · exact h.beside (State.failLapseProbe_outward ..)
  · split
    · exact h.putRecord _
    · exact h.raiseDispute r _
  · exact h.beside (State.lapseRecord_outward ..)

theorem State.Keeps.endAttempt (h : s.Keeps m n t) (o : ProbeOutcome) : s.Keeps m n (t.endAttempt o) := by
  unfold State.endAttempt
  split
  · exact h
  split
  · exact h.emptyContext.applyOutcome _ _ _
  · exact h.emptyContext.beside (State.placeDiscarded_outward ..)

theorem State.Keeps.discardContext (h : s.Keeps m n t) : s.Keeps m n t.discardContext := by
  have emptied := h.emptyContext
  unfold State.discardContext
  split
  · exact h
  split
  · split
    · exact emptied.beside rfl
    · exact emptied
  · exact emptied

theorem State.Keeps.takeTarget (h : s.Keeps m n t) (free : t.hasFreeEntry = true) (r : Record) (kind : ProbeKind)
    (attempt : Nat) : s.Keeps m n (t.takeTarget r kind attempt) := by
  refine State.Keeps.enqueue (h.setProber _) ?_ _ _
  exact free

theorem State.Keeps.sweepOn (h : s.Keeps m n t) (free : t.hasFreeEntry = true) (w : Sweep) :
    s.Keeps m n (t.sweepOn w) := by
  unfold State.sweepOn
  split
  · refine State.Keeps.takeTarget (h.setProber _) ?_ _ _ _
    exact free
  · unfold State.endPass
    dsimp only
    split
    · exact (h.setProber _).raise _
    · exact h.setProber _

theorem State.Keeps.choose (h : s.Keeps m n t) (free : t.hasFreeEntry = true) : s.Keeps m n t.choose := by
  unfold State.choose
  split
  · split
    · exact (h.dropLapse _).takeTarget free _ _ _
    · exact h
  split
  · split
    · exact h.sweepOn free _
    · exact h
  · exact h

theorem State.Keeps.report (h : s.Keeps m n t) (o : Originator) (sent : Bool) : s.Keeps m n (t.report o sent) := by
  unfold State.report
  split
  · split
    · split
      · split
        · exact h.setProber _
        · exact h.endAttempt _
      · exact h
    · exact h
  · exact h.finish _
  all_goals exact h

/-! ## The epoch expiry, R41 -/

theorem State.Keeps.directoryPart (h : s.Keeps m n t) : s.Keeps m n t.directoryPart := by
  have aged : s.Keeps m n t.ageTerms := List.foldlRecOn (motive := fun u : State => s.Keeps m n u) _ _ (h.beside rfl)
    fun _ kept _ _ => kept.beside (State.lapseRecord_outward ..)
  have held : s.Keeps m n t.ageTerms.countQuiet.countHolds :=
    List.foldlRecOn (motive := fun u : State => s.Keeps m n u) _ _ (aged.beside rfl) fun _ kept r _ => kept.revokeDisputed r
  exact held.setDirectory fun _ => ⟨List.nodup_nil, fun _ none => nomatch none⟩

theorem State.Keeps.partOf (h : s.Keeps m n t) (o : EpochOwner) : s.Keeps m n (t.partOf o) := by
  cases o with
  | leaseDirectory => exact h.directoryPart
  | addressPool => exact h.beside rfl
  | prober => exact h.beside (State.proberPart_outward t)
  | censusUnit =>
    simp only [State.partOf, State.censusPart]
    split
    · split
      · exact (h.setCensus _).queueCensus
      · exact h.finishCensus
    · exact h

theorem State.Keeps.takePart (h : s.Keeps m n t) (o : EpochOwner) : s.Keeps m n (t.takePart o) := by
  unfold State.takePart
  split
  · exact h
  · exact (h.partOf o).setClock _

theorem State.Keeps.expire (h : s.Keeps m n t) (order : List EpochOwner) : s.Keeps m n (t.expire order) :=
  State.Keeps.setClock (t := t.takeParts order) (List.foldlRecOn _ _ h fun _ kept o _ => kept.takePart o) _

theorem State.Keeps.finishExpiry (h : s.Keeps m n t) : s.Keeps m n t.finishExpiry := by
  unfold State.finishExpiry
  split
  · exact h.expire []
  · exact h

end Operations

end Sys2Proof.Machine
end

section
/-! The same laws under the heard events, the requests that admission takes (R147, R148), and the host's commands. -/

namespace Sys2Proof.Machine

section Requests

variable {s t : State} {m n : Nat}

/-! ## Heard events, R47 to R49, R80 and R81 -/

/-- A stray's address joins the pacing set once, R52. -/
theorem State.Paced.append {s : State} {a : Nat} (h : s.Paced) (leased : leasable a = true)
    (fresh : a ∉ s.directory.pacing) :
    (s.setDirectory { s.directory with pacing := s.directory.pacing ++ [a] }).Paced := by
  obtain ⟨nodup, leasables⟩ := h
  refine ⟨List.nodup_append.mpr ⟨nodup, List.nodup_singleton a, fun b hb c hc same => ?_⟩, fun b hb => ?_⟩
  · exact fresh (List.mem_singleton.mp hc ▸ same ▸ hb)
  · rcases List.mem_append.mp hb with old | new
    · exact leasables b old
    · exact List.mem_singleton.mp new ▸ leased

theorem State.Keeps.handleStray (h : s.Keeps m n t) {a : Nat} (leased : leasable a = true) :
    s.Keeps m n (t.handleStray a) := by
  unfold State.handleStray
  split
  · exact h
  · next revokes =>
    simp only [Bool.or_eq_true, decide_eq_true_eq, List.contains_iff_mem, Bool.not_eq_true', not_or,
      Bool.not_eq_false] at revokes
    obtain ⟨⟨-, fresh⟩, granted⟩ := revokes
    obtain ⟨-, free⟩ := Bool.and_eq_true_iff.mp granted
    exact (h.enqueue free .stray (untargetedRevoke a)).setDirectory fun paced => paced.append leased fresh

theorem State.Keeps.heard (h : s.Keeps m n t) (f : Frame) : s.Keeps m n (t.heard f) := by
  unfold State.heard State.heardFrom
  split
  · next leased =>
    split
    · exact h.handleStray leased
    · dsimp only
      split
      · exact h.handleStray leased
      · exact h
      · exact h.putRecord _
      · exact h.putRecord _
      · split
        · exact h.bindRecord _
        · exact h.putRecord _
  · exact h

/-! ## The owners of the requests -/

theorem State.Keeps.refuseJoin (h : s.Keeps m (n + 1) t) (i : Identity) (q : RefusalReason) :
    s.Keeps m n (t.refuseJoin i q) := by
  have replied := h.queueReply .joinUnit (joinRefusedFrame i q)
  cases q with
  | full | poolEmpty => exact replied.raise _
  | census | closed | disputed | busy => exact replied

theorem State.Keeps.queueOffer (h : s.Keeps m (n + 1) t) (r : Record) (term : Nat) :
    s.Keeps m n (t.queueOffer r term) := h.queueReply _ _

theorem State.Keeps.offerAgain (h : s.Keeps m (n + 1) t) (o : Origin) (r : Record) (requested : Nat) :
    s.Keeps m n (t.offerAgain o r requested) := (((h.putRecord _).dropLapse _).note _ _).queueOffer _ _

theorem State.Keeps.offerNew (h : s.Keeps m (n + 1) t) (i : Identity) (address requested : Nat) :
    s.Keeps m n (t.offerNew i address requested) := ((h.takeAddress _).createRecord _).queueOffer _ _

theorem State.Keeps.resendOffer (h : s.Keeps m (n + 1) t) (r : Record) : s.Keeps m n (t.resendOffer r) := by
  unfold State.resendOffer
  split
  · exact (h.putRecord _).queueOffer _ _
  · exact h.queueOffer _ _

theorem State.Keeps.joinKnown (h : s.Keeps m (n + 1) t) (r : Record) (requested : Nat) :
    s.Keeps m n (t.joinKnown r requested) := by
  have offers (o : Origin) : s.Keeps m n (if t.countIn .offered < Config.maxOffered then t.offerAgain o r requested
      else t.refuseJoin r.identity .busy) := by
    split
    · exact h.offerAgain _ _ _
    · exact h.refuseJoin _ _
  unfold State.joinKnown
  split
  · exact offers _
  · exact offers _
  · exact offers _
  · exact h.resendOffer _
  · exact h.refuseJoin _ _

theorem State.Keeps.takeJoin (h : s.Keeps m (n + 1) t) (i : Identity) (hint requested : Nat) :
    s.Keeps m n (t.takeJoin i hint requested) := by
  unfold State.takeJoin
  split
  · exact h.refuseJoin _ _
  split
  · exact h.refuseJoin _ _
  split
  · exact h.joinKnown _ _
  split
  · exact h.refuseJoin _ _
  split
  · exact h.refuseJoin _ _
  split
  · exact h.offerNew _ _ _
  · exact h.refuseJoin _ _

theorem State.Keeps.takeAccept (h : s.Keeps m n t) (a : Nat) (i : Identity) : s.Keeps m n (t.takeAccept a i) := by
  unfold State.takeAccept
  split
  · split
    · split
      · exact (h.bindRecord _).beside (State.resolveRival_outward ..)
      · exact h.claimOrDrop _ _
    · exact h.claimOrDrop _ _
  · exact h.claimOrDrop _ _

theorem State.Keeps.takeRenew (h : s.Keeps m (n + 1) t) (a : Nat) (i : Identity) (requested : Nat) :
    s.Keeps m n (t.takeRenew a i requested) := by
  unfold State.takeRenew
  split
  · exact h.queueReply _ _
  · split
    · exact h.queueReply _ _
    · exact h.queueReply _ _
    · exact (h.takeEvidence _ _).queueReply _ _
    all_goals
      split
      · exact (h.beside (State.grantRenew_outward ..)).queueReply _ _
      · exact (h.takeEvidence _ _).queueReply _ _

theorem State.Keeps.takeLeave (h : s.Keeps m n t) (a : Nat) (i : Identity) : s.Keeps m n (t.takeLeave a i) := by
  have left (r : Record) : s.Keeps m n (if r.identity = i then t.retire r else t) := by
    split
    · exact h.retire r
    · exact h
  unfold State.takeLeave
  split
  · exact h
  · split
    · exact left _
    · exact left _
    · exact left _
    · exact h
    · exact h

theorem State.Keeps.takeClashReport (h : s.Keeps m n t) (a : Nat) (i : Identity) :
    s.Keeps m n (t.takeClashReport a i) := by
  unfold State.takeClashReport
  split
  · exact h
  · split
    · exact h.raiseDispute _ _
    · exact h.raiseDispute _ _
    · exact h.beside (State.fillRival_outward ..)
    · exact h
    · exact h

theorem State.Keeps.takeProbeReply (h : s.Keeps m n t) (a : Nat) (i : Identity) :
    s.Keeps m n (t.takeProbeReply a i) := by
  unfold State.takeProbeReply
  split
  · split
    · exact h.endAttempt _
    · exact h
  · exact h

theorem State.Keeps.answerGranted (h : s.Keeps m (n + 1) t) (a term : Nat) (groups : List Nat) :
    s.Keeps m n (t.answerGranted a term groups) :=
  (h.beside (State.addClaimGroups_outward a groups t)).queueReply _ _

theorem State.Keeps.claimAgainst (h : s.Keeps m (n + 1) t) (r : Record) (i : Identity) (term : Nat)
    (groups : List Nat) : s.Keeps m n (t.claimAgainst r i term groups) := by
  have disputed : s.Keeps m n ((t.raiseDispute r (some i)).answerClaim r.address .disputed) :=
    (h.raiseDispute _ _).queueReply _ _
  have supplanted : s.Keeps m (n + 1) ((t.endRecord .passedOn r).createRecord (claimedRecord r.address i term)) :=
    (h.endRecord _ _).createRecord _
  unfold State.claimAgainst
  split
  · exact disputed
  · exact disputed
  · exact disputed
  · exact (h.beside (State.fillRival_outward ..)).queueReply _ _
  · split
    · exact disputed
    · exact supplanted.answerGranted _ _ _

theorem State.Keeps.takeClaim (h : s.Keeps m (n + 1) t) (a : Nat) (i : Identity) (requested : Nat)
    (groups : List Nat) : s.Keeps m n (t.takeClaim a i requested groups) := by
  have answered (o : ClaimOutcome) : s.Keeps m n (t.answerClaim a o) := h.queueReply _ _
  unfold State.takeClaim State.decideClaim
  dsimp only
  split
  · split
    · exact answered _
    split
    · split
      · exact answered _
      · exact ((h.takeAddress _).createRecord _).answerGranted _ _ _
    · split
      · split
        · exact answered _
        · exact (h.beside (State.grantClaim_outward ..)).answerGranted _ _ _
      · exact h.claimAgainst _ _ _ _
  · exact answered _

theorem State.Keeps.answerGroup (h : s.Keeps m (n + 1) t) (a g : Nat) (o : GroupOutcome) :
    s.Keeps m n (t.answerGroup a g o) := h.queueReply _ _

theorem State.Keeps.addMember (h : s.Keeps m n t) (g a : Nat) : s.Keeps m n (t.addMember g a) := h.beside rfl

theorem State.Keeps.removeMember (h : s.Keeps m n t) (g a : Nat) : s.Keeps m n (t.removeMember g a) := h.beside rfl

theorem State.Keeps.takeGroupJoin (h : s.Keeps m (n + 1) t) (a g : Nat) : s.Keeps m n (t.takeGroupJoin a g) := by
  unfold State.takeGroupJoin
  split
  · exact h.answerGroup _ _ _
  split
  · exact h.answerGroup _ _ _
  split
  · exact h.answerGroup _ _ _
  split
  · exact h.answerGroup _ _ _
  split
  · exact h.answerGroup _ _ _
  split
  · exact h.answerGroup _ _ _
  · exact (h.addMember _ _).answerGroup _ _ _

theorem State.Keeps.takeGroupLeave (h : s.Keeps m (n + 1) t) (a g : Nat) : s.Keeps m n (t.takeGroupLeave a g) := by
  unfold State.takeGroupLeave
  split
  · exact (h.removeMember _ _).answerGroup _ _ _
  · exact h.answerGroup _ _ _

theorem State.Keeps.takeGroupExpand (h : s.Keeps m (n + 1) t) (a g : Nat) : s.Keeps m n (t.takeGroupExpand a g) := by
  unfold State.takeGroupExpand
  split <;> exact h.answerGroup _ _ _

theorem State.Keeps.takeResolveIdentity (h : s.Keeps m (n + 1) t) (a : Nat) (i : Identity) :
    s.Keeps m n (t.takeResolveIdentity a i) := by
  unfold State.takeResolveIdentity
  split <;> exact h.queueReply _ _

theorem State.Keeps.takeResolveAddress (h : s.Keeps m (n + 1) t) (a b : Nat) :
    s.Keeps m n (t.takeResolveAddress a b) := by
  unfold State.takeResolveAddress
  split <;> exact h.queueReply _ _

/-- The places set aside for a request: one for the kinds that need a reply, R148. -/
def RequestKind.places (k : RequestKind) : Nat := if k.needsReply then 1 else 0

/-- The owner of a request that needs a reply queues one, in the place set aside; the others queue none (R72, R148). -/
theorem State.Keeps.handOver {k : RequestKind} (h : s.Keeps m (n + k.places) t) (f : Frame) :
    s.Keeps m n (t.handOver k f) := by
  cases k with
  | join => exact State.Keeps.takeJoin h _ _ _
  | accept => exact State.Keeps.takeAccept h _ _
  | renew => exact State.Keeps.takeRenew h _ _ _
  | leave => exact State.Keeps.takeLeave h _ _
  | claim => exact State.Keeps.takeClaim h _ _ _ _
  | probeReply => exact State.Keeps.takeProbeReply h _ _
  | clashReport => exact State.Keeps.takeClashReport h _ _
  | groupJoin => exact State.Keeps.takeGroupJoin h _ _
  | groupLeave => exact State.Keeps.takeGroupLeave h _ _
  | groupExpand => exact State.Keeps.takeGroupExpand h _ _
  | resolveIdentity => exact State.Keeps.takeResolveIdentity h _ _
  | resolveAddress => exact State.Keeps.takeResolveAddress h _ _

end Requests

section Commands

variable {s t : State} {m n : Nat}

/-! ## The host's commands on the directory and the groups -/

/-- Results in the parameter bytes, as a read completes. -/
theorem State.Keeps.answer (h : s.Keeps m n t) {bs : List Byte} (few : bs.length ≤ 8) :
    s.Keeps m n ((t.setResults bs).complete .ok true) := (h.setResults few).complete _ _

/-- Results in the buffer and in the parameter bytes. -/
theorem State.Keeps.shown (h : s.Keeps m n t) (buffer : List Byte) (upTo : Nat) {bs : List Byte}
    (few : bs.length ≤ 8) : s.Keeps m n (((t.setBuffer buffer upTo).setResults bs).complete .ok true) :=
  (h.setBuffer _ _).answer few

theorem length_writeOutcomes (os : List OutcomeCode) (buffer : List Byte) (k : Nat) :
    (writeOutcomes buffer k os).length = buffer.length := by
  induction os generalizing buffer k with
  | nil => rfl
  | cons o os ih => rw [writeOutcomes, ih, List.length_set]

theorem State.Keeps.reserve (h : s.Keeps m n t) : s.Keeps m n t.reserve :=
  (h.beside (State.reserveOne_outward _ t)).finish _

theorem State.Keeps.loadReservations (h : s.Keeps m n t) : s.Keeps m n t.loadReservations := by
  unfold State.loadReservations
  dsimp only
  split
  · have outward := State.reserveAll_outward ((List.range (t.p 0)).map (reservationAt t.port.buffer)) t
    generalize t.reserveAll ((List.range (t.p 0)).map (reservationAt t.port.buffer)) = u at outward ⊢
    have reserved := h.beside outward
    simp only [State.outward, Prod.mk.injEq] at outward
    obtain ⟨-, -, -, port, -⟩ := outward
    refine State.Keeps.answer (reserved.setPort fun formed => ?_) (by simp)
    obtain ⟨parameters, buffer, latched, enables, error⟩ := formed
    exact ⟨parameters, (length_writeOutcomes ..).trans (port ▸ buffer), latched, enables, error⟩
  · exact h.finish _

/-- A command on the record at an address. -/
theorem State.Keeps.withRecord (h : s.Keeps m n t) {body : Record → State → State}
    (acts : ∀ r, s.Keeps m n (body r t)) : s.Keeps m n (t.withRecord body) := by
  unfold State.withRecord
  split
  · split
    · exact acts _
    · exact h.finish _
  · exact h.finish _

theorem State.Keeps.releaseRecord (h : s.Keeps m n t) (r : Record) : s.Keeps m n (t.releaseRecord r) := by
  unfold State.releaseRecord
  split
  · exact (h.endRecord _ r).finish _
  · exact h.finish _

theorem State.Keeps.evictRecord (h : s.Keeps m n t) (r : Record) : s.Keeps m n (t.evictRecord r) := by
  have revoked (f : Frame) : s.Keeps m n ((t.retire r).commandRevoke f) := (h.retire r).commandRevoke f
  unfold State.evictRecord
  split
  · exact h.finish _
  · split
    · exact revoked _
    · exact (h.endRecord _ r).finish _
  · exact revoked _
  · exact revoked _
  · exact revoked _

theorem State.Keeps.pinRecord (h : s.Keeps m n t) (r : Record) : s.Keeps m n (t.pinRecord r) := by
  unfold State.pinRecord
  split
  · exact h.finish _
  split
  · exact h.finish _
  split
  · exact (h.bindRecord _).finish _
  · exact ((h.putRecord _).note _ _).finish _

theorem State.Keeps.unpinRecord (h : s.Keeps m n t) (r : Record) : s.Keeps m n (t.unpinRecord r) := by
  unfold State.unpinRecord
  split
  · exact h.finish _
  split
  · exact ((h.putRecord _).note _ _).finish _
  · exact h.finish _

theorem State.Keeps.award (h : s.Keeps m n t) : s.Keeps m n t.award := by
  have recorded (r : Record) : s.Keeps m n (t.awardRecorded r) := by
    unfold State.awardRecorded
    dsimp only
    split
    · exact (h.bindRecord _).commandRevoke _
    · exact (h.bindRecord _).finish _
  have rival (r : Record) (i : Identity) : s.Keeps m n (t.awardRival r i) :=
    ((h.strike _).bindRecord _).commandRevoke _
  unfold State.award
  split
  · exact h.finish _
  split
  · exact h.finish _
  split
  · exact h.finish _
  split
  · exact recorded _
  split
  · exact h.finish _
  split
  · exact h.finish _
  · exact rival _ _

/-- Clear Directory leaves of the queue the frame in transmission, not tried again, and no place set aside, R153. -/
theorem State.Keeps.purgeWaiting (h : s.Keeps m n t) : s.Keeps m 0 t.purgeWaiting := by
  have one : ((t.queue.entries.filter (fun e => e.sending)).map
      (fun e => ({ detachProbe e with lastTry := true } : TxEntry))).filter (fun e => e.sending) =
      (t.queue.entries.filter (fun e => e.sending)).map fun e => { detachProbe e with lastTry := true } := by
    simp [List.filter_map, Function.comp_def]
  have fewer := List.length_filter_le (fun e : TxEntry => e.sending) t.queue.entries
  have replies : replyCount ((t.queue.entries.filter (fun e => e.sending)).map
      (fun e => ({ detachProbe e with lastTry := true } : TxEntry))) ≤ replyCount t.queue.entries := by
    simp only [replyCount, List.filter_map, Function.comp_def, detachProbe_cls, List.length_map]
    exact (List.Sublist.filter _ List.filter_sublist).length_le
  refine h.setQueue ?_ fun q => ⟨q.ranged, rfl, ?_, ?_, fun e he => ?_⟩
  · simp only [State.sendingCount, State.setQueue_queue, one, List.length_map]
  · have room := q.entries
    simp only [State.setQueue_queue, List.length_map]
    omega
  · have room := q.replies
    exact replies.trans (by omega)
  · obtain ⟨e, kept, rfl⟩ := List.mem_map.mp he
    exact (detachProbe_fits e).trans (q.fits e (List.mem_filter.mp kept).1)

theorem State.Keeps.clearDirectory (h : s.Keeps m n t) : s.Keeps m 0 t.clearDirectory := by
  have cleared (d : Directory) (p : Pool) (b : Prober) (c : Census) (g : List Group) (none : d.pacing = []) :
      s.Keeps m n { t with directory := d, pool := p, prober := b, census := c, groups := g } := by
    refine State.Keeps.beside (h.setDirectory (d := d) fun _ => ?_) rfl
    simp [State.Paced, none]
  exact (cleared _ _ _ _ _ rfl).purgeWaiting.finish _

theorem State.Keeps.startCensus (h : s.Keeps m n t) : s.Keeps m n t.startCensus := by
  unfold State.startCensus
  split
  · exact h.beginCensus.finish _
  · exact h.finish _

theorem State.Keeps.endCensus (h : s.Keeps m n t) : s.Keeps m n t.endCensus := by
  unfold State.endCensus
  split
  · exact h.finishCensus.finish _
  · exact h.finish _

theorem State.Keeps.startSweep (h : s.Keeps m n t) : s.Keeps m n t.startSweep := by
  unfold State.startSweep
  split
  · split
    · exact (h.setProber _).finish _
    · exact h.finish _
  · exact h.finish _

theorem State.Keeps.groupAssign (h : s.Keeps m n t) : s.Keeps m n t.groupAssign := by
  unfold State.groupAssign
  dsimp only
  split
  · exact h.finish _
  split
  · exact h.finish _
  split
  · exact h.finish _
  split
  · exact h.finish _
  split
  · exact h.finish _
  · exact (h.addMember _ _).finish _

theorem State.Keeps.groupRemove (h : s.Keeps m n t) : s.Keeps m n t.groupRemove := by
  unfold State.groupRemove
  dsimp only
  split
  · exact h.finish _
  split
  · exact (h.removeMember _ _).finish _
  · exact h.finish _

theorem State.Keeps.readGroup (h : s.Keeps m n t) : s.Keeps m n t.readGroup := by
  unfold State.readGroup
  dsimp only
  split
  · exact h.shown _ _ (by simp [bytesOfHalf])
  · exact h.finish _

theorem State.Keeps.setGroupMode (h : s.Keeps m n t) : s.Keeps m n t.setGroupMode := by
  unfold State.setGroupMode
  dsimp only
  split
  · split
    · exact (h.setGroup _ _).finish _
    · exact h.finish _
  · exact h.finish _

theorem State.Keeps.clearGroup (h : s.Keeps m n t) : s.Keeps m n t.clearGroup := by
  unfold State.clearGroup
  dsimp only
  split
  · exact ((h.setGroup _ _).beside (State.clearedMarks_outward ..)).finish _
  · exact h.finish _

/-! ## Parameters and reads -/

/-- A value of at most 7Fh sets none but the seven enables. -/
theorem byteOf_and_enablesMask : ∀ v ≤ 127, byteOf v &&& ~~~enablesMask = 0 := by decide

theorem State.Keeps.setParameter (h : s.Keeps m n t) : s.Keeps m n t.setParameter := by
  unfold State.setParameter
  dsimp only
  split
  · split
    · next fits =>
      refine State.Keeps.finish (h.setPort fun ⟨parameters, buffer, latched, _, error⟩ => ?_) _
      exact ⟨parameters, buffer, latched, byteOf_and_enablesMask _ fits, error⟩
    · exact h.finish _
  · split
    · next taken => exact (h.setParams fun ranged => Params.set_inRange taken ranged).finish _
    · exact h.finish _

theorem State.Keeps.readSummary (h : s.Keeps m n t) : s.Keeps m n t.readSummary :=
  State.Keeps.complete (t := { t.setBuffer t.summary Config.bufferSize with chance := t.chance + 1 })
    (State.Keeps.onLine (h.setBuffer t.summary Config.bufferSize) fun p => ⟨p.lined, p.sending⟩) _ _

theorem State.Keeps.readRecord (h : s.Keeps m n t) : s.Keeps m n t.readRecord := by
  unfold State.readRecord
  dsimp only
  split
  · exact h.finish _
  · split
    · exact h.shown _ _ (by simp)
    · exact h.finish _

theorem State.Keeps.readDirectory (h : s.Keeps m n t) : s.Keeps m n t.readDirectory := by
  unfold State.readDirectory
  dsimp only
  split
  · exact h.shown _ _ (by simp)
  · exact h.finish _

theorem State.Keeps.collectChanges (h : s.Keeps m n t) : s.Keeps m n t.collectChanges := by
  have taken : s.Keeps m n (t.setDirectory { t.directory with
      marks := t.directory.marks.drop Config.snapshotSize }) := h.setDirectory id
  exact taken.shown _ _ (by simp)

theorem State.Keeps.acknowledgeNamed (h : s.Keeps m n t) : s.Keeps m n t.acknowledgeNamed := by
  have six {mask : Byte} (latched : t.port.latched &&& ~~~latchedMask = 0) :
      t.port.latched &&& ~~~mask &&& ~~~latchedMask = 0 := by
    rw [BitVec.and_assoc, BitVec.and_comm (~~~mask), ← BitVec.and_assoc, latched]
    exact BitVec.zero_and
  refine State.Keeps.setPort (t := t.acknowledge _) (h.setPort fun formed => ?_) fun formed => ?_
  · obtain ⟨parameters, buffer, latched, enables, error⟩ := formed
    exact ⟨parameters, buffer, six latched, enables, error⟩
  · obtain ⟨parameters, buffer, latched, enables, -⟩ := formed
    exact ⟨parameters, buffer, latched, enables, rfl⟩

/-! ## The Control Port -/

theorem State.Keeps.restartPort (h : s.Keeps m n t) : s.Keeps m n t.restartPort := by
  refine State.Keeps.rewrite (t := t.setPort _) (h.setPort fun formed => ?_) detachCommand_sending detachCommand_cls
    fun e fits => (detachCommand_fits e).trans fits
  obtain ⟨parameters, buffer, -, enables, -⟩ := formed
  refine ⟨parameters, buffer, BitVec.zero_and, enables, ?_⟩
  by_cases busy : t.port.state = .busy <;> simp [busy]

theorem State.Keeps.writeEnables (h : s.Keeps m n t) (data : Byte) : s.Keeps m n (t.writeEnables data) := by
  refine h.setPort fun ⟨parameters, buffer, latched, _, error⟩ => ⟨parameters, buffer, latched, ?_, error⟩
  change data &&& enablesMask &&& ~~~enablesMask = 0
  rw [BitVec.and_assoc, show enablesMask &&& ~~~enablesMask = 0 from rfl]
  exact BitVec.and_zero

theorem State.Keeps.writeBufferByte (h : s.Keeps m n t) (data : Byte) : s.Keeps m n (t.writeBufferByte data) := by
  unfold State.writeBufferByte
  split
  · exact h
  · exact h.setPort fun ⟨parameters, buffer, latched, enables, error⟩ =>
      ⟨parameters, List.length_set.trans buffer, latched, enables, error⟩

theorem State.Keeps.writePointer (h : s.Keeps m n t) (data : Byte) : s.Keeps m n (t.writePointer data) := by
  unfold State.writePointer
  split
  · exact h
  · exact h.setPort fun formed => formed

theorem State.Keeps.writeParameter (h : s.Keeps m n t) (k : Nat) (data : Byte) :
    s.Keeps m n (t.writeParameter k data) :=
  h.setPort fun ⟨parameters, buffer, latched, enables, error⟩ =>
    ⟨List.length_set.trans parameters, buffer, latched, enables, error⟩

theorem State.Keeps.readBufferByte (h : s.Keeps m n t) : s.Keeps m n t.readBufferByte := h.setPort fun formed => formed

theorem State.Keeps.readWindowByte (h : s.Keeps m n t) (offset : Nat) : s.Keeps m n (t.readWindowByte offset) := by
  unfold State.readWindowByte
  split
  · exact h.readBufferByte
  · exact h.setPort fun formed => formed

end Commands

end Sys2Proof.Machine
end

section
/-! The same laws under the rows of the line (R143 to R155) and under every command and step, and the two statements of
the family "The Node Bus Line" about every step. -/

namespace Sys2Proof.Machine

section Line

variable {s t : State} {m n : Nat}

/-! ## The line written -/

/-- What the law of the line is about. -/
def Line.form (l : Line) : LineState × LinePhase × Nat × Bool × Termination :=
  (l.state, l.phase, l.bitRate, l.segmentEnd, l.termination)

/-- The runs, the flags and the counter of the free values are outside the laws. -/
theorem State.Keeps.reline {u : State} (h : s.Keeps m n t) (frame : u = t.onLine u.line u.chance)
    (same : u.line.form = t.line.form) : s.Keeps m n u := by
  simp only [Line.form, Prod.mk.injEq] at same
  obtain ⟨state, phase, rate, edge, termination⟩ := same
  rw [frame]
  refine h.onLine fun p => ⟨?_, ?_⟩
  · have lined := p.lined
    simp only [State.Lined, State.onLine, state, phase, rate, edge, termination] at lined ⊢
    exact lined
  · have sending := p.sending
    simp only [State.onLine, phase] at sending ⊢
    exact sending

theorem State.Keeps.setAcknowledged (h : s.Keeps m n t) (b : Bool) : s.Keeps m n (t.setAcknowledged b) :=
  h.reline rfl rfl

theorem State.Keeps.endFrame (h : s.Keeps m n t) (f : Frame) (check : Half) : s.Keeps m n (t.endFrame f check) := by
  unfold State.endFrame
  split <;> exact h.reline rfl rfl

theorem State.Keeps.runsOf (h : s.Keeps m n t) (bits : List Bool) : s.Keeps m n (t.runsOf bits) := h.reline rfl rfl

theorem State.Keeps.feedField (h : s.Keeps m n t) (bits : List Bool) : s.Keeps m n (t.feedField bits) :=
  h.reline rfl rfl

/-- In ONLINE the law of the line leaves the phase open. -/
theorem State.lined_online {s : State} (online : s.line.state = .online)
    (edge : s.line.segmentEnd = false → s.line.termination = .openCircuit) (rate : s.line.bitRate ≤ 3) : s.Lined :=
  ⟨fun off => absurd online off, fun h => h.elim edge fun off => absurd (online.symm.trans off) (by decide), rate⟩

theorem State.enterPhase_edge {s : State} (ph : LinePhase) (edge : s.line.segmentEnd = false) :
    (s.enterPhase ph).line.termination = .openCircuit := by simp [State.enterPhase, edge]

/-- A phase without transmission, with no entry in transmission before it. -/
theorem State.Phased.quiet {l : Line} {c : Nat} (p : t.Phased) (before : t.line.phase ≠ .transmitting)
    (after : l.phase ≠ .transmitting) (lined : (t.onLine l c).Lined) : (t.onLine l c).Phased := by
  refine ⟨lined, ?_⟩
  have none := p.sending
  rw [if_neg before] at none
  rw [if_neg (show (t.onLine l c).line.phase ≠ .transmitting from after)]
  exact none

theorem State.Keeps.enterPhase (h : s.Keeps m n t) {ph : LinePhase} (online : t.line.state = .online)
    (before : t.line.phase ≠ .transmitting) (after : ph ≠ .transmitting) : s.Keeps m n (t.enterPhase ph) :=
  State.Keeps.onLine (c := t.chance) h fun p => p.quiet before after
    (State.lined_online online (State.enterPhase_edge (s := t) ph) p.lined.2.2)

theorem addressedPhase_ne_transmitting (d : Nat) : addressedPhase d ≠ .transmitting := by
  unfold addressedPhase
  split <;> decide

theorem State.readDestination_state (d : Nat) (s : State) : (s.readDestination d).line.state = s.line.state := by
  rw [State.readDestination_frame]

theorem State.readDestination_phase (d : Nat) (s : State) :
    (s.readDestination d).line.phase = addressedPhase d := by
  rw [State.readDestination_frame]

theorem State.Keeps.readDestination (h : s.Keeps m n t) (d : Nat) (online : t.line.state = .online)
    (before : t.line.phase ≠ .transmitting) : s.Keeps m n (t.readDestination d) := by
  unfold State.readDestination
  split
  · exact h
  · exact h.enterPhase online before (addressedPhase_ne_transmitting d)

/-- After the destination is read, the phases of a frame go on. -/
theorem State.Keeps.endReading (h : s.Keeps m n t) (d : Nat) {ph : LinePhase} (online : t.line.state = .online)
    (before : t.line.phase ≠ .transmitting) (after : ph ≠ .transmitting) :
    s.Keeps m n ((t.readDestination d).enterPhase ph) := by
  refine (h.readDestination d online before).enterPhase ?_ ?_ after
  · exact (t.readDestination_state d).trans online
  · rw [State.readDestination_phase]
    exact addressedPhase_ne_transmitting d

/-! ## Reception, R147, R148 and R154 -/

theorem State.Keeps.passFrame (h : s.Keeps m n t) (receives : t.Receives) (f : Frame) :
    s.Keeps m n (t.passFrame f) := by
  obtain ⟨online, quiet, -⟩ := receives
  exact h.endReading _ online quiet (by decide)

theorem State.Keeps.stopAtLength (h : s.Keeps m n t) (receives : t.Receives) (f : Frame) :
    s.Keeps m n (t.stopAtLength f) := by
  obtain ⟨online, quiet, -⟩ := receives
  exact ((h.endReading f.destination.toNat online quiet (by decide)).runsOf _).setAcknowledged false

theorem State.Keeps.stopReception (h : s.Keeps m n t) (receives : t.Receives) : s.Keeps m n t.stopReception := by
  obtain ⟨online, quiet, -⟩ := receives
  unfold State.stopReception
  dsimp only
  split
  · have reading : (t.enterPhase .receiving).line.phase ≠ .transmitting := nofun
    exact ((h.enterPhase online quiet (by decide)).enterPhase online reading (by decide)).setAcknowledged false
  · exact (h.enterPhase online quiet (by decide)).setAcknowledged false

/-- An admitted request of a kind that needs a reply finds a place for it. -/
theorem State.replyRoom_of_admission {s : State} {f : Frame} {k : RequestKind} (admitted : s.admission f = some k)
    (reply : k.needsReply = true) : s.replyRoom = true := by
  unfold State.admission at admitted
  split at admitted
  · split at admitted
    · split at admitted
      · next checks =>
        obtain rfl := Option.some.inj admitted
        simpa [reply] using (Bool.and_eq_true_iff.mp checks).2
      · exact nomatch admitted
    · exact nomatch admitted
  · exact nomatch admitted

/-- Admission sets a place aside for a kind that needs a reply, R148. -/
theorem State.Keeps.placeSet (h : s.Keeps m n t) {f : Frame} {k : RequestKind} (admitted : t.admission f = some k) :
    s.Keeps m (n + k.places)
      (if k.needsReply then t.setQueue { t.queue with setAside := t.queue.setAside + 1 } else t) := by
  unfold RequestKind.places
  split
  · next reply => exact h.placeSetAside (State.replyRoom_of_admission admitted reply)
  · exact h

theorem State.Keeps.takeFrame (h : s.Keeps m n t) (f : Frame) : s.Keeps m n (t.takeFrame f) := by
  unfold State.takeFrame
  split
  · have noticed : s.Keeps m n (t.setLine { t.line with foreign := true }) := h.reline rfl rfl
    exact (noticed.raise .line).setAcknowledged false
  split
  · exact (h.heard f).setAcknowledged false
  · next k admitted => exact (State.Keeps.handOver ((h.placeSet admitted).heard f) f).setAcknowledged true

theorem State.Keeps.receiveFrame (h : s.Keeps m n t) (f : Frame) : s.Keeps m n (t.receiveFrame f) := by
  unfold State.receiveFrame
  split
  · exact h
  · next hears =>
    have receives := State.canReceive_iff.mp (by simpa using hears)
    split
    · exact h.stopAtLength receives f
    · exact ((h.passFrame receives f).takeFrame f).endFrame f f.check

theorem State.Keeps.receiveInvalid (h : s.Keeps m n t) (cause : InvalidReception) :
    s.Keeps m n (t.receiveInvalid cause) := by
  unfold State.receiveInvalid
  split
  · exact h
  · next hears =>
    have receives := State.canReceive_iff.mp (by simpa using hears)
    split
    · exact (h.stopReception receives).reline rfl rfl
    · split
      · exact (h.stopReception receives).feedField _
      · exact h
    · next f check =>
      split
      · exact h.receiveFrame f
      split
      · exact h.stopAtLength receives f
      · exact ((h.passFrame receives f).setAcknowledged false).endFrame f check

/-! ## The ends of a send attempt, R149 to R151 -/

theorem State.sendingEntry_some {e : TxEntry} (one : t.sendingEntry = some e) :
    e ∈ t.queue.entries ∧ e.sending = true := ⟨List.mem_of_find?_eq_some one, List.find?_some one⟩

/-- An entry in transmission is the only one. -/
theorem State.Phased.eq_sendingEntry (p : t.Phased) {e : TxEntry} (one : t.sendingEntry = some e) :
    ∀ x ∈ t.queue.entries, x.sending = true → x = e := by
  obtain ⟨mem, sending⟩ := State.sendingEntry_some one
  intro x hx sendingX
  have few : (t.queue.entries.filter (fun e => e.sending)).length ≤ 1 := by
    have count := p.sending
    simp only [State.sendingCount] at count
    split at count <;> omega
  have hx' : x ∈ t.queue.entries.filter (fun e => e.sending) := List.mem_filter.mpr ⟨hx, sendingX⟩
  have he' : e ∈ t.queue.entries.filter (fun e => e.sending) := List.mem_filter.mpr ⟨mem, sending⟩
  rcases list : t.queue.entries.filter (fun e => e.sending) with _ | ⟨y, _ | ⟨z, zs⟩⟩
  · simp [list] at hx'
  · rw [list] at hx' he'
    exact (List.mem_singleton.mp hx').trans (List.mem_singleton.mp he').symm
  · simp [list] at few

/-- An entry is in transmission on an ONLINE line only, in the transmitting phase. -/
theorem State.Phased.online_of_sending (p : t.Phased) {e : TxEntry} (one : t.sendingEntry = some e) :
    t.line.state = .online := by
  obtain ⟨mem, sending⟩ := State.sendingEntry_some one
  have some : 0 < t.sendingCount := List.length_pos_of_mem (List.mem_filter.mpr ⟨mem, sending⟩)
  have count := p.sending
  obtain ⟨offline, -⟩ := p.lined
  by_contra off
  rw [if_neg (by simp [offline off])] at count
  omega

/-- The phase entered when a transmission ends obeys the law of the line. -/
theorem State.Phased.lined_enterPhase (p : t.Phased) {e : TxEntry} (one : t.sendingEntry = some e) (ph : LinePhase) :
    (t.enterPhase ph).Lined :=
  State.lined_online (p.online_of_sending one) (State.enterPhase_edge (s := t) ph) p.lined.2.2

/-- A frame in transmission stops being so, with the attempts given. -/
def TxEntry.settled (used : Nat) (e : TxEntry) : TxEntry :=
  if e.sending then { e with used := used, sending := false } else e

theorem State.keepEntry_eq (used : Nat) (s : State) :
    s.keepEntry used = s.setQueue { s.queue with entries := s.queue.entries.map (TxEntry.settled used) } := rfl

theorem TxEntry.settled_sent {e : TxEntry} (used : Nat) (sending : e.sending = true) :
    e.settled used = { e with used := used, sending := false } := if_pos sending

theorem TxEntry.settled_idle {e : TxEntry} (used : Nat) (idle : e.sending = false) : e.settled used = e := by
  simp [TxEntry.settled, idle]

@[simp] theorem TxEntry.settled_sending (used : Nat) (e : TxEntry) : (e.settled used).sending = false := by
  cases sending : e.sending with
  | true => rw [TxEntry.settled_sent used sending]
  | false => rw [TxEntry.settled_idle used sending, sending]

theorem TxEntry.settled_cls (used : Nat) (e : TxEntry) : (e.settled used).cls = e.cls := by
  unfold TxEntry.settled
  split <;> rfl

section Ends

variable {l : Line} {c : Nat}

/-- The entry in transmission leaves the queue as the line leaves the phase. -/
theorem State.Keeps.leaveQueue (h : s.Keeps m n t) (lined : t.Phased → (t.onLine l c).Lined)
    (quiet : l.phase ≠ .transmitting) (e : TxEntry) (sent : Bool) :
    s.Keeps m n ((t.onLine l c).leaveQueue e sent) := by
  have left : s.Keeps m n ((t.onLine l c).setQueue
      { t.queue with entries := t.queue.entries.filter (fun x => !x.sending) }) := by
    refine h.trans ⟨fun p => ⟨lined p, ?_⟩, fun _ q => ⟨q.ranged, q.setAside, ?_, ?_, fun e he => ?_⟩, id, id⟩
    · rw [if_neg (show ((t.onLine l c).setQueue _).line.phase ≠ .transmitting from quiet)]
      simp [State.sendingCount, List.filter_filter]
    · have fewer := List.length_filter_le (fun x : TxEntry => !x.sending) t.queue.entries
      have room := q.entries
      simp only [State.setQueue_queue]
      omega
    · have fewer : replyCount (t.queue.entries.filter (fun x => !x.sending)) ≤ replyCount t.queue.entries :=
        (List.Sublist.filter _ List.filter_sublist).length_le
      have room := q.replies
      simp only [State.setQueue_queue]
      omega
    · exact q.fits e (List.mem_filter.mp he).1
  exact left.grantWaiting.report _ _

/-- It stays in its place with the attempts given, which are below its limit. -/
theorem State.Keeps.keepEntry (h : s.Keeps m n t) (lined : t.Phased → (t.onLine l c).Lined)
    (quiet : l.phase ≠ .transmitting) {used : Nat}
    (below : t.Phased → t.Stocked n → ∀ x ∈ t.queue.entries, x.sending = true → used < x.limit) :
    s.Keeps m n ((t.onLine l c).keepEntry used) := by
  rw [State.keepEntry_eq]
  refine h.trans ⟨fun p => ⟨lined p, ?_⟩, fun p q => ⟨q.ranged, q.setAside, ?_, ?_, fun e he => ?_⟩, id, id⟩
  · rw [if_neg (show ((t.onLine l c).setQueue _).line.phase ≠ .transmitting from quiet)]
    simp [State.sendingCount, List.filter_map, Function.comp_def]
  · rw [State.setQueue_queue, List.length_map]
    exact q.entries
  · simp only [State.setQueue_queue, replyCount, List.filter_map, Function.comp_def, TxEntry.settled_cls,
      List.length_map]
    exact q.replies
  · obtain ⟨e, old, rfl⟩ := List.mem_map.mp he
    have fits := q.fits e old
    cases sending : e.sending with
    | false => rwa [TxEntry.settled_idle used sending]
    | true =>
      rw [TxEntry.settled_sent used sending]
      simp only [TxEntry.fits, Bool.and_eq_true, decide_eq_true_eq] at fits ⊢
      obtain ⟨⟨-, limit⟩, check⟩ := fits
      exact ⟨⟨below p q e old sending, limit⟩, check⟩

theorem State.Keeps.countAttempt (h : s.Keeps m n t) {e : TxEntry} (one : t.sendingEntry = some e)
    (lined : t.Phased → (t.onLine l c).Lined) (quiet : l.phase ≠ .transmitting) :
    s.Keeps m n ((t.onLine l c).countAttempt e) := by
  unfold State.countAttempt
  split
  · exact h.leaveQueue lined quiet _ _
  · next stays =>
    refine h.keepEntry lined quiet fun p _ x hx sending => ?_
    obtain rfl := p.eq_sendingEntry one x hx sending
    simp only [Bool.or_eq_true, decide_eq_true_eq, not_or] at stays
    omega

theorem State.Keeps.settleSlot (h : s.Keeps m n t) {e : TxEntry} (one : t.sendingEntry = some e)
    (lined : t.Phased → (t.onLine l c).Lined) (quiet : l.phase ≠ .transmitting) (dominant : Bool) :
    s.Keeps m n ((t.onLine l c).settleSlot e dominant) := by
  unfold State.settleSlot
  dsimp only
  split
  · exact h.leaveQueue lined quiet _ _
  · exact h.countAttempt one lined quiet

end Ends

end Line

end Sys2Proof.Machine
end

section
/-! The laws of the Transmit Queue, the line, the pacing set and the port under the changes of line state (R143 to R145),
under every command and under every step; with them the two statements of the family "The Node Bus Line" about every
step. -/

namespace Sys2Proof.Machine

/-! ## Changes of line state, R143 -/

/-- The line at the beginning of a line state: no run counted, no frame under way, Park on the termination. -/
def State.parked (new : LineState) (s : State) : Line :=
  { s.line with
    state := new, phase := .idle, recessiveRun := 0, dominantRun := 0,
    termination := if s.line.segmentEnd = false then .openCircuit else s.params.park }

/-- The line that is off, R145. -/
def State.unpowered (s : State) : Line :=
  { s.line with state := .disabled, phase := .idle, recessiveRun := 0, dominantRun := 0, termination := .openCircuit }

theorem State.changeLine_parked {s : State} {new : LineState} (other : s.line.state ≠ new) :
    (s.changeLine new).enterPhase .idle = (s.setLine (s.parked new)).raise .line := by
  have raised : s.changeLine new =
      (s.setLine { s.line with state := new, recessiveRun := 0, dominantRun := 0 }).raise .line := if_neg other
  rw [raised]
  cases edge : s.line.segmentEnd <;>
    simp [State.enterPhase, State.parked, State.raise, State.setLine, Params.terminationFor, edge]

theorem State.lineOff_off {s : State} (off : s.line.state = .disabled) : s.lineOff = s.setLine s.unpowered := by
  simp [State.lineOff, State.changeLine, State.unpowered, off]

theorem State.lineOff_on {s : State} (on : s.line.state ≠ .disabled) :
    s.lineOff = (s.setLine s.unpowered).raise .line := by
  simp [State.lineOff, State.changeLine, State.unpowered, on, State.raise, State.setLine]

/-- A discarded context leaves the line alone, and looks at nothing of it. -/
theorem State.discardContext_setLine (l : Line) (s : State) :
    (s.setLine l).discardContext = s.discardContext.setLine l := by
  have found (a : Nat) : (s.setLine l).recordAt a = s.recordAt a := rfl
  unfold State.discardContext
  simp only [State.setLine_prober, found]
  split
  · rfl
  split
  · split <;> rfl
  · rfl

theorem State.discardContext_line (s : State) : s.discardContext.line = s.line := by
  unfold State.discardContext
  split
  · rfl
  split
  · split <;> rfl
  · rfl

section Changes

variable {s t : State} {m n : Nat}

theorem State.lined_parked {new : LineState} (on : new ≠ .disabled) (rate : t.line.bitRate ≤ 3) {c : Nat} :
    (t.onLine (t.parked new) c).Lined := by
  refine ⟨fun _ => rfl, fun h => ?_, rate⟩
  rcases h with edge | off
  · exact if_pos edge
  · exact absurd off on

/-- A line state begins where no frame is in transmission, LINE being raised. -/
theorem State.Keeps.park {new : LineState} (h : s.Keeps m n t) (on : new ≠ .disabled) (other : t.line.state ≠ new)
    (offline : t.line.state ≠ .online) : s.Keeps m n ((t.changeLine new).enterPhase .idle) := by
  rw [State.changeLine_parked other]
  have parked : s.Keeps m n (t.setLine (t.parked new)) := State.Keeps.onLine (c := t.chance) h fun p => by
    obtain ⟨idle, -, rate⟩ := p.lined
    exact p.quiet (by simp [idle offline]) nofun (State.lined_parked on rate)
  exact parked.raise _

theorem State.Keeps.censusOnline (h : s.Keeps m n t) : s.Keeps m n t.censusOnline := by
  unfold State.censusOnline
  split
  · exact (h.setCensus _).beginCensus
  split
  · exact h.queueCensus
  · exact h

theorem State.countAttempt_onLine (l : Line) (c : Nat) (e : TxEntry) (s : State) :
    (s.onLine l c).countAttempt e = (s.countAttempt e).onLine l c := by
  unfold State.countAttempt
  split
  · exact State.leaveQueue_onLine ..
  · rfl

/-- The end of an attempt leaves the line and the free values alone. -/
theorem State.cutOff_frame (s : State) : s.cutOff = s.cutOff.onLine s.line s.chance := by
  unfold State.cutOff
  split
  · exact State.countAttempt_onLine s.line s.chance _ s
  · rfl

theorem State.cutOff_line (s : State) : s.cutOff.line = s.line := by
  rw [State.cutOff_frame]
  rfl

/-- FAULT cuts a frame in transmission off, which ends its attempt on a line that is no longer in the phase, R152. -/
theorem State.Keeps.cutOff {l : Line} (h : s.Keeps m n t) (lined : t.Phased → (t.onLine l t.chance).Lined)
    (quiet : l.phase ≠ .transmitting) : s.Keeps m n (t.cutOff.setLine l) := by
  unfold State.cutOff
  split
  · next e one =>
    have counted : (t.countAttempt e).setLine l = (t.onLine l t.chance).countAttempt e := by
      rw [State.countAttempt_onLine, show t.countAttempt e = (t.countAttempt e).onLine t.line t.chance from
        State.countAttempt_onLine t.line t.chance e t]
      rfl
    rw [counted]
    exact h.countAttempt one lined quiet
  · next none =>
    refine State.Keeps.onLine (c := t.chance) h fun p => p.quiet (fun sending => ?_) quiet (lined p)
    have count := p.sending
    have empty : t.queue.entries.filter (fun e => e.sending) = [] :=
      List.filter_eq_nil_iff.mpr (List.find?_eq_none.mp none)
    rw [State.sendingCount, empty, if_pos sending] at count
    exact absurd count (by decide)

/-! ## The host's line commands, R145 -/

theorem State.Keeps.lineEnable (h : s.Keeps m n t) : s.Keeps m n t.lineEnable := by
  unfold State.lineEnable
  split
  · next off => exact (h.park (by decide) (by simp [off]) (by simp [off])).finish _
  · exact h.finish _

/-- With the queue purged whole the line goes off. -/
theorem State.Keeps.lineDisable (h : s.Keeps m n t) : s.Keeps m 0 t.lineDisable := by
  have expired := h.finishExpiry
  unfold State.lineDisable
  generalize t.finishExpiry = u at expired ⊢
  have purged : s.Keeps m 0 (u.purgeAll.setLine u.unpowered) := by
    refine expired.trans ⟨fun p => ⟨⟨fun _ => rfl, fun _ => rfl, p.lined.2.2⟩, rfl⟩, fun _ q => ?_, id, id⟩
    exact ⟨q.ranged, rfl, Nat.zero_le _, Nat.zero_le _, fun _ none => nomatch none⟩
  have off : u.purgeAll.discardContext.unpowered = u.unpowered := by
    rw [State.unpowered, State.discardContext_line]
    rfl
  have dark := purged.discardContext
  rw [State.discardContext_setLine] at dark
  refine State.Keeps.finish (State.Keeps.setClock (t := u.purgeAll.discardContext.lineOff) ?_ _) .ok
  by_cases state : u.purgeAll.discardContext.line.state = .disabled
  · rw [State.lineOff_off state, off]
    exact dark
  · rw [State.lineOff_on state, off]
    exact dark.raise _

theorem State.Keeps.setBitRate (h : s.Keeps m n t) : s.Keeps m n t.setBitRate := by
  unfold State.setBitRate
  split
  · exact h.finish _
  split
  · exact h.finish _
  · next inRange _ =>
    have rated : s.Keeps m n (t.setLine { t.line with bitRate := t.p 0 }) :=
      State.Keeps.onLine (c := t.chance) h fun p => by
        obtain ⟨idle, opened, -⟩ := p.lined
        exact ⟨⟨idle, opened, Nat.le_of_not_lt inRange⟩, p.sending⟩
    exact rated.finish _

/-! ## A command code, R159 -/

theorem State.Keeps.body (h : s.Keeps m 0 t) (code : Nat) : s.Keeps m 0 (commandBody code t) := by
  unfold commandBody
  split
  · exact h.setParameter
  · exact h.shown _ _ (by simp)
  · exact h.readSummary
  · exact h.acknowledgeNamed
  · exact h.reserve
  · exact h.loadReservations
  · exact h.withRecord fun r => h.releaseRecord r
  · exact h.clearDirectory
  · exact h.withRecord fun r => h.evictRecord r
  · exact h.withRecord fun r => h.pinRecord r
  · exact h.withRecord fun r => h.unpinRecord r
  · exact h.award
  · exact h.startCensus
  · exact h.endCensus
  · exact h.startSweep
  · exact (h.setProber _).finish _
  · exact h.groupAssign
  · exact h.groupRemove
  · exact h.readGroup
  · exact h.setGroupMode
  · exact h.clearGroup
  · exact h.lineEnable
  · exact h.lineDisable
  · exact h.setBitRate
  · exact h.readRecord
  · exact h.readDirectory
  · exact h.collectChanges
  · exact h.shown _ _ (by simp)
  · exact h.shown _ _ (by simp)
  · exact h.finish _

/-- A command taken clears ERROR as it becomes BUSY. -/
theorem State.Keeps.takeCode (h : s.Keeps m 0 t) (code : Byte) :
    s.Keeps m 0 (t.takeCommand code (commandBody code.toNat)) := by
  unfold State.takeCommand
  split
  · exact h.setPort id
  · refine State.Keeps.body (h.setPort fun formed => ?_) code.toNat
    obtain ⟨parameters, buffer, latched, enables, -⟩ := formed
    exact ⟨parameters, buffer, latched, enables, rfl⟩

theorem State.Keeps.writeCode (h : s.Keeps m 0 t) (code : Byte) : s.Keeps m 0 (t.writeCode code) := by
  unfold State.writeCode
  split
  · exact h.restartPort
  · exact h.takeCode code

theorem State.Keeps.transaction (h : s.Keeps m 0 t) (header : Byte) (data : List Byte) :
    s.Keeps m 0 (t.transaction header data) := by
  unfold State.transaction
  split
  · unfold State.windowWrite
    split
    · exact h
    split
    · exact h.writeParameter _ _
    split
    · exact h.writeCode _
    split
    · exact h.writeEnables _
    split
    · exact h.writePointer _
    split
    · exact List.foldlRecOn _ _ h fun _ kept b _ => kept.writeBufferByte b
    · exact h
  · exact List.foldlRecOn _ _ h fun _ kept _ _ => kept.readWindowByte _

end Changes

/-! ## Every command -/

/-- What a command answers keeps the laws. -/
def State.Upholds (s : State) (o : Host.Outcome State Fault Refusal) : Prop := ∀ t, o = .next t → s.Keeps 0 0 t

theorem State.Keeps.upholds {s t : State} (h : s.Keeps 0 0 t) : s.Upholds (.next t) := fun _ e =>
  Host.Outcome.next.inj e ▸ h

theorem State.Upholds.refl (s : State) : s.Upholds (.next s) := (State.Keeps.refl s 0).upholds

section Rows

variable (s : State)

theorem State.mayBegin_iff : s.mayBegin = true
    ↔ s.line.state = .online ∧ (s.line.phase = .idle ∨ s.line.phase = .afterFrame) := by
  simp [State.mayBegin]

theorem firstByPriority_mem {es : List TxEntry} {e : TxEntry} (first : firstByPriority es = some e) : e ∈ es := by
  induction es generalizing e with
  | nil => exact nomatch first
  | cons x xs ih =>
    unfold firstByPriority at first
    split at first
    · next f rest =>
      split at first
      · exact Option.some.inj first ▸ List.mem_cons_of_mem _ (ih rest)
      · exact Option.some.inj first ▸ List.mem_cons_self
    · exact Option.some.inj first ▸ List.mem_cons_self

/-- One entry of the priority goes into transmission in its place. -/
theorem markSending_split {es : List TxEntry} {e : TxEntry} (mem : e ∈ es) :
    ∃ pre x post, es = pre ++ x :: post
      ∧ markSending e.frame.priority es = pre ++ { x with sending := true } :: post := by
  induction es with
  | nil => exact nomatch mem
  | cons y ys ih =>
    by_cases here : y.frame.priority = e.frame.priority
    · exact ⟨[], y, ys, rfl, by simp [markSending, here]⟩
    · have later : e ∈ ys := (List.mem_cons.mp mem).resolve_left fun same => here (same ▸ rfl)
      obtain ⟨pre, x, post, split, marked⟩ := ih later
      exact ⟨y :: pre, x, post, by rw [split]; rfl, by simp [markSending, here, marked]⟩

theorem execTransmitBegin_upholds : s.Upholds (execTransmitBegin s) := by
  unfold execTransmitBegin
  split
  · next e first =>
    split
    · next begins =>
      obtain ⟨online, phase⟩ := s.mayBegin_iff.mp begins
      have quiet : s.line.phase ≠ .transmitting := by rcases phase with h | h <;> simp [h]
      obtain ⟨pre, x, post, split, marked⟩ := markSending_split (firstByPriority_mem first)
      refine State.Keeps.upholds ⟨fun p => ⟨?_, ?_⟩, fun _ q => ⟨q.ranged, q.setAside, ?_, ?_, fun y hy => ?_⟩, id, id⟩
      · exact State.lined_online online (State.enterPhase_edge (s := s) .transmitting) p.lined.2.2
      · have none := p.sending
        rw [if_neg quiet, State.sendingCount, split, List.length_eq_zero_iff, List.filter_eq_nil_iff] at none
        change (List.filter (fun e => e.sending) (markSending _ s.queue.entries)).length = 1
        rw [marked, List.filter_append, List.filter_eq_nil_iff.mpr fun y hy => none y (List.mem_append_left _ hy),
          List.filter_cons_of_pos rfl, List.filter_eq_nil_iff.mpr fun y hy => none y (by simp [hy])]
        rfl
      · have room := q.entries
        rw [split] at room
        rw [State.setQueue_queue, marked]
        simpa using room
      · have room := q.replies
        rw [split, replyCount_append] at room
        rw [State.setQueue_queue, marked, replyCount_append]
        simp only [replyCount, List.filter_cons, apply_ite List.length, List.length_cons] at room ⊢
        exact room
      · have fits := q.fits
        rw [split] at fits
        simp only [State.setQueue_queue, marked, List.mem_append, List.mem_cons] at hy
        rcases hy with before | rfl | after
        · exact fits y (by simp [before])
        · exact fits x (by simp)
        · exact fits y (by simp [after])
    · exact State.Upholds.refl s
  · exact State.Upholds.refl s

theorem execArbitrationLost_upholds : s.Upholds (execArbitrationLost s) := by
  unfold execArbitrationLost
  split
  · next e one =>
    have lined (p : s.Phased) : ((s.enterPhase .receiving).runsDrawn (s.bitsToLoss e.frame)).Lined :=
      p.lined_enterPhase one .receiving
    refine State.Keeps.upholds ?_
    split
    · exact State.Keeps.leaveQueue (.refl s 0) lined nofun e false
    · refine State.Keeps.keepEntry (.refl s 0) lined nofun fun p q x hx sending => ?_
      obtain rfl := p.eq_sendingEntry one x hx sending
      have fits := q.fits x hx
      simp only [TxEntry.fits, Bool.and_eq_true, decide_eq_true_eq] at fits
      exact fits.1.1
  · exact State.Upholds.refl s

theorem execEchoDifference_upholds : s.Upholds (execEchoDifference s) := by
  unfold execEchoDifference
  split
  · next e one =>
    have lined (p : s.Phased) : ((s.enterPhase .stopped).runsDrawn (s.bitsToDifference e)).Lined :=
      p.lined_enterPhase one .stopped
    exact (State.Keeps.countAttempt (.refl s 0) one lined nofun).upholds
  · exact State.Upholds.refl s

theorem execAcknowledgeSlot_upholds (dominant : Bool) : s.Upholds (execAcknowledgeSlot dominant s) := by
  unfold execAcknowledgeSlot
  split
  · next e one =>
    have lined (p : s.Phased) : ((s.enterPhase .afterFrame).runsOf (e.frame.wholeBits e.check !dominant)).Lined :=
      p.lined_enterPhase one .afterFrame
    exact (State.Keeps.settleSlot (.refl s 0) one lined nofun dominant).upholds
  · exact State.Upholds.refl s

theorem execLineOnline_upholds : s.Upholds (execLineOnline s) := by
  unfold execLineOnline
  split
  · next settling =>
    have parked := State.Keeps.park (.refl s 0) (new := .online) (by decide) (by simp [settling]) (by simp [settling])
    dsimp only
    generalize (s.changeLine .online).enterPhase .idle = u at parked ⊢
    have online : s.Keeps 0 0 (u.setLine { u.line with recessiveRun := Config.settleBits }) := parked.reline rfl rfl
    exact (online.setClock _).censusOnline.upholds
  · exact State.Upholds.refl s

theorem execLineFault_upholds : s.Upholds (execLineFault s) := by
  unfold execLineFault
  split
  · next on =>
    refine State.Keeps.upholds ?_
    have expired := State.Keeps.finishExpiry (.refl s 0)
    have line : s.finishExpiry.line = s.line := by
      unfold State.finishExpiry
      split
      · exact (expire_beside [] s).line
      · rfl
    generalize s.finishExpiry = u at expired line ⊢
    have other : u.cutOff.line.state ≠ .fault := by
      rw [State.cutOff_line, line]
      rcases on with h | h <;> simp [h]
    have cut : s.Keeps 0 0 (u.cutOff.setLine (u.cutOff.parked .fault)) := by
      refine expired.cutOff (fun p => ?_) nofun
      refine ⟨fun _ => rfl, fun h => h.elim (fun edge => if_pos edge) nofun, ?_⟩
      change u.cutOff.line.bitRate ≤ 3
      rw [State.cutOff_line]
      exact p.lined.2.2
    rw [State.changeLine_parked other]
    exact (cut.raise .line).setClock _
  · exact State.Upholds.refl s

theorem execFaultRecovery_upholds : s.Upholds (execFaultRecovery s) := by
  unfold execFaultRecovery
  split
  · next fault =>
    exact (State.Keeps.park (.refl s 0) (by decide) (by simp [fault]) (by simp [fault])).upholds
  · exact State.Upholds.refl s

theorem execEpochExpiry_upholds (order : List EpochOwner) : s.Upholds (execEpochExpiry order s) := by
  unfold execEpochExpiry
  split
  · exact (State.Keeps.expire (.refl s 0) order).upholds
  · exact State.Upholds.refl s

theorem row_upholds {a : Byte} {o : EpochOwner} {c : Instr} (row : RowOf a c o) : s.Upholds (exec c s) := by
  rcases exec_row_cases row s with idle | ⟨-, part⟩
  · rw [idle]
    exact State.Upholds.refl s
  · rw [part]
    exact (State.Keeps.takePart (.refl s 0) o).upholds

theorem execOfferWaitExpiry_upholds (address : Byte) : s.Upholds (execOfferWaitExpiry address s) := by
  unfold execOfferWaitExpiry
  split
  · split
    · refine State.Keeps.upholds ?_
      split
      · exact (State.Keeps.refl s 0).beside (State.expireOffer_outward ..)
      · exact .refl s 0
    · exact State.Upholds.refl s
  · exact State.Upholds.refl s

theorem execProbeWaitExpiry_upholds : s.Upholds (execProbeWaitExpiry s) := by
  unfold execProbeWaitExpiry
  split
  · split
    · exact (State.Keeps.endAttempt (.refl s 0) _).upholds
    · exact State.Upholds.refl s
  · exact State.Upholds.refl s

theorem execProbeChoose_upholds : s.Upholds (execProbeChoose s) := by
  refine State.Keeps.upholds ?_
  split
  · next chooses =>
    obtain ⟨-, free⟩ := Bool.and_eq_true_iff.mp chooses
    exact State.Keeps.choose (.refl s 0) free
  · exact .refl s 0

theorem execLineIdle_upholds : s.Upholds (execLineIdle s) := by
  unfold execLineIdle
  split
  · next ended =>
    obtain ⟨online, phase⟩ := ended
    have quiet : s.line.phase ≠ .transmitting := by rcases phase with h | h <;> simp [h]
    have idle := State.Keeps.enterPhase (.refl s 0) (ph := .idle) online quiet (by decide)
    exact State.Keeps.upholds (idle.reline rfl rfl)
  · exact State.Upholds.refl s

theorem execStartMarkReceived_upholds : s.Upholds (execStartMarkReceived s) := by
  unfold execStartMarkReceived
  split
  · next begins =>
    obtain ⟨online, phase⟩ := s.mayBegin_iff.mp begins
    have quiet : s.line.phase ≠ .transmitting := by rcases phase with h | h <;> simp [h]
    have reading := State.Keeps.enterPhase (.refl s 0) (ph := .receiving) online quiet (by decide)
    exact State.Keeps.upholds (reading.reline rfl rfl)
  · exact State.Upholds.refl s

theorem execDestinationFieldRead_upholds (destination : Byte) : s.Upholds (execDestinationFieldRead destination s) := by
  unfold execDestinationFieldRead
  split
  · next reading =>
    obtain ⟨online, phase⟩ := reading
    exact ((State.Keeps.readDestination (.refl s 0) _ online (by simp [phase])).feedField _).upholds
  · exact State.Upholds.refl s

/-- Part reset meets every law whatever stood before it, R146 and R172. -/
theorem execPartReset_upholds (f g a e : Bool) : s.Upholds (execPartReset f g a e s) := by
  have rate : strapRate f g ≤ 3 := by revert f g; decide
  have ranged : Params.reset.inRange = true := by decide
  have ported : State.reset.Ported := ⟨rfl, List.length_replicate, BitVec.zero_and, BitVec.zero_and, rfl⟩
  refine State.Keeps.upholds ⟨fun _ => ⟨⟨fun _ => rfl, ?_, rate⟩, rfl⟩, fun _ _ => ⟨ranged, rfl, Nat.zero_le _,
    Nat.zero_le _, fun _ none => nomatch none⟩, fun _ => ⟨List.nodup_nil, fun _ none => nomatch none⟩, fun _ => ported⟩
  cases a <;> cases e <;> simp [Line.afterReset]

end Rows

/-- Every command keeps the laws. -/
theorem exec_upholds (c : Instr) (s : State) : s.Upholds (exec c s) := by
  have start := State.Keeps.refl s 0
  have host (code : Byte) : s.Upholds (.next (s.takeCommand code (commandBody code.toNat))) :=
    (start.takeCode code).upholds
  have received (f : Frame) : s.Upholds (.next (s.receiveFrame f)) := (start.receiveFrame f).upholds
  cases c with
  | partReset f g a e => exact execPartReset_upholds s f g a e
  | frameInvalid cause => exact (start.receiveInvalid cause).upholds
  | frameHeard | foreignDirectoryFrame | join | accept | renew | leave | clashReport | probeReply | resolveIdentity
  | resolveAddress | claim | groupJoin | groupLeave | groupExpand => exact received _
  | transmitBegin => exact execTransmitBegin_upholds s
  | arbitrationLost => exact execArbitrationLost_upholds s
  | echoDifference => exact execEchoDifference_upholds s
  | acknowledgeSlot dominant => exact execAcknowledgeSlot_upholds s dominant
  | waitingClaimGranted => exact start.grantWaiting.upholds
  | lineOnline => exact execLineOnline_upholds s
  | lineFault => exact execLineFault_upholds s
  | faultRecovery => exact execFaultRecovery_upholds s
  | epochExpiry order => exact execEpochExpiry_upholds s order
  | lapse address => exact row_upholds s (a := address) (o := .leaseDirectory) (.inl rfl)
  | disputeHoldExpiry address => exact row_upholds s (a := address) (o := .leaseDirectory) (.inr rfl)
  | quarantineHoldExpiry => exact row_upholds s (a := 0) (o := .addressPool) rfl
  | censusWindowEnd => exact row_upholds s (a := 0) (o := .censusUnit) rfl
  | offerWaitExpiry address => exact execOfferWaitExpiry_upholds s address
  | probeWaitExpiry => exact execProbeWaitExpiry_upholds s
  | probeChoose => exact execProbeChoose_upholds s
  | setParameter => exact host 0x01
  | readParameters => exact host 0x02
  | readSummary => exact host 0x03
  | acknowledgeAttention => exact host 0x04
  | reserve => exact host 0x10
  | loadReservations => exact host 0x11
  | releaseReservation => exact host 0x12
  | clearDirectory => exact host 0x20
  | evict => exact host 0x21
  | pin => exact host 0x22
  | unpin => exact host 0x23
  | award => exact host 0x24
  | startCensus => exact host 0x30
  | endCensus => exact host 0x31
  | startSweep => exact host 0x32
  | stopSweep => exact host 0x33
  | groupAssign => exact host 0x40
  | groupRemove => exact host 0x41
  | readGroup => exact host 0x42
  | setGroupMode => exact host 0x43
  | clearGroup => exact host 0x44
  | lineEnable => exact host 0x50
  | lineDisable => exact host 0x51
  | setBitRate => exact host 0x52
  | readRecord => exact host 0x60
  | readDirectory => exact host 0x61
  | collectChanges => exact host 0x62
  | readFreeList => exact host 0x63
  | readQuarantine => exact host 0x64
  | portRestart => exact start.restartPort.upholds
  | badCommand code => exact (start.writeCode code).upholds
  | commandWriteWhileBusy code => exact (start.writeCode code).upholds
  | bufferDataRead => exact start.readBufferByte.upholds
  | bufferDataWrite data => exact (start.writeBufferByte data).upholds
  | attentionEnablesWrite data => exact (start.writeEnables data).upholds
  | registerWrite header data => exact (start.transaction header data).upholds
  | lineIdle => exact execLineIdle_upholds s
  | startMarkReceived => exact execStartMarkReceived_upholds s
  | destinationFieldRead destination => exact execDestinationFieldRead_upholds s destination

/-- So does time with no command waiting. -/
theorem tick_keeps (s : State) : s.Keeps 0 0 s.tick := by
  have frame : s.countBits = s.onLine s.countBits.line s.countBits.chance := by
    rw [State.countBits_frame]
    rfl
  have counted : s.Keeps 0 0 s.countBits :=
    State.Keeps.reline (.refl s 0) frame (by rw [State.countBits_frame]; rfl)
  exact counted.beside rfl

theorem step_keeps {s t : State} (stepped : step s = .next t) : s.Keeps 0 0 t := by
  unfold step at stepped
  split at stepped
  · next c rest _ =>
    have taken : s.Keeps 0 0 { s with pending := rest } := State.Keeps.beside (.refl s 0) rfl
    exact taken.trans (exec_upholds c _ t stepped)
  · exact Host.Outcome.next.inj stepped ▸ tick_keeps s

/-- Settles O12: the law of the queue is that of its entries and that of the phase, and a step keeps both. -/
theorem transmitQueueStaysWithinItsPlaces : Obligations.TransmitQueueStaysWithinItsPlaces := by
  intro s t queued ranged lined stepped
  have keeps := step_keeps stepped
  have phased := queued.phased lined
  exact (keeps.stocked phased (queued.stocked ranged)).queued (keeps.phased phased)

/-- Settles O15. -/
theorem lineAndPortStayInForm : Obligations.LineAndPortStayInForm := by
  intro s t lined paced ported queued stepped
  have keeps := step_keeps stepped
  exact ⟨(keeps.phased (queued.phased lined)).lined, keeps.paced paced, keeps.ported ported⟩

end Sys2Proof.Machine
end

section
/-! The rows and the host's commands that change the line state (R143 to R145, R152, R153), and the two statements of the
family "The Node Bus Line" about them. -/

namespace Sys2Proof.Machine

/-! ## The end of the attempt in transmission -/

/-- The originators that do nothing on a report, R151. -/
theorem State.report_silent {o : Originator} (silent : o = .joinUnit ∨ o = .reply ∨ o = .stray ∨ o = .dispute
      ∨ o = .censusUnit ∨ o = .command false ∨ o = .prober false) (sent : Bool) (s : State) : s.report o sent = s := by
  rcases silent with rfl | rfl | rfl | rfl | rfl | rfl | rfl <;> rfl

theorem map_settled {pre post : List TxEntry} {e : TxEntry} (used : Nat) (sending : e.sending = true)
    (alone : ∀ x ∈ pre ++ post, x.sending = false) :
    (pre ++ e :: post).map (TxEntry.settled used) = pre ++ { e with used := used, sending := false } :: post := by
  have keeps (l : List TxEntry) (h : ∀ x ∈ l, x ∈ pre ++ post) : l.map (TxEntry.settled used) = l := by
    conv_rhs => rw [← List.map_id l]
    exact List.map_congr_left fun x hx => TxEntry.settled_idle used (alone x (h x hx))
  rw [List.map_append, List.map_cons, TxEntry.settled_sent used sending, keeps pre fun _ => List.mem_append_left _,
    keeps post fun _ => List.mem_append_right _]

section Attempt

variable {s : State} {pre post : List TxEntry} {e : TxEntry}

/-- The entry stays in its place with the attempts given. -/
theorem State.keepEntry_split (entries : s.queue.entries = pre ++ e :: post) (sending : e.sending = true)
    (alone : ∀ x ∈ pre ++ post, x.sending = false) (used : Nat) :
    s.keepEntry used = s.setQueue { s.queue with
      entries := pre ++ { e with used := used, sending := false } :: post } := by
  rw [State.keepEntry_eq, entries, map_settled used sending alone]

/-- An attempt that counts, short of the limit. -/
theorem State.countAttempt_stays (entries : s.queue.entries = pre ++ e :: post) (sending : e.sending = true)
    (alone : ∀ x ∈ pre ++ post, x.sending = false) (again : e.lastTry = false) (below : e.used + 1 < e.limit) :
    s.countAttempt e = s.setQueue { s.queue with
      entries := pre ++ { e with used := e.used + 1, sending := false } :: post } := by
  rw [← State.keepEntry_split entries sending alone]
  simp [State.countAttempt, again, Nat.not_le.mpr below]

/-- The entry leaves the queue, and its report makes nothing happen. -/
theorem State.leaveQueue_silent (entries : s.queue.entries = pre ++ e :: post) (sending : e.sending = true)
    (alone : ∀ x ∈ pre ++ post, x.sending = false)
    (silent : e.originator = .joinUnit ∨ e.originator = .reply ∨ e.originator = .stray ∨ e.originator = .dispute
      ∨ e.originator = .censusUnit ∨ e.originator = .command false ∨ e.originator = .prober false) (sent : Bool) :
    s.leaveQueue e sent = s.setQueue (s.freed (pre ++ post)) := by
  rw [State.leaveQueue_eq sent entries sending alone, State.report_silent silent]

theorem State.cutOff_sending (one : s.sendingEntry = some e) : s.cutOff = s.countAttempt e := by
  simp only [State.cutOff, one]

theorem State.sendingEntry_none (idle : ∀ e ∈ s.queue.entries, e.sending = false) : s.sendingEntry = none :=
  List.find?_eq_none.mpr fun e he => by simp [idle e he]

theorem State.cutOff_idle (none : s.sendingEntry = none) : s.cutOff = s := by simp only [State.cutOff, none]

end Attempt

/-! ## LINE_ONLINE, R119, R121 and R144 -/

/-- The line ONLINE with a full epoch begun, before the census is looked at. -/
def State.wentOnline (s : State) : State :=
  { s with
    line := { s.parked .online with recessiveRun := 24 }, port := s.port.withCause .line,
    clock := { epoch := some { period := s.params.epochPeriod, left := 20 * s.params.epochPeriod },
               taken := PartsTaken.none } }

theorem exec_lineOnline {s : State} (settling : s.line.state = .settling) :
    exec .lineOnline s = .next s.wentOnline.censusOnline := by
  change execLineOnline s = _
  rw [execLineOnline, if_pos settling, State.changeLine_parked (by simp [settling])]
  rfl

theorem State.censusOnline_autostart {s : State} (pending : s.census.autostart = true) :
    s.censusOnline = (s.setCensus { s.census with autostart := false }).beginCensus := if_pos pending

theorem State.censusOnline_census {s : State} (none : s.census.autostart = false) (census : s.census.mode = .census) :
    s.censusOnline = s.queueCensus := by simp [State.censusOnline, none, census]

theorem State.censusOnline_serving {s : State} (none : s.census.autostart = false)
    (serving : s.census.mode = .serving) : s.censusOnline = s := by simp [State.censusOnline, none, serving]

/-- With no CENSUS frame waiting unsent, one is claimed for. -/
theorem State.queueCensus_claims {s : State} (none : s.queue.entries.any TxEntry.waitingCensus = false) :
    s.queueCensus = s.setQueue (s.claimed .censusUnit (censusFrame s.census.window s.params.epochPeriod) 0) := by
  rw [State.queueCensus, none, State.claimOrDrop_eq]
  rfl

/-- Every CENSUS frame that waits unsent is brought up to date. -/
theorem State.queueCensus_updates {s : State} (waiting : s.queue.entries.any TxEntry.waitingCensus = true) :
    s.queueCensus = s.setQueue (s.censusUpdated (censusFrame s.census.window s.params.epochPeriod)) := by
  rw [State.queueCensus, if_pos waiting]
  rfl

/-- A claim is granted in ONLINE as in SETTLING, R150. -/
theorem State.claimed_wentOnline {s : State} (settling : s.line.state = .settling) (c : Census) (o : Originator)
    (f : Frame) : (s.wentOnline.setCensus c).claimed o f 0 = s.claimed o f 0 := by
  have before : s.line.state ≠ .disabled := by simp [settling]
  have after : (s.wentOnline.setCensus c).line.state ≠ .disabled := nofun
  simp only [State.claimed, before, after, ne_eq, not_false_eq_true, true_and]
  rfl

/-! ## LINE_FAULT, R144 and R152 -/

/-- An attempt that ends without an answer leaves the parameters. -/
theorem State.endAttempt_params (s : State) : (s.endAttempt .noAnswer).params = s.params := by
  have params (u : State) (same : u.outward = s.emptyContext.outward) : u.params = s.params :=
    congrArg (fun w => w.2.2.1) same
  unfold State.endAttempt
  split
  · rfl
  · next c _ =>
    split
    · next r _ =>
      unfold State.applyOutcome
      cases c.kind with
      | lapse => exact params (State.failLapseProbe r c.attempt s.emptyContext) (State.failLapseProbe_outward ..)
      | sweep => exact params (State.lapseRecord r s.emptyContext) (State.lapseRecord_outward ..)
    · exact params (State.placeDiscarded c s.emptyContext) (State.placeDiscarded_outward ..)

theorem State.cutOff_params (s : State) : s.cutOff.params = s.params := by
  have reported (o : Originator) (u : State) : (u.report o false).params = u.params := by
    unfold State.report
    split
    · split
      · split
        · exact u.endAttempt_params
        · rfl
      · rfl
    all_goals rfl
  unfold State.cutOff State.countAttempt
  split
  · split
    · exact (reported ..).trans (State.grantWaiting_params _)
    · rfl
  · rfl

/-- A state with the line in FAULT and the clock frozen. -/
def State.faulted (l : Line) (s : State) : State :=
  { s with line := l, port := s.port.withCause .line, clock := { epoch := none, taken := PartsTaken.none } }

theorem exec_lineFault {s : State} (on : s.line.state = .settling ∨ s.line.state = .online)
    (whole : s.line.state ≠ .online ∨ s.clock.taken = PartsTaken.none) :
    exec .lineFault s = .next (s.cutOff.faulted (s.parked .fault)) := by
  have other : s.cutOff.line.state ≠ .fault := by
    rw [State.cutOff_line]
    rcases on with h | h <;> simp [h]
  have parked : s.cutOff.parked .fault = s.parked .fault := by
    rw [State.parked, State.cutOff_line, State.cutOff_params]
    rfl
  change execLineFault s = _
  rw [execLineFault, if_pos on, State.finishExpiry_whole whole, State.changeLine_parked other, parked]
  rfl

/-- An expiry of which a part is taken is finished first, and the line then goes to FAULT from the state it leaves. -/
theorem exec_lineFault_parted {s : State} (online : s.line.state = .online) (parted : s.clock.taken ≠ PartsTaken.none) :
    exec .lineFault s = exec .lineFault (s.expire []) := by
  have online' : (s.expire []).line.state = .online := (congrArg Line.state (expire_beside [] s).line).trans online
  change execLineFault s = execLineFault (s.expire [])
  rw [execLineFault, execLineFault, if_pos (.inr online), if_pos (.inr online'),
    State.finishExpiry_parted online parted, State.finishExpiry_whole (.inr (State.expire_clock [] s))]

/-- Settles O38, by the row and what it finds in transmission, in the census and in the clock. -/
theorem lineStatesChangeAsTheTableGives : Obligations.LineStatesChangeAsTheTableGives := by
  refine ⟨?serving, ?autostart, ?fault, ?faultCounts, ?recovery, ?census, ?faultDrops, ?idle, ?autostartUpdates,
    ?censusUpdates, ?faultReports, ?parted⟩
  case serving =>
    intro s settling none serving
    rw [exec_lineOnline settling, State.censusOnline_serving (s := s.wentOnline) none serving]
    exact ⟨_, rfl, rfl, rfl, rfl, rfl⟩
  case autostart =>
    intro s settling pending none
    rw [exec_lineOnline settling, State.censusOnline_autostart (s := s.wentOnline) pending,
      State.beginCensus_claims (s := s.wentOnline.setCensus _) none,
      State.claimed_wentOnline settling]
    exact ⟨_, rfl, rfl, rfl, rfl, rfl, rfl, rfl⟩
  case fault =>
    intro s on idle whole
    rw [exec_lineFault on whole, State.cutOff_idle (State.sendingEntry_none idle)]
    exact ⟨_, rfl, rfl, rfl, rfl, rfl⟩
  case faultCounts =>
    intro s pre e post online entries sending alone again below whole
    rw [exec_lineFault (.inr online) (.inr whole), State.cutOff_sending (State.sendingEntry_eq entries sending alone),
      State.countAttempt_stays entries sending alone again below]
    exact ⟨_, rfl, rfl, rfl, rfl, rfl, rfl⟩
  case recovery =>
    intro s fault
    change ∃ t, execFaultRecovery s = _ ∧ _
    rw [execFaultRecovery, if_pos fault, State.changeLine_parked (by simp [fault])]
    exact ⟨_, rfl, rfl, rfl, rfl⟩
  case census =>
    intro s settling none census waiting
    have claims : s.wentOnline.claimed .censusUnit (censusFrame s.census.window s.params.epochPeriod) 0 =
        s.claimed .censusUnit (censusFrame s.census.window s.params.epochPeriod) 0 :=
      State.claimed_wentOnline settling s.census _ _
    rw [exec_lineOnline settling, State.censusOnline_census (s := s.wentOnline) none census,
      State.queueCensus_claims (s := s.wentOnline) waiting]
    exact ⟨_, rfl, rfl, claims, rfl, rfl, rfl⟩
  case faultDrops =>
    intro s pre e post online entries sending alone silent last whole
    rw [exec_lineFault (.inr online) (.inr whole), State.cutOff_sending (State.sendingEntry_eq entries sending alone),
      State.countAttempt_leaves s last, State.leaveQueue_silent entries sending alone silent]
    exact ⟨_, rfl, rfl, rfl, rfl, rfl, rfl⟩
  case idle =>
    rintro s c (⟨rfl, other⟩ | ⟨rfl, other⟩ | ⟨rfl, other⟩)
    · exact if_neg other
    · exact if_neg (by rcases other with h | h <;> simp [h])
    · exact if_neg other
  case autostartUpdates =>
    intro s settling pending waiting
    rw [exec_lineOnline settling, State.censusOnline_autostart (s := s.wentOnline) pending,
      State.beginCensus_updates (s := s.wentOnline.setCensus _) waiting]
    exact ⟨_, rfl, rfl, rfl, rfl, rfl, rfl, rfl⟩
  case censusUpdates =>
    intro s settling none census waiting
    rw [exec_lineOnline settling, State.censusOnline_census (s := s.wentOnline) none census,
      State.queueCensus_updates (s := s.wentOnline) waiting]
    exact ⟨_, rfl, rfl, rfl, rfl, rfl, rfl⟩
  case faultReports =>
    intro s pre e post u online whole entries sending alone module unicast answered
    have one := State.sendingEntry_eq entries sending alone
    obtain ⟨l, settled⟩ := exec_acknowledgeSlot_sending one false
    obtain rfl := Host.Outcome.next.inj (settled.symm.trans answered)
    rw [exec_lineFault (.inr online) (.inr whole), State.cutOff_frame, State.cutOff_sending one,
      State.settleSlot_counts s module unicast]
    exact ⟨_, rfl, rfl, rfl, rfl, rfl⟩
  case parted =>
    intro s u online parted expired
    obtain rfl := Host.Outcome.next.inj ((exec_epochExpiry_online online []).symm.trans expired)
    exact exec_lineFault_parted online parted

/-! ## Line Enable and Set Bit Rate, R145 -/

theorem exec_lineEnable {s : State} (ready : s.port.state ≠ .busy) :
    exec .lineEnable s = .next (s.taken 0x50).lineEnable :=
  congrArg Host.Outcome.next (State.takeCommand_taken 0x50 State.lineEnable ready)

theorem exec_setBitRate {s : State} (ready : s.port.state ≠ .busy) :
    exec .setBitRate s = .next (s.taken 0x52).setBitRate :=
  congrArg Host.Outcome.next (State.takeCommand_taken 0x52 State.setBitRate ready)

theorem exec_lineDisable {s : State} (ready : s.port.state ≠ .busy) :
    exec .lineDisable s = .next (s.taken 0x51).lineDisable :=
  congrArg Host.Outcome.next (State.takeCommand_taken 0x51 State.lineDisable ready)

/-! ## Line Disable, R100, R145 and R153 -/

/-- A state with the line off, the clock frozen and Line Disable completed. -/
def State.wentOff (s : State) : State :=
  { s with
    line := s.unpowered, clock := { epoch := none, taken := PartsTaken.none },
    port := (if s.line.state = .disabled then s.port else s.port.withCause .line).completed 0x51 .ok }

/-- Once the queue is purged and the probe context discarded, the line goes off. -/
theorem State.lineOff_wentOff (s : State) : (s.taken 0x51).lineOff.freezeClock.finish .ok = s.wentOff := by
  by_cases off : s.line.state = .disabled
  · rw [State.lineOff_off (s := s.taken 0x51) off, State.wentOff, if_pos off]
    rfl
  · rw [State.lineOff_on (s := s.taken 0x51) off, State.wentOff, if_neg off]
    rfl

theorem State.discardContext_taken (code : Byte) (s : State) :
    (s.taken code).discardContext = s.discardContext.taken code := by
  have found (a : Nat) : (s.taken code).recordAt a = s.recordAt a := rfl
  have context : (s.taken code).prober = s.prober := rfl
  unfold State.discardContext
  simp only [context, found]
  split
  · rfl
  split
  · split <;> rfl
  · rfl

theorem exec_lineDisable_whole {s : State} (ready : s.port.state ≠ .busy)
    (whole : s.line.state ≠ .online ∨ s.clock.taken = PartsTaken.none) :
    exec .lineDisable s = .next s.purgeAll.discardContext.wentOff := by
  have purged : (s.taken 0x51).purgeAll = s.purgeAll.taken 0x51 := rfl
  rw [exec_lineDisable ready, State.lineDisable, State.finishExpiry_whole (s := s.taken 0x51) whole, purged,
    State.discardContext_taken, State.lineOff_wentOff]

/-- With no probe in flight nothing is discarded. -/
theorem State.discardContext_idle {s : State} (idle : s.prober.context = none) : s.discardContext = s := by
  simp only [State.discardContext, idle]

/-- A target still LAPSED goes to the head of the lapse list. -/
theorem State.discardContext_relists {s : State} {c : ProbeContext} {r : Record} (context : s.prober.context = some c)
    (found : s.recordAt c.target = some r) (identity : r.identity = c.identity) (lapsed : r.state = .lapsed) :
    s.discardContext = s.emptyContext.prependLapse r.address := by
  simp only [State.discardContext, context, found]
  exact if_pos ⟨identity, lapsed⟩

/-- Any other target goes nowhere. -/
theorem State.discardContext_drops {s : State} {c : ProbeContext} (context : s.prober.context = some c)
    (other : (s.recordAt c.target).all (fun r => r.identity != c.identity || r.state != .lapsed) = true) :
    s.discardContext = s.emptyContext := by
  cases found : s.recordAt c.target with
  | none => simp only [State.discardContext, context, found]
  | some r =>
    simp only [State.discardContext, context, found]
    refine if_neg fun ⟨identity, lapsed⟩ => ?_
    simp [found, identity, lapsed] at other

/-! ## An expiry and the port of a command taken, R39 -/

theorem State.directoryPart_taken (code : Byte) (s : State) :
    (s.taken code).directoryPart = s.directoryPart.taken code := by
  simp only [State.directoryPart, State.countHolds_eq, foldl_revokeDisputed, State.ageTerms, foldl_lapseRecord]
  rfl

theorem State.proberPart_taken (code : Byte) (s : State) :
    (s.taken code).proberPart = s.proberPart.taken code := by
  cases mode : s.census.mode with
  | serving => rw [State.proberPart_serving mode, State.proberPart_serving (s := s.taken code) mode]; rfl
  | census => rw [State.proberPart_census mode, State.proberPart_census (s := s.taken code) mode]

theorem State.censusPart_taken (code : Byte) (s : State) :
    (s.taken code).censusPart = s.censusPart.taken code := by
  cases mode : s.census.mode with
  | serving => rw [State.censusPart_serving mode, State.censusPart_serving (s := s.taken code) mode]
  | census =>
    by_cases window : s.census.window ≤ 1
    · rw [State.censusPart_ends mode window, State.censusPart_ends (s := s.taken code) mode window]
      rfl
    · cases waiting : s.queue.entries.any TxEntry.waitingCensus with
      | true =>
        rw [State.censusPart_updates mode (by omega) waiting,
          State.censusPart_updates (s := s.taken code) mode (Nat.lt_of_not_le window) waiting]
        rfl
      | false =>
        rw [State.censusPart_claims mode (by omega) waiting,
          State.censusPart_claims (s := s.taken code) mode (Nat.lt_of_not_le window) waiting]
        rfl

/-- The owners' parts are the same whatever command has been taken. -/
theorem State.takePart_taken_port (code : Byte) (o : EpochOwner) (s : State) :
    (s.taken code).takePart o = (s.takePart o).taken code := by
  have part : (s.taken code).partOf o = (s.partOf o).taken code := by
    cases o with
    | leaseDirectory => exact s.directoryPart_taken code
    | addressPool => rfl
    | prober => exact s.proberPart_taken code
    | censusUnit => exact s.censusPart_taken code
  cases turn : s.clock.taken.has o with
  | true => rw [State.takePart_taken turn, State.takePart_taken (s := s.taken code) turn]
  | false =>
    rw [State.takePart_fresh turn, State.takePart_fresh (s := s.taken code) turn, part]
    rfl

theorem State.expire_taken (code : Byte) (s : State) : (s.taken code).expire [] = (s.expire []).taken code := by
  have parts (os : List EpochOwner) (u : State) : os.foldl (fun t o => t.takePart o) (u.taken code) =
      (os.foldl (fun t o => t.takePart o) u).taken code := by
    induction os generalizing u with
    | nil => rfl
    | cons o os ih => rw [List.foldl_cons, List.foldl_cons, State.takePart_taken_port, ih]
  exact congrArg State.beginEpoch (parts _ s)

/-- No owner's part takes or completes a command. -/
theorem State.takePart_busy (o : EpochOwner) (s : State) : (s.takePart o).port.state = s.port.state := by
  have part : (s.partOf o).port.state = s.port.state := by
    cases o with
    | leaseDirectory =>
      rw [State.partOf, State.directoryPart, State.countHolds_eq, foldl_revokeDisputed, State.ageTerms,
        foldl_lapseRecord]
      rfl
    | addressPool => rfl
    | prober => rw [State.partOf, State.proberPart_frame]
    | censusUnit =>
      unfold State.partOf State.censusPart State.queueCensus
      dsimp only
      split
      · split
        · split
          · rfl
          · rw [State.claimOrDrop_eq]
            rfl
        · rfl
      · rfl
  unfold State.takePart
  split
  · rfl
  · exact part

theorem State.expire_busy (s : State) : (s.expire []).port.state = s.port.state :=
  List.foldlRecOn (motive := fun u : State => u.port.state = s.port.state) _ _ rfl
    fun u same o _ => (u.takePart_busy o).trans same

/-- An expiry of which a part is taken is finished first, and the line then goes off from the state it leaves. -/
theorem exec_lineDisable_parted {s : State} (ready : s.port.state ≠ .busy) (online : s.line.state = .online)
    (parted : s.clock.taken ≠ PartsTaken.none) : exec .lineDisable s = exec .lineDisable (s.expire []) := by
  have whole : ((s.expire []).taken 0x51).clock.taken = PartsTaken.none := State.expire_clock [] s
  rw [exec_lineDisable ready, exec_lineDisable (s.expire_busy ▸ ready), State.lineDisable, State.lineDisable,
    State.finishExpiry_parted (s := s.taken 0x51) online parted, State.finishExpiry_whole (.inr whole),
    State.expire_taken]

/-- Settles O40, by the command, the line state and the probe in flight. -/
theorem lineCommandsEnableDisableAndSetTheRate : Obligations.LineCommandsEnableDisableAndSetTheRate := by
  refine ⟨?enables, ?enabled, ?idle, ?relists, ?rate, ?drops, ?parted⟩
  case enables =>
    intro s ready off
    have other : (s.taken 0x50).line.state ≠ .settling := by simp [State.taken, off]
    rw [exec_lineEnable ready, State.lineEnable, if_pos (show (s.taken 0x50).line.state = .disabled from off),
      State.changeLine_parked other]
    rfl
  case enabled =>
    intro s ready on
    rw [exec_lineEnable ready, ← State.finish_taken]
    exact congrArg Host.Outcome.next (if_neg on)
  case idle =>
    intro s ready idle whole
    rw [exec_lineDisable_whole ready whole, State.discardContext_idle (s := s.purgeAll) idle]
    exact ⟨_, rfl, rfl, rfl, rfl, rfl, rfl⟩
  case relists =>
    intro s c r ready context found identity lapsed whole
    rw [exec_lineDisable_whole ready whole,
      State.discardContext_relists (s := s.purgeAll) context found identity lapsed]
    exact ⟨_, rfl, rfl, rfl, rfl, rfl, rfl, rfl, rfl⟩
  case rate =>
    intro s ready
    rw [exec_setBitRate ready]
    refine congrArg Host.Outcome.next ?_
    change (if 3 < s.p 0 then _ else if s.line.state ≠ .disabled then _ else _) = _
    rfl
  case drops =>
    intro s c ready context other whole
    rw [exec_lineDisable_whole ready whole, State.discardContext_drops (s := s.purgeAll) context other]
    exact ⟨_, rfl, rfl, rfl, rfl, rfl, rfl, rfl⟩
  case parted =>
    intro s u ready online parted expired
    obtain rfl := Host.Outcome.next.inj ((exec_epochExpiry_online online []).symm.trans expired)
    exact exec_lineDisable_parted ready online parted

end Sys2Proof.Machine
end

section
/-! The ends of a send attempt (R149, R151 and R153), and the statement of the family "The Node Bus Line" about them. -/

namespace Sys2Proof.Machine

/-! ## The line of a row that ends an attempt -/

/-- The line in a phase, with the phase's termination setting, R155. -/
def State.inPhase (ph : LinePhase) (setting : Termination) (s : State) : Line :=
  { s.line with phase := ph, termination := if s.line.segmentEnd = false then .openCircuit else setting }

/-- The same with the runs of the bits read. -/
def State.entered (ph : LinePhase) (setting : Termination) (bits : List Bool) (s : State) : Line :=
  { s.inPhase ph setting with
    recessiveRun := (runsOver true 0 bits).1, dominantRun := (runsOver true 0 bits).2 }

theorem State.enterPhase_inPhase (ph : LinePhase) (s : State) :
    s.enterPhase ph = s.setLine (s.inPhase ph ((s.params.terminationFor ph).getD s.line.termination)) := by
  have setting (a b : Termination) :
      (if s.line.segmentEnd then a else b) = if s.line.segmentEnd = false then b else a := by
    cases s.line.segmentEnd <;> rfl
  rw [State.enterPhase_eq, setting]
  rfl

section Rows

variable {s : State} {pre post : List TxEntry} {e : TxEntry}

theorem State.enterPhase_runsOf (ph : LinePhase) (bits : List Bool) (s : State) : (s.enterPhase ph).runsOf bits =
    s.onLine (s.entered ph ((s.params.terminationFor ph).getD s.line.termination) bits) s.chance := by
  rw [State.enterPhase_inPhase]
  rfl

theorem State.enterPhase_runsDrawn (ph : LinePhase) (bits : List Bool) (s : State) :
    (s.enterPhase ph).runsDrawn bits =
      s.onLine (s.entered ph ((s.params.terminationFor ph).getD s.line.termination) bits) (s.chance + 1) := by
  rw [State.runsDrawn, State.enterPhase_runsOf]
  rfl

theorem exec_acknowledgeSlot_settles (one : s.sendingEntry = some e) (d : Bool) :
    exec (.acknowledgeSlot d) s = .next ((s.onLine (s.entered .afterFrame s.line.termination
      (e.frame.checkedBits e.check ++ [!d, true, true, true])) s.chance).settleSlot e d) := by
  change execAcknowledgeSlot d s = _
  rw [execAcknowledgeSlot, one]
  simp only [State.enterPhase_runsOf]
  rfl

theorem exec_echoDifference_counts (one : s.sendingEntry = some e) :
    exec .echoDifference s = .next ((s.onLine (s.entered .stopped s.line.termination (s.bitsToDifference e))
      (s.chance + 1)).countAttempt e) := by
  change execEchoDifference s = _
  rw [execEchoDifference, one]
  simp only [State.enterPhase_runsDrawn]
  rfl

/-- An entry kept through Clear Directory leaves the queue, R153. -/
theorem exec_arbitrationLost_leaves (one : s.sendingEntry = some e) (last : e.lastTry = true) :
    exec .arbitrationLost s = .next ((s.onLine (s.entered .receiving s.params.pass (s.bitsToLoss e.frame))
      (s.chance + 1)).leaveQueue e false) := by
  change execArbitrationLost s = _
  rw [execArbitrationLost, one]
  simp only [State.enterPhase_runsDrawn, last]
  rfl

/-- Any other stays, with no attempt counted. -/
theorem exec_arbitrationLost_keeps (one : s.sendingEntry = some e) (again : e.lastTry = false) :
    exec .arbitrationLost s = .next ((s.onLine (s.entered .receiving s.params.pass (s.bitsToLoss e.frame))
      (s.chance + 1)).keepEntry e.used) := by
  change execArbitrationLost s = _
  rw [execArbitrationLost, one]
  simp only [State.enterPhase_runsDrawn, again]
  rfl

/-- With no frame in transmission none of the three rows does anything. -/
theorem exec_end_idle (none : s.sendingEntry = none) : ∀ c : Instr,
    (c = .acknowledgeSlot true ∨ c = .acknowledgeSlot false ∨ c = .echoDifference ∨ c = .arbitrationLost) →
      exec c s = .next s := by
  have slot (d : Bool) : exec (.acknowledgeSlot d) s = .next s := by
    change execAcknowledgeSlot d s = _
    simp only [execAcknowledgeSlot, none]
  have echo : exec .echoDifference s = .next s := by
    change execEchoDifference s = _
    simp only [execEchoDifference, none]
  have lost : exec .arbitrationLost s = .next s := by
    change execArbitrationLost s = _
    simp only [execArbitrationLost, none]
  rintro c (rfl | rfl | rfl | rfl)
  · exact slot true
  · exact slot false
  · exact echo
  · exact lost

/-- At the acknowledge slot the entry leaves: acknowledged, without an acknowledgment to ask for, or given up. -/
theorem State.settleSlot_leaves {d : Bool} (s : State) (ends : d = true ∨ e.frame.destination.toNat = 0
      ∨ e.frame.destination.toNat = 255 ∨ e.lastTry = true ∨ e.limit ≤ e.used + 1) :
    ∃ sent, s.settleSlot e d = s.leaveQueue e sent := by
  unfold State.settleSlot
  dsimp only
  split
  · exact ⟨true, rfl⟩
  · next counts =>
    simp only [Bool.or_eq_true, decide_eq_true_eq, not_or] at counts
    obtain ⟨⟨recessive, module⟩, unicast⟩ := counts
    exact ⟨false, s.countAttempt_leaves (((ends.resolve_left recessive).resolve_left module).resolve_left unicast)⟩

/-! ## Whatever the report does, the line is the row's -/

theorem State.keepEntry_onLine (l : Line) (c used : Nat) (s : State) :
    (s.onLine l c).keepEntry used = (s.keepEntry used).onLine l c := rfl

theorem State.leaveQueue_onLine_line (l : Line) (c : Nat) (e : TxEntry) (sent : Bool) (s : State) :
    ((s.onLine l c).leaveQueue e sent).line = l := congrArg State.line (State.leaveQueue_onLine l c e sent s)

theorem State.countAttempt_onLine_line (l : Line) (c : Nat) (e : TxEntry) (s : State) :
    ((s.onLine l c).countAttempt e).line = l := congrArg State.line (State.countAttempt_onLine l c e s)

/-! ## Where the bits read end, R149 -/

/-- Stuffing leaves no bit out. -/
theorem mem_stuffFrom {b : Bool} {bits : List Bool} (mem : b ∈ bits) (last : Bool) (n : Nat) :
    b ∈ stuffFrom last n bits := by
  induction bits generalizing last n with
  | nil => cases mem
  | cons c bits ih =>
    unfold stuffFrom
    dsimp only
    generalize (if c = last then n + 1 else 1) = count
    rcases List.mem_cons.mp mem with rfl | rest
    · split <;> exact List.mem_cons_self
    · split
      · exact List.mem_cons_of_mem _ (List.mem_cons_of_mem _ (ih rest ..))
      · exact List.mem_cons_of_mem _ (ih rest ..)

/-- A loss comes at a recessive bit of priority or source: the source of a frame of the DL416 has one. -/
theorem State.bitsToLoss_eq {f : Frame} (own : f.source = 0xFE) (s : State) :
    ∃ k ∈ List.range f.arbitrationBits.length, f.arbitrationBits.getD k false = true
      ∧ s.bitsToLoss f = f.arbitrationBits.take k ++ [false] := by
  have recessive : true ∈ f.arbitrationBits := by
    have source : true ∈ false :: (bitsOf f.priority ++ bitsOf f.source) := by
      rw [own]
      exact List.mem_cons_of_mem _ (List.mem_append_right _ (by decide))
    exact mem_stuffFrom source true 0
  obtain ⟨k, short, isTrue⟩ := List.getElem_of_mem recessive
  have some : ((List.range f.arbitrationBits.length).filter fun k => f.arbitrationBits.getD k false) ≠ [] :=
    List.ne_nil_of_mem (List.mem_filter.mpr ⟨List.mem_range.mpr short, by
      rw [List.getD_eq_getElem _ _ short, isTrue]⟩)
  have index := Nat.mod_lt (Config.freeRun s.chance) (List.length_pos_iff.mpr some)
  have chosen := List.getElem_mem index
  rw [← List.getD_eq_getElem (d := 0)] at chosen
  obtain ⟨range, bit⟩ := List.mem_filter.mp chosen
  exact ⟨_, range, bit, rfl⟩

/-- What follows the source of a frame of the DL416 is longer than its arbitration. -/
theorem Frame.arbitrationBits_lt {f : Frame} (own : f.source = 0xFE) (check : Half) :
    f.arbitrationBits.length < (f.checkedBits check).length := by
  have split : false :: (f.fieldBits ++ bitsOf check) = (false :: (bitsOf f.priority ++ bitsOf f.source)) ++
      (bitsOf f.destination ++ bitsOf f.kind ++ bitsOf (BitVec.ofNat 5 f.payload.length) ++ f.payload.flatMap bitsOf
        ++ bitsOf check) := by
    have anonymous : f.source.toNat ≠ 0 := by rw [own]; decide
    simp [Frame.fieldBits, Frame.headBits, anonymous]
  have longer := length_stuffFrom_append (false :: (bitsOf f.priority ++ bitsOf f.source))
    (bitsOf f.destination ++ bitsOf f.kind ++ bitsOf (BitVec.ofNat 5 f.payload.length) ++ f.payload.flatMap bitsOf
      ++ bitsOf check) true 0
  rw [← split] at longer
  have some : 0 < (bitsOf check).length := by simp [bitsOf]
  simp only [List.length_append] at longer
  unfold Frame.arbitrationBits Frame.checkedBits
  omega

/-- A difference comes at a bit after priority and source. -/
theorem State.bitsToDifference_eq (own : e.frame.source = 0xFE) (s : State) :
    ∃ k ∈ List.range (e.frame.checkedBits e.check).length, e.frame.arbitrationBits.length ≤ k
      ∧ s.bitsToDifference e =
        (e.frame.checkedBits e.check).take k ++ [!(e.frame.checkedBits e.check).getD k true] := by
  have longer := Frame.arbitrationBits_lt own e.check
  have drawn := Nat.mod_lt (Config.freeRun s.chance) (Nat.sub_pos_of_lt longer)
  exact ⟨_, List.mem_range.mpr (by omega), Nat.le_add_right _ _, rfl⟩

end Rows

/-- Settles O36, by the row, by whether the attempt is the entry's last, and by what the originator does on a report. -/
theorem sendAttemptsAreSettled : Obligations.SendAttemptsAreSettled := by
  refine ⟨?left, ?counted, ?differs, ?dropped, ?lost, ?idle, ?lostLast, ?lossBits, ?differenceBits⟩
  case left =>
    intro s pre e post d entries sending alone silent ends
    obtain ⟨sent, leaves⟩ := State.settleSlot_leaves s ends
    rw [exec_acknowledgeSlot_settles (State.sendingEntry_eq entries sending alone), State.settleSlot_onLine, leaves,
      State.leaveQueue_silent entries sending alone silent]
    exact ⟨_, rfl, rfl, rfl, rfl, rfl⟩
  case counted =>
    intro s pre e post entries sending alone module unicast again below
    rw [exec_acknowledgeSlot_settles (State.sendingEntry_eq entries sending alone), State.settleSlot_onLine,
      State.settleSlot_counts s module unicast, State.countAttempt_stays entries sending alone again below]
    exact ⟨_, rfl, rfl, rfl, rfl, rfl⟩
  case differs =>
    intro s pre e post entries sending alone again below
    rw [exec_echoDifference_counts (State.sendingEntry_eq entries sending alone), State.countAttempt_onLine,
      State.countAttempt_stays entries sending alone again below]
    exact ⟨_, rfl, rfl, rfl, rfl⟩
  case dropped =>
    intro s pre e post entries sending alone silent last
    rw [exec_echoDifference_counts (State.sendingEntry_eq entries sending alone), State.countAttempt_onLine,
      State.countAttempt_leaves s last, State.leaveQueue_silent entries sending alone silent]
    exact ⟨_, rfl, rfl, rfl, rfl⟩
  case lost =>
    intro s pre e post entries sending alone again
    rw [exec_arbitrationLost_keeps (State.sendingEntry_eq entries sending alone) again, State.keepEntry_onLine,
      State.keepEntry_split entries sending alone]
    exact ⟨_, rfl, rfl, rfl, rfl⟩
  case idle => exact fun s c idle => exec_end_idle (State.sendingEntry_none idle) c
  case lostLast =>
    intro s pre e post entries sending alone silent last
    rw [exec_arbitrationLost_leaves (State.sendingEntry_eq entries sending alone) last, State.leaveQueue_onLine,
      State.leaveQueue_silent entries sending alone silent]
    exact ⟨_, rfl, rfl, rfl, rfl⟩
  case lossBits =>
    intro s pre e post entries sending alone own
    have one := State.sendingEntry_eq entries sending alone
    obtain ⟨k, range, recessive, bits⟩ := State.bitsToLoss_eq own s
    cases last : e.lastTry with
    | true =>
      refine ⟨_, exec_arbitrationLost_leaves one last, k, range, recessive, ?_⟩
      rw [State.leaveQueue_onLine_line, ← bits]
      rfl
    | false =>
      refine ⟨_, exec_arbitrationLost_keeps one last, k, range, recessive, ?_⟩
      rw [← bits]
      rfl
  case differenceBits =>
    intro s pre e post entries sending alone own
    obtain ⟨k, range, beyond, bits⟩ := State.bitsToDifference_eq own s
    refine ⟨_, exec_echoDifference_counts (State.sendingEntry_eq entries sending alone), k, range, beyond, ?_⟩
    rw [State.countAttempt_onLine_line, ← bits]
    rfl

end Sys2Proof.Machine
end

section
/-! The rows that begin a frame or find the line idle (R144, R149, R150 and R155), and the statements of the family
"The Node Bus Line" about them. -/

namespace Sys2Proof.Machine

/-! ## The entry sent next, R150 -/

section Choice

variable {pre post : List TxEntry} {e : TxEntry}

/-- The oldest of the lowest priority comes first. -/
theorem firstByPriority_split (before : ∀ x ∈ pre, e.frame.priority.toNat < x.frame.priority.toNat)
    (after : ∀ x ∈ post, e.frame.priority.toNat ≤ x.frame.priority.toNat) :
    firstByPriority (pre ++ e :: post) = some e := by
  induction pre with
  | nil =>
    cases first : firstByPriority post with
    | none => simp only [List.nil_append, firstByPriority, first]
    | some f =>
      simp only [List.nil_append, firstByPriority, first]
      exact if_neg (Nat.not_lt.mpr (after f (firstByPriority_mem first)))
  | cons x pre ih =>
    obtain ⟨lower, rest⟩ := List.forall_mem_cons.mp before
    simp only [List.cons_append, firstByPriority, ih rest]
    exact if_pos lower

/-- It is the first of its priority, and the one marked. -/
theorem markSending_first (before : ∀ x ∈ pre, e.frame.priority.toNat < x.frame.priority.toNat) :
    markSending e.frame.priority (pre ++ e :: post) = pre ++ { e with sending := true } :: post := by
  induction pre with
  | nil => exact if_pos rfl
  | cons x pre ih =>
    obtain ⟨lower, rest⟩ := List.forall_mem_cons.mp before
    have other : x.frame.priority ≠ e.frame.priority := fun same => by simp [same] at lower
    rw [List.cons_append, markSending, if_neg other, ih rest, List.cons_append]

end Choice

/-- Settles O35. -/
theorem transmissionTakesTheFirstOfTheLowestPriority : Obligations.TransmissionTakesTheFirstOfTheLowestPriority := by
  constructor
  · intro s pre e post online idle entries before after
    have begins : s.mayBegin = true := s.mayBegin_iff.mpr ⟨online, .inl idle⟩
    change ∃ t, execTransmitBegin s = _ ∧ _
    simp only [execTransmitBegin, entries, firstByPriority_split before after, begins, if_true,
      markSending_first before, State.enterPhase_inPhase]
    exact ⟨_, rfl, rfl, rfl, rfl, rfl, rfl, rfl, rfl, rfl⟩
  · intro s none
    change execTransmitBegin s = _
    rcases none with empty | busy
    · simp only [execTransmitBegin, empty, firstByPriority]
    · have waits : s.mayBegin = false := by
        refine Bool.eq_false_iff.mpr fun begins => ?_
        obtain ⟨online, ready⟩ := s.mayBegin_iff.mp begins
        rcases busy with offline | ⟨notIdle, notAfter⟩
        · exact offline online
        · exact ready.elim notIdle notAfter
      simp only [execTransmitBegin, waits]
      split <;> rfl

/-! ## LINE_IDLE, START_MARK_RECEIVED and DESTINATION_FIELD_READ -/

section Reading

variable {s : State}

/-- The idle line after LINE_IDLE, R144. -/
def State.idled (s : State) : Line :=
  { s.inPhase .idle s.params.park with recessiveRun := s.runAtIdle, dominantRun := 0 }

theorem exec_lineIdle (online : s.line.state = .online)
    (ended : s.line.phase = .afterFrame ∨ s.line.phase = .stopped) :
    exec .lineIdle s = .next (s.onLine s.idled (if s.line.phase = .stopped then s.chance + 1 else s.chance)) := by
  change execLineIdle s = _
  rw [execLineIdle, if_pos ⟨online, ended⟩, State.enterPhase_inPhase]
  rfl

theorem State.runAtIdle_afterFrame (after : s.line.phase = .afterFrame) :
    s.runAtIdle = if 3 ≤ s.line.recessiveRun then s.line.recessiveRun + 3 else 3 :=
  if_neg (by simp [after])

theorem State.runAtIdle_stopped (stopped : s.line.phase = .stopped) : 3 ≤ s.runAtIdle ∧ s.runAtIdle ≤ 14 := by
  have drawn : s.runAtIdle = 3 + Config.freeRun s.chance % 12 := if_pos stopped
  have := Nat.mod_lt (Config.freeRun s.chance) (show 0 < 12 by decide)
  omega

theorem State.three_le_runAtIdle (ended : s.line.phase = .afterFrame ∨ s.line.phase = .stopped) : 3 ≤ s.runAtIdle := by
  rcases ended with after | stopped
  · rw [State.runAtIdle_afterFrame after]
    split <;> omega
  · exact (State.runAtIdle_stopped stopped).1

theorem exec_startMarkReceived (online : s.line.state = .online) (idle : s.line.phase = .idle) :
    exec .startMarkReceived s = .next (s.setLine { s.inPhase .receiving s.params.pass with
      recessiveRun := 0, dominantRun := 1 }) := by
  change execStartMarkReceived s = _
  rw [execStartMarkReceived, if_pos (s.mayBegin_iff.mpr ⟨online, .inl idle⟩), State.enterPhase_inPhase]
  rfl

/-- From the phase before it, the destination read enters the phase of its addressee. -/
theorem State.readDestination_receiving (receiving : s.line.phase = .receiving) (d : Nat) :
    s.readDestination d =
      s.setLine (s.inPhase (addressedPhase d) (if d = 254 then s.params.receive else s.params.pass)) := by
  have other : s.line.phase ≠ addressedPhase d := by
    unfold addressedPhase
    rw [receiving]
    split <;> simp
  rw [State.readDestination, if_neg other, State.enterPhase_inPhase, terminationFor_addressedPhase]
  rfl

theorem exec_destinationFieldRead (online : s.line.state = .online) (receiving : s.line.phase = .receiving) (d : Byte) :
    exec (.destinationFieldRead d) s = .next ((s.setLine (s.inPhase (addressedPhase d.toNat)
      (if d.toNat = 254 then s.params.receive else s.params.pass))).feedField (bitsOf d)) := by
  change execDestinationFieldRead d s = _
  rw [execDestinationFieldRead, if_pos ⟨online, receiving⟩, State.readDestination_receiving receiving]

/-- A field told is read after one of the runs that may stand before a field. -/
theorem State.feedField_runs {w : Nat} (field : BitVec w) (s : State) :
    ∃ p ∈ priorRuns, ((s.feedField (bitsOf field)).line.recessiveRun, (s.feedField (bitsOf field)).line.dominantRun) =
      runsOver p.1 p.2 (stuffFrom p.1 p.2 (bitsOf field)) := by
  have prior (b : Bool) {n : Nat} (low : 1 ≤ n) (high : n ≤ 6) : (b, n) ∈ priorRuns := by
    interval_cases n <;> cases b <;> decide
  obtain ⟨low, high⟩ := s.freeUpTo_bounds (most := 6) (by decide)
  refine ⟨(Config.freeLevel s.chance, s.freeUpTo 6), prior _ low high, ?_⟩
  rw [State.feedField_eq]
  cases Config.freeLevel s.chance <;> rfl

end Reading

theorem toNat_eq_directory_iff (d : Byte) : d.toNat = 254 ↔ d = 0xFE :=
  ⟨fun h => BitVec.eq_of_toNat_eq h, fun h => h ▸ rfl⟩

/-- Settles O39, by the row. -/
theorem linePhasesSetTheTermination : Obligations.LinePhasesSetTheTermination := by
  refine ⟨?idle, ?startMark, ?destination, ?runs⟩
  case idle =>
    intro s online ended
    refine ⟨_, exec_lineIdle online ended, rfl, rfl, State.three_le_runAtIdle ended, fun after => ?_, fun stopped => ?_,
      rfl, rfl, rfl, rfl, rfl, rfl⟩
    · exact ⟨State.runAtIdle_afterFrame after, if_neg (by simp [after])⟩
    · exact (State.runAtIdle_stopped stopped).2
  case startMark =>
    intro s online idle
    exact ⟨_, exec_startMarkReceived online idle, rfl, rfl, rfl, rfl, rfl, rfl, rfl, rfl, rfl⟩
  case destination =>
    intro s d online receiving
    rw [exec_destinationFieldRead online receiving]
    simp only [addressedPhase, Config.directoryAddress, toNat_eq_directory_iff]
    exact ⟨_, rfl, rfl, rfl, rfl, rfl, rfl, rfl, rfl⟩
  case runs =>
    intro s d online receiving
    exact ⟨_, exec_destinationFieldRead online receiving d, State.feedField_runs d _⟩

/-! ## Time while no command waits, R54, R93, R144 and R146 -/

section Time

variable {s : State}

theorem step_idle (empty : s.pending = []) : step s = .next s.tick := by simp only [step, empty]

/-- A run shown is of one level or the other, of a length drawn. -/
theorem State.showRun_bounds {n m : Nat} (recessive : 0 < n) (dominant : 0 < m) (s : State) :
    let l := (s.showRun (s.freeUpTo n) (s.freeUpTo m)).line
    (1 ≤ l.recessiveRun ∧ l.recessiveRun ≤ n ∧ l.dominantRun = 0)
      ∨ (l.recessiveRun = 0 ∧ 1 ≤ l.dominantRun ∧ l.dominantRun ≤ m) := by
  obtain ⟨lowN, highN⟩ := s.freeUpTo_bounds recessive
  obtain ⟨lowM, highM⟩ := s.freeUpTo_bounds dominant
  rcases s.showRun_runs (s.freeUpTo n) (s.freeUpTo m) with ⟨long, none⟩ | ⟨none, long⟩
  · exact .inl ⟨lowN.trans_eq long.symm, long.trans_le highN, none⟩
  · exact .inr ⟨none, lowM.trans_eq long.symm, long.trans_le highM⟩

theorem State.countBits_still (still : s.line.state = .disabled ∨ s.line.state = .fault) : s.countBits = s := by
  rcases still with h | h <;> simp only [State.countBits, h]

theorem State.countBits_settling (settling : s.line.state = .settling) :
    s.countBits = s.showRun (s.freeUpTo 23) (s.freeUpTo 47) := by
  simp only [State.countBits, settling]
  rfl

theorem State.countBits_idle (online : s.line.state = .online) (idle : s.line.phase = .idle) :
    s.countBits = { s with
      line := { s.line with recessiveRun := s.line.recessiveRun + s.bitsInTick, dominantRun := 0 },
      chance := s.chance + 1 } := by
  simp only [State.countBits, online, idle]

theorem State.countBits_receiving (online : s.line.state = .online)
    (receiving : s.line.phase = .receiving ∨ s.line.phase = .receivingDirectory ∨ s.line.phase = .receivingOther) :
    s.countBits = s.showRun (s.freeUpTo 7) (s.freeUpTo 7) := by
  rcases receiving with h | h | h <;> simp only [State.countBits, online, h] <;> rfl

theorem State.countBits_afterFrame (online : s.line.state = .online) (after : s.line.phase = .afterFrame) :
    s.countBits = s.showRun (s.freeUpTo 2) (s.freeUpTo 47) := by
  simp only [State.countBits, online, after]
  rfl

theorem State.countBits_stopped (online : s.line.state = .online) (stopped : s.line.phase = .stopped) :
    s.countBits = s.showRun (s.freeUpTo 13) (s.freeUpTo 47) := by
  simp only [State.countBits, online, stopped]
  rfl

/-- The bits of a frame in transmission sent so far. -/
theorem State.countBits_transmitting {e : TxEntry} (online : s.line.state = .online)
    (transmitting : s.line.phase = .transmitting) (one : s.sendingEntry = some e) :
    s.countBits = s.runsDrawn ((e.frame.checkedBits e.check).take (s.freeUpTo (e.frame.checkedBits e.check).length)) := by
  have one' : s.queue.entries.find? (fun e => e.sending) = some e := one
  simp only [State.countBits, online, transmitting, one']

/-- A frame sends its start mark at least. -/
theorem Frame.checkedBits_pos (f : Frame) (check : Half) : 0 < (f.checkedBits check).length :=
  (Nat.succ_pos _).trans_le (length_le_stuffFrom (false :: (f.fieldBits ++ bitsOf check)) true 0)

end Time

/-- Settles O2: what 5 ms change, and the bit times of the line in its state and phase. -/
theorem emptyQueueLetsFiveMillisecondsPass : Obligations.EmptyQueueLetsFiveMillisecondsPass := by
  refine ⟨?frame, ?still, ?settling, ?idle, ?receiving, ?afterFrame, ?stopped, ?transmitting⟩
  case frame =>
    intro s empty
    refine ⟨_, step_idle empty, ?_⟩
    rw [State.tick, State.countBits_frame]
    exact ⟨rfl, rfl, rfl, rfl, rfl, rfl, rfl⟩
  case still =>
    intro s empty still
    refine ⟨_, step_idle empty, ?_⟩
    rw [State.tick_line, State.tick_chance, State.countBits_still still]
    exact ⟨rfl, rfl⟩
  case settling =>
    intro s empty settling
    refine ⟨_, step_idle empty, ?_⟩
    rw [State.tick_line, State.countBits_settling settling]
    exact s.showRun_bounds (by decide) (by decide)
  case idle =>
    intro s empty online idle rate
    obtain ⟨low, high⟩ := State.bitsInTick_bounds rate
    refine ⟨_, step_idle empty, ?_⟩
    rw [State.tick_line, State.countBits_idle online idle]
    exact ⟨rfl, Nat.add_le_add_left low _, Nat.add_le_add_left high _⟩
  case receiving =>
    intro s empty online receiving
    refine ⟨_, step_idle empty, ?_⟩
    rw [State.tick_line, State.countBits_receiving online receiving]
    exact s.showRun_bounds (by decide) (by decide)
  case afterFrame =>
    intro s empty online after
    refine ⟨_, step_idle empty, ?_⟩
    rw [State.tick_line, State.countBits_afterFrame online after]
    exact s.showRun_bounds (by decide) (by decide)
  case stopped =>
    intro s empty online stopped
    refine ⟨_, step_idle empty, ?_⟩
    rw [State.tick_line, State.countBits_stopped online stopped]
    exact s.showRun_bounds (by decide) (by decide)
  case transmitting =>
    intro s pre e post empty online transmitting entries sending alone
    obtain ⟨low, high⟩ := s.freeUpTo_bounds (Frame.checkedBits_pos e.frame e.check)
    refine ⟨_, step_idle empty, s.freeUpTo (e.frame.checkedBits e.check).length - 1,
      List.mem_range.mpr (by omega), ?_⟩
    rw [State.tick_line,
      State.countBits_transmitting online transmitting (State.sendingEntry_eq entries sending alone),
      Nat.sub_add_cancel low]
    rfl

end Sys2Proof.Machine
end

section
/-! Frames that no record hears of: a reception that ends early, a failed check, a foreign directory's frame (R147, R154),
and the statement of the family "The Node Bus Line" about them. -/

namespace Sys2Proof.Machine

section Reception

variable {s : State}

/-! ## A reception that ends early, R147 -/

/-- The line after an early end, with the termination setting kept or taken before it. -/
def State.endedEarly (setting : Termination) (s : State) : Line :=
  { s.inPhase .stopped setting with acknowledged := false }

/-- A phase left for one that keeps the termination leaves its own setting in force. -/
theorem State.inPhase_again (ph next : LinePhase) (setting : Termination) (s : State) :
    (s.setLine (s.inPhase ph setting)).inPhase next (s.inPhase ph setting).termination = s.inPhase next setting := by
  have kept (edge : Bool) (free set : Termination) :
      (if edge = false then free else if edge = false then free else set) = if edge = false then free else set := by
    cases edge <;> rfl
  exact congrArg (fun t => { s.line with phase := next, termination := t }) (kept s.line.segmentEnd .openCircuit setting)

/-- A frame whose start mark was not seen begins at its early end, and keeps Pass. -/
theorem State.stopReception_eq (receives : s.Receives) : s.stopReception = s.setLine (s.endedEarly
    (if s.line.phase = .idle ∨ s.line.phase = .afterFrame then s.params.pass else s.line.termination)) := by
  obtain ⟨online, -, -⟩ := receives
  by_cases idle : s.line.phase = .idle ∨ s.line.phase = .afterFrame
  · have begins : s.mayBegin = true := s.mayBegin_iff.mpr ⟨online, idle⟩
    rw [if_pos idle, State.stopReception, if_pos begins, State.enterPhase_inPhase, State.enterPhase_inPhase]
    exact congrArg (fun l : Line => s.setLine { l with acknowledged := false })
      (s.inPhase_again .receiving .stopped s.params.pass)
  · have under : ¬ s.mayBegin = true := fun begins => idle (s.mayBegin_iff.mp begins).2
    rw [if_neg idle, State.stopReception, if_neg under, State.enterPhase_inPhase]
    rfl

theorem exec_frameInvalid (v : InvalidReception) (s : State) : exec (.frameInvalid v) s = .next (s.receiveInvalid v) :=
  rfl

theorem State.receiveInvalid_deaf (deaf : ¬ s.Receives) (v : InvalidReception) : s.receiveInvalid v = s := by
  have h : s.canReceive = false := Bool.eq_false_iff.mpr fun h => deaf (State.canReceive_iff.mp h)
  simp [State.receiveInvalid, h]

theorem State.receiveInvalid_stuffError (receives : s.Receives) (level : Bool) :
    s.receiveInvalid (.stuffError level) = s.stopReception.setLine { s.stopReception.line with
      recessiveRun := if level then 8 else 0, dominantRun := if level then 0 else 8 } := by
  rw [State.receiveInvalid, State.canReceive_iff.mpr receives]
  rfl

theorem State.receiveInvalid_badLength (receives : s.Receives) {n : BitVec 5} (long : 25 ≤ n.toNat) :
    s.receiveInvalid (.badLength n) = s.stopReception.feedField (bitsOf n) := by
  rw [State.receiveInvalid, State.canReceive_iff.mpr receives]
  exact if_pos long

/-- A length of at most 24 is no invalid reception. -/
theorem State.receiveInvalid_goodLength {n : BitVec 5} (short : n.toNat ≤ 24) : s.receiveInvalid (.badLength n) = s := by
  unfold State.receiveInvalid
  split
  · rfl
  · exact if_neg (Nat.not_lt.mpr short)

/-- The line keeps what an early end gives it whatever its bits leave of runs. -/
theorem State.feedField_frame {w : Nat} (field : BitVec w) (s : State) : s.feedField (bitsOf field) =
    s.onLine { s.line with recessiveRun := (s.feedField (bitsOf field)).line.recessiveRun,
                           dominantRun := (s.feedField (bitsOf field)).line.dominantRun } (s.chance + 1) := rfl

/-- An early end changes the runs, and the phase and termination as given. -/
theorem State.receiveInvalid_endsEarly (receives : s.Receives) {v : InvalidReception} (early : endsEarly v = true) :
    ∃ r d c, s.receiveInvalid v = s.onLine { s.endedEarly (if s.line.phase = .idle ∨ s.line.phase = .afterFrame
      then s.params.pass else s.line.termination) with recessiveRun := r, dominantRun := d } c := by
  cases v with
  | stuffError level =>
    rw [State.receiveInvalid_stuffError receives, State.stopReception_eq receives]
    exact ⟨_, _, _, rfl⟩
  | badLength n =>
    rw [State.receiveInvalid_badLength receives (of_decide_eq_true early), State.feedField_frame,
      State.stopReception_eq receives]
    exact ⟨_, _, _, rfl⟩
  | badCheck f k => exact absurd early Bool.false_ne_true

/-! ## A frame told whole -/

/-- A check that is correct, or one never read, leaves the frame as it is heard. -/
theorem State.receiveInvalid_heard {f : Frame} {k : Half} (heard : k = f.check ∨ 25 ≤ f.payload.length) :
    s.receiveInvalid (.badCheck f k) = s.receiveFrame f := by
  by_cases receives : s.Receives
  · rw [State.receiveInvalid, State.canReceive_iff.mpr receives]
    by_cases correct : k = f.check
    · exact if_pos correct
    · have long : Config.maxPayload < f.payload.length := heard.resolve_left correct
      rw [State.receiveFrame, State.canReceive_iff.mpr receives]
      exact (if_neg correct).trans ((if_pos long).trans (if_pos long).symm)
  · rw [State.receiveInvalid_deaf receives, State.receiveFrame_deaf receives]

/-- A failed check discards the frame at its end. -/
theorem State.receiveInvalid_badCheck (receives : s.Receives) {f : Frame} {k : Half} (short : f.payload.length ≤ 24)
    (wrong : k ≠ f.check) :
    s.receiveInvalid (.badCheck f k) = ((s.passFrame f).setAcknowledged false).endFrame f k := by
  rw [State.receiveInvalid, State.canReceive_iff.mpr receives]
  exact (if_neg wrong).trans (if_neg (Nat.not_lt.mpr short))

/-- The end of a frame not acknowledged, whatever check it came with. -/
theorem State.endFrame_discarded (undriven : s.line.acknowledged = false) (f : Frame) (k : Half) :
    ∃ b : Bool, s.endFrame f k = s.onLine { s.line with
      recessiveRun := (runsOver true 0 (f.checkedBits k ++ [b, true, true, true])).1,
      dominantRun := (runsOver true 0 (f.checkedBits k ++ [b, true, true, true])).2 } (s.chance + 1) := by
  refine ⟨Config.freeLevel s.chance, ?_⟩
  rw [State.endFrame, undriven]
  rfl

/-- The frame of another directory is noticed and passed over, R154. -/
theorem State.receiveFrame_foreign (receives : s.Receives) {f : Frame} (short : f.payload.length ≤ 24)
    (foreign : f.source.toNat = 254) :
    s.receiveFrame f = ((s.passFrame f).noticeForeign.setAcknowledged false).endFrame f f.check := by
  rw [State.receiveFrame, State.canReceive_iff.mpr receives, State.takeFrame,
    if_pos (show f.source.toNat = Config.directoryAddress from foreign)]
  exact if_neg (Nat.not_lt.mpr short)

/-- A line on which a foreign directory has been noticed goes on as before. -/
theorem State.LineAfter.foreign {d : Nat} {driven : Bool} {l : Line} (after : s.LineAfter d driven l) :
    State.LineAfter { s with line := { s.line with foreign := true } } d driven { l with foreign := true } := by
  obtain ⟨state, rate, edge, -, phase, acknowledged, termination⟩ := after
  exact ⟨state, rate, edge, rfl, phase, acknowledged, termination⟩

/-- A frame of more than 24 payload bytes ends at its length field, its destination read. -/
theorem State.receiveFrame_long (receives : s.Receives) {f : Frame} (long : 25 ≤ f.payload.length) :
    s.receiveFrame f = s.stopAtLength f := by
  rw [State.receiveFrame, State.canReceive_iff.mpr receives]
  exact if_pos long

theorem State.stopAtLength_eq (f : Frame) (s : State) : s.stopAtLength f = s.setLine { s.endedEarly
    (if s.line.phase = addressedPhase f.destination.toNat then s.line.termination
      else if f.destination = 0xFE then s.params.receive else s.params.pass) with
    recessiveRun := (runsOver true 0 f.cutBits).1, dominantRun := (runsOver true 0 f.cutBits).2 } := by
  unfold State.stopAtLength State.readDestination
  by_cases read : s.line.phase = addressedPhase f.destination.toNat
  · rw [if_pos read, if_pos read, State.enterPhase_inPhase]
    rfl
  · simp only [← toNat_eq_directory_iff]
    rw [if_neg read, if_neg read, State.enterPhase_inPhase, State.enterPhase_inPhase, terminationFor_addressedPhase]
    exact congrArg (fun l : Line => ((s.setLine l).runsOf f.cutBits).setAcknowledged false)
      (s.inPhase_again (addressedPhase f.destination.toNat) .stopped _)

end Reception

/-- Settles O34, by the row and by how much of the frame is read. -/
theorem invalidAndForeignFramesReachNoRecord : Obligations.InvalidAndForeignFramesReachNoRecord := by
  refine ⟨?early, ?stuffError, ?badLength, ?badCheck, ?foreign, ?long, ?heard, fun _ _ _ _ _ => rfl, ?deaf, ?goodLength⟩
  case early =>
    intro s v receives early
    obtain ⟨r, d, c, ended⟩ := State.receiveInvalid_endsEarly receives early
    rw [exec_frameInvalid, ended]
    exact ⟨_, rfl, rfl, rfl, rfl, rfl, rfl, rfl, rfl, rfl⟩
  case stuffError =>
    intro s l receives
    rw [exec_frameInvalid, State.receiveInvalid_stuffError receives, State.stopReception_frame]
    exact ⟨_, rfl, rfl, rfl, rfl⟩
  case badLength =>
    intro s n receives long
    rw [exec_frameInvalid, State.receiveInvalid_badLength receives long]
    exact ⟨_, rfl, State.feedField_runs n _⟩
  case badCheck =>
    intro s f k receives short wrong
    obtain ⟨b, ended⟩ := State.endFrame_discarded (s := (s.passFrame f).setAcknowledged false) rfl f k
    rw [exec_frameInvalid, State.receiveInvalid_badCheck receives short wrong, ended, State.passFrame_frame]
    exact ⟨_, rfl, rfl, s.lineAfter_passFrame f false (runsOver true 0 (f.checkedBits k ++ [b, true, true, true])), b,
      rfl⟩
  case foreign =>
    intro s p d kind payload receives short
    let f : Frame := { priority := p, source := 0xFE, identity := 0, destination := d, kind := kind, payload := payload }
    obtain ⟨b, ended⟩ := State.endFrame_discarded (s := (s.passFrame f).noticeForeign.setAcknowledged false) rfl f f.check
    have after := (s.lineAfter_passFrame f false (runsOver true 0 (f.lineBits ++ [b, true, true, true]))).foreign
    change ∃ t, exec (.frameHeard f) s = _ ∧ _
    rw [exec_frameHeard, State.receiveFrame_foreign receives (f := f) short rfl, ended, State.passFrame_frame]
    exact ⟨_, rfl, after, rfl, b, rfl⟩
  case long =>
    intro s f receives long
    rw [exec_frameHeard, State.receiveFrame_long receives long, State.stopAtLength_eq]
    exact ⟨_, rfl, rfl, rfl, rfl, rfl, rfl, rfl, rfl, rfl, rfl⟩
  case heard => exact fun s f k heard => congrArg Host.Outcome.next (State.receiveInvalid_heard heard)
  case deaf =>
    intro s v deaf
    refine congrArg Host.Outcome.next (State.receiveInvalid_deaf ?_ v)
    rintro ⟨online, notSending, notStopped⟩
    rcases deaf with h | h | h
    exacts [h online, notSending h, notStopped h]
  case goodLength => exact fun s n short => congrArg Host.Outcome.next (State.receiveInvalid_goodLength short)

end Sys2Proof.Machine
end

section
/-! The requests of the stations: that taking one draws no free value, their frames and their admission (R148), and the
statement of the family "The Node Bus Line" about them. -/

namespace Sys2Proof.Machine

/-! ## No request draws a free value

The values that nothing tells are drawn by the line's rows and by what the host reads; an owner decides on its tables. -/

theorem State.outward_chance {s t : State} (same : t.outward = s.outward) : t.chance = s.chance :=
  congrArg (fun w => w.2.2.2.2.2) same

theorem State.claimOrDrop_chance (o : Originator) (f : Frame) (s : State) : (s.claimOrDrop o f).chance = s.chance := by
  rw [State.claimOrDrop_eq]

theorem State.raiseDispute_chance (r : Record) (rival : Option Identity) (s : State) :
    (s.raiseDispute r rival).chance = s.chance := by
  unfold State.raiseDispute
  split
  · rfl
  · rw [State.revokeDisputed_fields]
    rfl

theorem State.fillRival_chance (r : Record) (i : Identity) (s : State) : (s.fillRival r i).chance = s.chance :=
  State.outward_chance (State.fillRival_outward r i s)

theorem State.takeEvidence_chance (r : Record) (i : Identity) (s : State) : (s.takeEvidence r i).chance = s.chance := by
  unfold State.takeEvidence
  split
  · exact State.fillRival_chance ..
  · split
    · rfl
    · exact State.raiseDispute_chance ..

theorem State.heard_chance (f : Frame) (s : State) : (s.heard f).chance = s.chance := by
  have stray (a : Nat) : (s.handleStray a).chance = s.chance := by
    unfold State.handleStray
    split <;> rfl
  unfold State.heard State.heardFrom
  split
  · split
    · exact stray _
    · dsimp only
      split
      case h_1 => exact stray _
      case h_5 => split <;> rfl
      all_goals rfl
  · rfl

theorem State.joinKnown_chance (r : Record) (requested : Nat) (s : State) :
    (s.joinKnown r requested).chance = s.chance := by
  have offers (o : Origin) : (if s.countIn .offered < Config.maxOffered then s.offerAgain o r requested
      else s.refuseJoin r.identity .busy).chance = s.chance := by
    split <;> rfl
  have resent : (s.resendOffer r).chance = s.chance := by
    unfold State.resendOffer
    split <;> rfl
  unfold State.joinKnown
  cases r.state with
  | reserved | bound | lapsed => exact offers _
  | offered => exact resent
  | disputed => rfl

theorem State.takeJoin_chance (i : Identity) (hint requested : Nat) (s : State) :
    (s.takeJoin i hint requested).chance = s.chance := by
  unfold State.takeJoin
  split
  · rfl
  split
  · rfl
  split
  · exact State.joinKnown_chance ..
  split
  · rfl
  split
  · rfl
  · split <;> rfl

theorem State.takeAccept_chance (a : Nat) (i : Identity) (s : State) : (s.takeAccept a i).chance = s.chance := by
  unfold State.takeAccept
  split
  · split
    · split
      · exact State.outward_chance (State.resolveRival_outward i _)
      · exact State.claimOrDrop_chance ..
    · exact State.claimOrDrop_chance ..
  · exact State.claimOrDrop_chance ..

theorem State.takeRenew_chance (a : Nat) (i : Identity) (requested : Nat) (s : State) :
    (s.takeRenew a i requested).chance = s.chance := by
  have evidence (r : Record) (f : Frame) : ((s.takeEvidence r i).queueReply .reply f).chance = s.chance :=
    State.takeEvidence_chance r i s
  have granted (r : Record) (f : Frame) : ((s.grantRenew r requested).queueReply .reply f).chance = s.chance :=
    (State.outward_chance (State.grantRenew_outward r requested s)).trans rfl
  unfold State.takeRenew
  split
  · rfl
  · next r _ =>
    cases r.state with
    | reserved | offered => rfl
    | disputed => exact evidence ..
    | bound | lapsed =>
      dsimp only
      split
      · exact granted ..
      · exact evidence ..

theorem State.takeLeave_chance (a : Nat) (i : Identity) (s : State) : (s.takeLeave a i).chance = s.chance := by
  have retired (r : Record) : (if r.identity = i then s.retire r else s).chance = s.chance := by
    split
    · exact State.outward_chance (State.endRecord_outward .quarantineTail r s)
    · rfl
  unfold State.takeLeave
  split
  · rfl
  · next r _ =>
    cases r.state with
    | bound | lapsed | disputed => exact retired r
    | reserved | offered => rfl

theorem State.takeClashReport_chance (a : Nat) (i : Identity) (s : State) :
    (s.takeClashReport a i).chance = s.chance := by
  unfold State.takeClashReport
  split
  · rfl
  · next r _ =>
    cases r.state with
    | bound | lapsed => exact State.raiseDispute_chance ..
    | disputed => exact State.fillRival_chance ..
    | reserved | offered => rfl

theorem State.applyOutcome_chance (c : ProbeContext) (o : ProbeOutcome) (r : Record) (s : State) :
    (s.applyOutcome c o r).chance = s.chance := by
  unfold State.applyOutcome
  split
  · split
    · rfl
    · exact State.raiseDispute_chance ..
  · exact State.outward_chance (State.failLapseProbe_outward ..)
  · split
    · rfl
    · exact State.raiseDispute_chance ..
  · exact State.outward_chance (State.lapseRecord_outward ..)

theorem State.takeProbeReply_chance (a : Nat) (i : Identity) (s : State) :
    (s.takeProbeReply a i).chance = s.chance := by
  have ended : (s.endAttempt (.reply i)).chance = s.chance := by
    unfold State.endAttempt
    split
    · rfl
    · next c _ =>
      split
      · exact State.applyOutcome_chance c _ _ s.emptyContext
      · exact (State.outward_chance (State.placeDiscarded_outward c s.emptyContext)).trans rfl
  unfold State.takeProbeReply
  split
  · split
    · exact ended
    · rfl
  · rfl

theorem State.answerGranted_chance (a term : Nat) (groups : List Nat) (s : State) :
    (s.answerGranted a term groups).chance = s.chance :=
  (State.outward_chance (State.addClaimGroups_outward a groups s)).trans rfl

theorem State.claimAgainst_chance (r : Record) (i : Identity) (term : Nat) (groups : List Nat) (s : State) :
    (s.claimAgainst r i term groups).chance = s.chance := by
  have supplanted : ((s.endRecord .passedOn r).createRecord (claimedRecord r.address i term)).chance = s.chance :=
    State.outward_chance (State.endRecord_outward .passedOn r s)
  unfold State.claimAgainst
  cases r.state with
  | bound | lapsed | reserved => exact State.raiseDispute_chance ..
  | disputed => exact State.fillRival_chance ..
  | offered =>
    dsimp only
    split
    · exact State.raiseDispute_chance ..
    · exact (State.answerGranted_chance ..).trans supplanted

theorem State.takeClaim_chance (a : Nat) (i : Identity) (requested : Nat) (groups : List Nat) (s : State) :
    (s.takeClaim a i requested groups).chance = s.chance := by
  have granted (r : Record) (term : Nat) : (s.grantClaim r term).chance = s.chance :=
    State.outward_chance (State.grantClaim_outward r term s)
  unfold State.takeClaim State.decideClaim
  dsimp only
  split
  · split
    · rfl
    split
    · split
      · rfl
      · exact State.answerGranted_chance ..
    · split
      · split
        · rfl
        · exact (State.answerGranted_chance ..).trans (granted ..)
      · exact State.claimAgainst_chance ..
  · rfl

theorem State.takeGroupJoin_chance (a g : Nat) (s : State) : (s.takeGroupJoin a g).chance = s.chance := by
  have answered (o : GroupOutcome) (u : State) : (u.answerGroup a g o).chance = u.chance := rfl
  have joined : (s.addMember g a).chance = s.chance := rfl
  simp only [State.takeGroupJoin, apply_ite State.chance, answered, joined, ite_self]

theorem State.handOver_chance (k : RequestKind) (f : Frame) (s : State) : (s.handOver k f).chance = s.chance := by
  cases k with
  | join => exact State.takeJoin_chance ..
  | accept => exact State.takeAccept_chance ..
  | renew => exact State.takeRenew_chance ..
  | leave => exact State.takeLeave_chance ..
  | claim => exact State.takeClaim_chance ..
  | probeReply => exact State.takeProbeReply_chance ..
  | clashReport => exact State.takeClashReport_chance ..
  | groupJoin => exact State.takeGroupJoin_chance ..
  | groupLeave =>
    simp only [State.handOver, State.takeGroupLeave]
    split <;> rfl
  | groupExpand =>
    simp only [State.handOver, State.takeGroupExpand]
    split <;> rfl
  | resolveIdentity =>
    simp only [State.handOver, State.takeResolveIdentity]
    split <;> rfl
  | resolveAddress =>
    simp only [State.handOver, State.takeResolveAddress]
    split <;> rfl

theorem State.deliver_chance (k : RequestKind) (f : Frame) (s : State) : (s.deliver k f).chance = s.chance := by
  have passed : (s.passFrame f).chance = s.chance := by rw [State.passFrame_frame]
  rw [State.deliver, State.heard_chance]
  split
  · exact passed
  · exact passed

/-! ## The five checks of admission, R148 -/

theorem validIdentity_iff (i : Identity) : validIdentity i = true ↔ i ≠ 0 ∧ i ≠ BitVec.allOnes 48 := by
  simp [validIdentity, ← BitVec.toNat_inj]

section Checks

variable {f : Frame} {k : RequestKind}

theorem Frame.lengthFits_iff : f.lengthFits k = true ↔ k.lengthPasses f := by
  cases k with
  | claim =>
    rw [Frame.lengthFits, Bool.and_eq_true, decide_eq_true_iff, beq_iff_eq, and_comm]
    rfl
  | join | accept | renew | leave | probeReply | clashReport | groupJoin | groupLeave | groupExpand | resolveIdentity
  | resolveAddress => exact beq_iff_eq

theorem Frame.sourceFits_iff : f.sourceFits k = true ↔ k.sourcePasses f := by
  have leased : leasable f.source.toNat = true ↔ 1 ≤ f.source.toNat ∧ f.source.toNat ≤ 239 := by
    rw [leasable, Bool.and_eq_true, decide_eq_true_iff, decide_eq_true_iff]
    rfl
  have station : (leasable f.source.toNat || fixedAddress f.source.toNat) = true
      ↔ 1 ≤ f.source.toNat ∧ f.source.toNat ≤ 253 := by
    simp only [Bool.or_eq_true, leased, fixedAddress, Bool.and_eq_true, decide_eq_true_eq]
    omega
  cases k with
  | join => exact beq_iff_eq
  | resolveIdentity | resolveAddress | groupExpand => exact station
  | accept | renew | leave | claim | probeReply | clashReport | groupJoin | groupLeave => exact leased

theorem Frame.identityFits_iff : f.identityFits k = true ↔ k.identityPasses f := by
  cases k with
  | join => exact validIdentity_iff f.identity
  | groupJoin | groupLeave | groupExpand | resolveAddress => exact iff_of_true rfl trivial
  | accept | renew | leave | claim | probeReply | clashReport | resolveIdentity => exact validIdentity_iff _

/-- A code names the kind it is the code of. -/
theorem requestKindOf_iff {c : BitVec 6} : requestKindOf c = some k ↔ c = k.code := by
  have named : ∀ c : BitVec 6, (requestKindOf c).all (fun k => decide (c = k.code)) = true := by decide
  constructor
  · intro kind
    have code := named c
    rw [kind] at code
    exact of_decide_eq_true code
  · rintro rfl
    exact requestKindOf_code k

theorem State.admission_iff {s : State} : s.admission f = some k ↔ f.destination.toNat = 254 ∧ f.kind = k.code
    ∧ k.lengthPasses f ∧ k.sourcePasses f ∧ k.identityPasses f ∧ (k.needsReply = true → s.HasReplyRoom) := by
  have room : (!k.needsReply || s.replyRoom) = true ↔ (k.needsReply = true → s.HasReplyRoom) := by
    rw [← State.replyRoom_iff]
    cases k.needsReply <;> simp
  have checks : (f.lengthFits k && f.sourceFits k && f.identityFits k && (!k.needsReply || s.replyRoom)) = true
      ↔ k.lengthPasses f ∧ k.sourcePasses f ∧ k.identityPasses f ∧ (k.needsReply = true → s.HasReplyRoom) := by
    rw [Bool.and_eq_true, Bool.and_eq_true, Bool.and_eq_true, Frame.lengthFits_iff, Frame.sourceFits_iff,
      Frame.identityFits_iff, room, and_assoc, and_assoc]
  rw [← checks, ← requestKindOf_iff]
  unfold State.admission
  constructor
  · intro admitted
    split at admitted
    · next directory =>
      split at admitted
      · next j kind =>
        split at admitted
        · next fits =>
          obtain rfl := Option.some.inj admitted
          exact ⟨directory, kind, fits⟩
        · cases admitted
      · cases admitted
    · cases admitted
  · rintro ⟨directory, kind, fits⟩
    rw [if_pos (show f.destination.toNat = Config.directoryAddress from directory), kind]
    exact if_pos fits

/-- A length that a kind requires is no bad length. -/
theorem RequestKind.lengthPasses.short (length : k.lengthPasses f) : f.payload.length ≤ 24 := by
  cases k with
  | claim =>
    obtain ⟨listed, few⟩ := length
    omega
  | join | accept | renew | leave | probeReply | clashReport | groupJoin | groupLeave | groupExpand | resolveIdentity
  | resolveAddress => exact length.trans_le (by decide)

/-- The end of an acknowledged frame: its slot is dominant. -/
theorem State.endFrame_driven {s : State} (driven : s.line.acknowledged = true) (f : Frame) :
    s.endFrame f f.check = s.onLine { s.line with
      recessiveRun := (runsOver true 0 (f.lineBits ++ [false, true, true, true])).1,
      dominantRun := (runsOver true 0 (f.lineBits ++ [false, true, true, true])).2 } s.chance := by
  rw [State.endFrame, if_pos driven]
  rfl

end Checks

/-- A CLAIM's groups follow their count. -/
theorem claimPayload_eq (i : Identity) (term : Half) (gs : List Byte) :
    claimPayload i term gs = bytesOfIdentity i ++ bytesOfHalf term.toNat ++ [byteOf gs.length] ++ gs := by
  simp [claimPayload]

/-- Settles O33. -/
theorem requestsAreTheirFramesAdmittedByTheirChecks : Obligations.RequestsAreTheirFramesAdmittedByTheirChecks := by
  refine ⟨fun s p a i hint term b gs => ?frames, fun s f k => State.admission_iff, ?acknowledged⟩
  case frames =>
    rw [← claimPayload_eq]
    exact ⟨rfl, rfl, rfl, rfl, rfl, rfl, rfl, rfl, rfl, rfl, rfl, rfl⟩
  case acknowledged =>
    intro s f k receives source admitted
    obtain ⟨-, -, length, -, -, -⟩ := State.admission_iff.mp admitted
    rw [exec_frameHeard, State.receiveFrame_taken receives length.short source admitted,
      State.endFrame_driven (s := State.setAcknowledged true _) rfl]
    exact ⟨_, rfl, rfl, (State.handOver_chance ..).trans (State.deliver_chance ..), rfl⟩

end Sys2Proof.Machine
end

section
/-! Which reports a command and the Prober still await (R91, R150, R159, R161): what the shared operations and the
requests of the stations leave of them. -/

namespace Sys2Proof.Machine

/-! ## The reports awaited -/

/-- How many of the entries report to an originator. -/
def reportCount (o : Originator) (es : List TxEntry) : Nat := (es.filter (fun e => e.originator == o)).length

theorem State.awaited_eq (s : State) :
    s.awaited = reportCount (.command true) s.queue.entries + if s.queue.waiting.isSome then 1 else 0 := rfl

theorem State.probeAwaits_iff {s : State} :
    s.ProbeAwaits ↔ reportCount (.prober true) s.queue.entries = if s.probeQueued then 1 else 0 := Iff.rfl

theorem reportCount_append (o : Originator) (es fs : List TxEntry) :
    reportCount o (es ++ fs) = reportCount o es + reportCount o fs := by
  simp [reportCount]

theorem reportCount_cons (o : Originator) (e : TxEntry) (es : List TxEntry) :
    reportCount o (e :: es) = (if e.originator = o then 1 else 0) + reportCount o es := by
  by_cases own : e.originator = o
  · simp [reportCount, own, Nat.add_comm]
  · simp [reportCount, own]

/-- Entries written again under the same originators. -/
theorem reportCount_map {g : TxEntry → TxEntry} (same : ∀ e, (g e).originator = e.originator) (o : Originator)
    (es : List TxEntry) : reportCount o (es.map g) = reportCount o es := by
  simp only [reportCount, List.filter_map, Function.comp_def, same, List.length_map]

theorem detachProbe_reports (e : TxEntry) : ((detachProbe e).originator = .prober true ↔ False)
    ∧ ((detachProbe e).originator = .command true ↔ e.originator = .command true) := by
  unfold detachProbe
  split
  · next live => simp [live]
  · next other => exact ⟨⟨fun live => other true live, False.elim⟩, .rfl⟩

theorem detachCommand_reports (e : TxEntry) : ((detachCommand e).originator = .command true ↔ False)
    ∧ ((detachCommand e).originator = .prober true ↔ e.originator = .prober true) := by
  unfold detachCommand
  split
  · next live => simp [live]
  · next other => exact ⟨⟨fun live => other true live, False.elim⟩, .rfl⟩

/-- The Prober's reports act no more, and those of a command as before (R91). -/
theorem reportCount_detachProbe (es : List TxEntry) : reportCount (.prober true) (es.map detachProbe) = 0
    ∧ reportCount (.command true) (es.map detachProbe) = reportCount (.command true) es := by
  induction es with
  | nil => exact ⟨rfl, rfl⟩
  | cons e es ih =>
    obtain ⟨none, same⟩ := ih
    obtain ⟨off, on⟩ := detachProbe_reports e
    simp only [List.map_cons, reportCount_cons, off, on, none, same, if_false, and_self]

/-- A command's reports act no more, and those of the Prober as before (R171). -/
theorem reportCount_detachCommand (es : List TxEntry) : reportCount (.command true) (es.map detachCommand) = 0
    ∧ reportCount (.prober true) (es.map detachCommand) = reportCount (.prober true) es := by
  induction es with
  | nil => exact ⟨rfl, rfl⟩
  | cons e es ih =>
    obtain ⟨none, same⟩ := ih
    obtain ⟨off, on⟩ := detachCommand_reports e
    simp only [List.map_cons, reportCount_cons, off, on, none, same, if_false, and_self]

/-! ## What leaves them as they are -/

/-- The originators whose reports an operation in progress awaits. -/
def Originator.live : Originator → Bool
  | .command l | .prober l => l
  | .joinUnit | .reply | .stray | .dispute | .censusUnit => false

/-- The reports awaited and the waiting claim are the same, and no place of the queue has become free. -/
structure State.SameReports (s t : State) : Prop where
  reports : ∀ o : Originator, o.live = true → reportCount o t.queue.entries = reportCount o s.queue.entries
  waiting : t.queue.waiting = s.queue.waiting
  places : s.queue.entries.length + s.queue.setAside ≤ t.queue.entries.length + t.queue.setAside
  sending : t.sendingCount = s.sendingCount

/-- How the port stands with its command, R159: its state, the code read back, and COLLIDE. -/
def Port.standing (p : Port) : PortState × Byte × Bool := (p.state, p.code, p.collide)

/-- The same with the command of the port where it stood. -/
structure State.Retains (s t : State) : Prop extends s.SameReports t where
  port : t.port.standing = s.port.standing

/-- The same with that command ended. -/
structure State.Finishes (s t : State) : Prop extends s.SameReports t where
  port : t.port.state ≠ .busy
  code : t.port.code = s.port.code
  collide : t.port.collide = s.port.collide

theorem State.SameReports.refl (s : State) : s.SameReports s := ⟨fun _ _ => rfl, rfl, Nat.le_refl _, rfl⟩

theorem State.SameReports.trans {s t u : State} (h : s.SameReports t) (g : t.SameReports u) : s.SameReports u :=
  ⟨fun o live => (g.reports o live).trans (h.reports o live), g.waiting.trans h.waiting, h.places.trans g.places,
    g.sending.trans h.sending⟩

/-- They are read from the queue alone. -/
theorem State.SameReports.of_queue {s t : State} (queue : t.queue = s.queue) : s.SameReports t :=
  ⟨fun _ _ => by rw [queue], by rw [queue], by rw [queue], by rw [State.sendingCount, queue]; rfl⟩

theorem State.Retains.state {s t : State} (h : s.Retains t) : t.port.state = s.port.state := congrArg (·.1) h.port

theorem State.Retains.refl (s : State) : s.Retains s := ⟨.refl s, rfl⟩

theorem State.Retains.trans {s t u : State} (h : s.Retains t) (g : t.Retains u) : s.Retains u :=
  ⟨h.toSameReports.trans g.toSameReports, g.port.trans h.port⟩

section Operations

variable {s t : State}

/-! ## One block written -/

theorem State.Retains.beside {u : State} (h : s.Retains t) (queue : u.queue = t.queue)
    (port : u.port.standing = t.port.standing) : s.Retains u := h.trans ⟨.of_queue queue, port⟩

theorem State.Retains.outward {u : State} (h : s.Retains t) (same : u.outward = t.outward) : s.Retains u := by
  simp only [State.outward, Prod.mk.injEq] at same
  obtain ⟨-, queue, -, port, -⟩ := same
  exact h.beside queue (port ▸ rfl)

theorem State.Retains.setDirectory (h : s.Retains t) (d : Directory) : s.Retains (t.setDirectory d) := h.beside rfl rfl

theorem State.Retains.putRecord (h : s.Retains t) (r : Record) : s.Retains (t.putRecord r) := h.beside rfl rfl

theorem State.Retains.bindRecord (h : s.Retains t) (r : Record) : s.Retains (t.bindRecord r) := h.beside rfl rfl

theorem State.Retains.createRecord (h : s.Retains t) (r : Record) : s.Retains (t.createRecord r) := h.beside rfl rfl

theorem State.Retains.takeAddress (h : s.Retains t) (a : Nat) : s.Retains (t.takeAddress a) := h.beside rfl rfl

theorem State.Retains.note (h : s.Retains t) (e : MarkEvent) (a : Nat) : s.Retains (t.note e a) := h.beside rfl rfl

theorem State.Retains.dropLapse (h : s.Retains t) (a : Nat) : s.Retains (t.dropLapse a) := h.beside rfl rfl

theorem State.Retains.raise (h : s.Retains t) (c : Cause) : s.Retains (t.raise c) := h.beside rfl rfl

theorem State.Retains.endRecord (h : s.Retains t) (place : Place) (r : Record) : s.Retains (t.endRecord place r) :=
  h.outward (State.endRecord_outward ..)

theorem State.Retains.addMember (h : s.Retains t) (g a : Nat) : s.Retains (t.addMember g a) := h.beside rfl rfl

theorem State.Retains.removeMember (h : s.Retains t) (g a : Nat) : s.Retains (t.removeMember g a) := h.beside rfl rfl

/-- A command completes, R160. -/
theorem State.Retains.complete (h : s.Retains t) (o : OutcomeCode) (results : Bool) :
    s.Finishes (t.complete o results) :=
  ⟨h.toSameReports.trans (.of_queue rfl), by cases results <;> exact nofun, congrArg (·.2.1) h.port,
    congrArg (·.2.2) h.port⟩

theorem State.Retains.finish (h : s.Retains t) (o : OutcomeCode) : s.Finishes (t.finish o) := h.complete o false

/-! ## The Transmit Queue, R150 -/

/-- A frame whose report no operation awaits is queued. -/
theorem State.Retains.enqueue (h : s.Retains t) (cls : TxClass) {o : Originator} (dead : o.live = false) (f : Frame) :
    s.Retains (t.enqueue cls o f) := by
  refine h.trans ⟨⟨fun p live => ?_, rfl, ?_, State.sendingCount_enqueue ..⟩, rfl⟩
  · have other : o ≠ p := fun same => by simp [same, live] at dead
    rw [State.enqueue_eq, reportCount_append, reportCount_cons, if_neg other]
    rfl
  · simp only [State.enqueue_eq, List.length_append, List.length_singleton]
    omega

theorem State.Retains.claimOrDrop (h : s.Retains t) {o : Originator} (dead : o.live = false) (f : Frame) :
    s.Retains (t.claimOrDrop o f) := by
  unfold State.claimOrDrop
  split
  · exact h.enqueue .directory dead f
  · exact h

/-- A reply takes a place set aside, so that no place becomes free by it. -/
theorem State.Retains.queueReply (h : s.Retains t) {o : Originator} (dead : o.live = false) (f : Frame) :
    s.Retains (t.queueReply o f) := by
  have queued := State.Retains.enqueue (.refl t) .reply dead f
  refine h.trans ⟨⟨queued.reports, rfl, ?_, queued.sending⟩, rfl⟩
  simp only [State.queueReply_eq, List.length_append, List.length_singleton]
  omega

theorem State.Retains.placeSetAside (h : s.Retains t) : s.Retains t.placeSetAside :=
  h.trans ⟨⟨fun _ _ => rfl, rfl, Nat.le_succ _, rfl⟩, rfl⟩

theorem State.Retains.queueCensus (h : s.Retains t) : s.Retains t.queueCensus := by
  have kept (f : Frame) (e : TxEntry) : (e.updateCensus f).originator = e.originator
      ∧ (e.updateCensus f).sending = e.sending := by
    unfold TxEntry.updateCensus
    split <;> exact ⟨rfl, rfl⟩
  unfold State.queueCensus
  dsimp only
  split
  · refine h.trans ⟨⟨fun o _ => reportCount_map (fun e => (kept _ e).1) o _, rfl, ?_, ?_⟩, rfl⟩
    · rw [State.setQueue_queue, List.length_map]
    · simp only [State.sendingCount, State.setQueue_queue, List.filter_map, Function.comp_def, (kept _ _).2,
        List.length_map]
  · exact h.claimOrDrop rfl _

theorem State.Retains.beginCensus (h : s.Retains t) : s.Retains t.beginCensus :=
  State.Retains.queueCensus (h.beside rfl rfl)

theorem State.Retains.finishCensus (h : s.Retains t) : s.Retains t.finishCensus := h.beside rfl rfl

/-! ## Disputes, R108 to R111 -/

theorem State.Retains.revokeDisputed (h : s.Retains t) (r : Record) : s.Retains (t.revokeDisputed r) :=
  State.Retains.endRecord (h.claimOrDrop rfl _) .quarantineTail r

theorem State.Retains.raiseDispute (h : s.Retains t) (r : Record) (rival : Option Identity) :
    s.Retains (t.raiseDispute r rival) := by
  have entered : s.Retains (t.enterDisputed r rival) := h.beside rfl rfl
  unfold State.raiseDispute
  dsimp only
  split
  · exact entered.raise _
  · exact entered.revokeDisputed r

theorem State.Retains.takeEvidence (h : s.Retains t) (r : Record) (i : Identity) : s.Retains (t.takeEvidence r i) := by
  unfold State.takeEvidence
  split
  · exact h.outward (State.fillRival_outward ..)
  split
  · exact h
  · exact h.raiseDispute r _

/-! ## The epoch expiry, R41 -/

theorem State.Retains.directoryPart (h : s.Retains t) : s.Retains t.directoryPart := by
  have aged : s.Retains t.ageTerms := List.foldlRecOn (motive := fun u : State => s.Retains u) _ _ (h.beside rfl rfl)
    fun _ kept _ _ => kept.outward (State.lapseRecord_outward ..)
  have held : s.Retains t.ageTerms.countQuiet.countHolds :=
    List.foldlRecOn (motive := fun u : State => s.Retains u) _ _ (aged.beside rfl rfl) fun _ kept r _ =>
      kept.revokeDisputed r
  exact held.setDirectory _

theorem State.Retains.partOf (h : s.Retains t) (o : EpochOwner) : s.Retains (t.partOf o) := by
  cases o with
  | leaseDirectory => exact h.directoryPart
  | addressPool => exact h.beside rfl rfl
  | prober => exact h.outward (State.proberPart_outward t)
  | censusUnit =>
    simp only [State.partOf, State.censusPart]
    split
    · split
      · exact State.Retains.queueCensus (h.beside rfl rfl)
      · exact h.finishCensus
    · exact h

theorem State.Retains.takePart (h : s.Retains t) (o : EpochOwner) : s.Retains (t.takePart o) := by
  unfold State.takePart
  split
  · exact h
  · exact (h.partOf o).beside rfl rfl

theorem State.Retains.expire (h : s.Retains t) (order : List EpochOwner) : s.Retains (t.expire order) :=
  State.Retains.beside (t := t.takeParts order) (List.foldlRecOn _ _ h fun _ kept o _ => kept.takePart o) rfl rfl

theorem State.Retains.finishExpiry (h : s.Retains t) : s.Retains t.finishExpiry := by
  unfold State.finishExpiry
  split
  · exact h.expire []
  · exact h

/-! ## Heard events and the owners of the requests, R47 to R49 and R148 -/

theorem State.Retains.handleStray (h : s.Retains t) (a : Nat) : s.Retains (t.handleStray a) := by
  unfold State.handleStray
  split
  · exact h
  · exact (h.enqueue .directory (o := .stray) rfl _).setDirectory _

theorem State.Retains.heard (h : s.Retains t) (f : Frame) : s.Retains (t.heard f) := by
  unfold State.heard State.heardFrom
  split
  · split
    · exact h.handleStray _
    · dsimp only
      split
      · exact h.handleStray _
      · exact h
      · exact h.putRecord _
      · exact h.putRecord _
      · split
        · exact h.bindRecord _
        · exact h.putRecord _
  · exact h

theorem State.Retains.refuseJoin (h : s.Retains t) (i : Identity) (q : RefusalReason) :
    s.Retains (t.refuseJoin i q) := by
  have replied : s.Retains (t.queueReply .joinUnit (joinRefusedFrame i q)) := h.queueReply rfl _
  cases q with
  | full | poolEmpty => exact replied.raise _
  | census | closed | disputed | busy => exact replied

theorem State.Retains.queueOffer (h : s.Retains t) (r : Record) (term : Nat) : s.Retains (t.queueOffer r term) :=
  h.queueReply rfl _

theorem State.Retains.joinKnown (h : s.Retains t) (r : Record) (requested : Nat) :
    s.Retains (t.joinKnown r requested) := by
  have offers (o : Origin) : s.Retains (if t.countIn .offered < Config.maxOffered then t.offerAgain o r requested
      else t.refuseJoin r.identity .busy) := by
    split
    · exact (((h.putRecord _).dropLapse _).note _ _).queueOffer _ _
    · exact h.refuseJoin _ _
  have resent : s.Retains (t.resendOffer r) := by
    unfold State.resendOffer
    split
    · exact (h.putRecord _).queueOffer _ _
    · exact h.queueOffer _ _
  unfold State.joinKnown
  split
  · exact offers _
  · exact offers _
  · exact offers _
  · exact resent
  · exact h.refuseJoin _ _

theorem State.Retains.takeJoin (h : s.Retains t) (i : Identity) (hint requested : Nat) :
    s.Retains (t.takeJoin i hint requested) := by
  have offered (a : Nat) : s.Retains (t.offerNew i a requested) :=
    ((h.takeAddress _).createRecord _).queueOffer _ _
  unfold State.takeJoin
  split
  · exact h.refuseJoin _ _
  split
  · exact h.refuseJoin _ _
  split
  · exact h.joinKnown _ _
  split
  · exact h.refuseJoin _ _
  split
  · exact h.refuseJoin _ _
  split
  · exact offered _
  · exact h.refuseJoin _ _

theorem State.Retains.takeAccept (h : s.Retains t) (a : Nat) (i : Identity) : s.Retains (t.takeAccept a i) := by
  have revoked : s.Retains (t.claimOrDrop .joinUnit (targetedRevoke a i)) := h.claimOrDrop rfl _
  unfold State.takeAccept
  split
  · split
    · split
      · exact (h.bindRecord _).outward (State.resolveRival_outward ..)
      · exact revoked
    · exact revoked
  · exact revoked

theorem State.Retains.takeRenew (h : s.Retains t) (a : Nat) (i : Identity) (requested : Nat) :
    s.Retains (t.takeRenew a i requested) := by
  unfold State.takeRenew
  split
  · exact h.queueReply rfl _
  · split
    · exact h.queueReply rfl _
    · exact h.queueReply rfl _
    · exact (h.takeEvidence _ _).queueReply rfl _
    all_goals
      split
      · exact (h.outward (State.grantRenew_outward ..)).queueReply rfl _
      · exact (h.takeEvidence _ _).queueReply rfl _

theorem State.Retains.takeLeave (h : s.Retains t) (a : Nat) (i : Identity) : s.Retains (t.takeLeave a i) := by
  have left (r : Record) : s.Retains (if r.identity = i then t.retire r else t) := by
    split
    · exact h.endRecord _ r
    · exact h
  unfold State.takeLeave
  split
  · exact h
  · split
    · exact left _
    · exact left _
    · exact left _
    · exact h
    · exact h

theorem State.Retains.takeClashReport (h : s.Retains t) (a : Nat) (i : Identity) :
    s.Retains (t.takeClashReport a i) := by
  unfold State.takeClashReport
  split
  · exact h
  · split
    · exact h.raiseDispute _ _
    · exact h.raiseDispute _ _
    · exact h.outward (State.fillRival_outward ..)
    · exact h
    · exact h

theorem State.Retains.answerGranted (h : s.Retains t) (a term : Nat) (groups : List Nat) :
    s.Retains (t.answerGranted a term groups) :=
  (h.outward (State.addClaimGroups_outward a groups t)).queueReply rfl _

theorem State.Retains.claimAgainst (h : s.Retains t) (r : Record) (i : Identity) (term : Nat) (groups : List Nat) :
    s.Retains (t.claimAgainst r i term groups) := by
  have disputed : s.Retains ((t.raiseDispute r (some i)).answerClaim r.address .disputed) :=
    (h.raiseDispute _ _).queueReply rfl _
  have supplanted : s.Retains ((t.endRecord .passedOn r).createRecord (claimedRecord r.address i term)) :=
    (h.endRecord _ _).createRecord _
  unfold State.claimAgainst
  split
  · exact disputed
  · exact disputed
  · exact disputed
  · exact (h.outward (State.fillRival_outward ..)).queueReply rfl _
  · split
    · exact disputed
    · exact supplanted.answerGranted _ _ _

theorem State.Retains.takeClaim (h : s.Retains t) (a : Nat) (i : Identity) (requested : Nat) (groups : List Nat) :
    s.Retains (t.takeClaim a i requested groups) := by
  have answered (o : ClaimOutcome) : s.Retains (t.answerClaim a o) := h.queueReply rfl _
  unfold State.takeClaim State.decideClaim
  dsimp only
  split
  · split
    · exact answered _
    split
    · split
      · exact answered _
      · exact ((h.takeAddress _).createRecord _).answerGranted _ _ _
    · split
      · split
        · exact answered _
        · exact (h.outward (State.grantClaim_outward ..)).answerGranted _ _ _
      · exact h.claimAgainst _ _ _ _
  · exact answered _

theorem State.Retains.answerGroup (h : s.Retains t) (a g : Nat) (o : GroupOutcome) :
    s.Retains (t.answerGroup a g o) := h.queueReply rfl _

theorem State.Retains.takeGroupJoin (h : s.Retains t) (a g : Nat) : s.Retains (t.takeGroupJoin a g) := by
  unfold State.takeGroupJoin
  split
  · exact h.answerGroup _ _ _
  split
  · exact h.answerGroup _ _ _
  split
  · exact h.answerGroup _ _ _
  split
  · exact h.answerGroup _ _ _
  split
  · exact h.answerGroup _ _ _
  split
  · exact h.answerGroup _ _ _
  · exact (h.addMember _ _).answerGroup _ _ _

/-- The owner of a request other than PROBE REPLY ends no report that is awaited and begins none. -/
theorem State.Retains.handOver {k : RequestKind} (h : s.Retains t) (other : k ≠ .probeReply) (f : Frame) :
    s.Retains (t.handOver k f) := by
  cases k with
  | join => exact h.takeJoin _ _ _
  | accept => exact h.takeAccept _ _
  | renew => exact h.takeRenew _ _ _
  | leave => exact h.takeLeave _ _
  | claim => exact h.takeClaim _ _ _ _
  | probeReply => exact absurd rfl other
  | clashReport => exact h.takeClashReport _ _
  | groupJoin => exact h.takeGroupJoin _ _
  | groupLeave =>
    simp only [State.handOver, State.takeGroupLeave]
    split
    · exact (h.removeMember _ _).answerGroup _ _ _
    · exact h.answerGroup _ _ _
  | groupExpand =>
    simp only [State.handOver, State.takeGroupExpand]
    split <;> exact h.answerGroup _ _ _
  | resolveIdentity =>
    simp only [State.handOver, State.takeResolveIdentity]
    split <;> exact h.queueReply rfl _
  | resolveAddress =>
    simp only [State.handOver, State.takeResolveAddress]
    split <;> exact h.queueReply rfl _

end Operations

end Sys2Proof.Machine
end

section
/-! The law that ties BUSY to one REVOKE and the probe context to one PROBE (R91, R159, R161): a command's REVOKE, the
grant of a waiting claim, the Prober's choice, and the ends of an attempt (R151). -/

namespace Sys2Proof.Machine

/-! ## The law, with so many reports awaited by the command -/

/-- So many reports of the command in progress are awaited, and its claim waits only while no entry is free. -/
structure State.Commands (s : State) (n : Nat) : Prop where
  awaited : s.awaited = n
  waits : s.queue.waiting.isSome = true → s.hasFreeEntry = false

/-- The same, and the law of the probe context. -/
structure State.Ties (s : State) (n : Nat) : Prop extends s.Commands n where
  probe : s.ProbeAwaits

/-- The two laws: one report awaited in BUSY, none otherwise. -/
def State.Tied (s : State) : Prop := s.Ties (if s.port.state = .busy then 1 else 0)

theorem State.tied_iff {s : State} : s.Tied ↔ s.CommandAwaits ∧ s.ProbeAwaits :=
  ⟨fun ⟨⟨awaited, waits⟩, probe⟩ => ⟨⟨awaited, waits⟩, probe⟩,
    fun ⟨⟨awaited, waits⟩, probe⟩ => ⟨⟨awaited, waits⟩, probe⟩⟩

theorem State.Ties.tied {s : State} {n : Nat} (h : s.Ties n) (port : n = if s.port.state = .busy then 1 else 0) :
    s.Tied := show s.Ties _ from port ▸ h

section Laws

variable {s t : State} {n : Nat}

theorem State.hasFreeEntry_eq_false : s.hasFreeEntry = false ↔ 8 ≤ s.queue.entries.length + s.queue.setAside := by
  rw [← Bool.not_eq_true, State.hasFreeEntry_iff, Nat.not_lt]

/-- With nothing awaited no claim waits. -/
theorem State.Commands.waiting_none (h : s.Commands 0) : s.queue.waiting = none := by
  have none := h.awaited
  rw [State.awaited_eq] at none
  cases waits : s.queue.waiting with
  | none => rfl
  | some f => simp [waits] at none

theorem State.Commands.reportCount_zero (h : s.Commands 0) : reportCount (.command true) s.queue.entries = 0 := by
  have none := h.awaited
  rw [State.awaited_eq] at none
  omega

/-- Nothing awaited, and no claim waiting. -/
theorem State.Commands.of_none (reports : reportCount (.command true) s.queue.entries = 0)
    (waiting : s.queue.waiting = none) : s.Commands 0 := by
  refine ⟨?_, fun waits => ?_⟩
  · rw [State.awaited_eq, reports, waiting]
    rfl
  · rw [waiting] at waits
    exact nomatch waits

theorem State.Commands.retain (h : s.Commands n) (same : s.SameReports t) : t.Commands n := by
  refine ⟨?_, fun waits => ?_⟩
  · rw [State.awaited_eq, same.reports _ rfl, same.waiting]
    exact h.awaited
  · have full := State.hasFreeEntry_eq_false.mp (h.waits (same.waiting ▸ waits))
    exact State.hasFreeEntry_eq_false.mpr (full.trans same.places)

/-- Whether a PROBE is queued is read from the context. -/
theorem State.probeQueued_congr (context : t.prober.context = s.prober.context) : t.probeQueued = s.probeQueued := by
  rw [State.probeQueued, context]
  rfl

theorem State.Ties.retain (h : s.Ties n) (same : s.SameReports t) (context : t.prober.context = s.prober.context) :
    t.Ties n := by
  refine ⟨h.toCommands.retain same, ?_⟩
  rw [State.probeAwaits_iff, same.reports _ rfl, State.probeQueued_congr context]
  exact h.probe

theorem State.Tied.retain (h : s.Tied) (same : s.Retains t) (context : t.prober.context = s.prober.context) :
    t.Tied := (State.Ties.retain h same.toSameReports context).tied (by rw [same.state])

/-- A command that awaits nothing ends. -/
theorem State.Ties.finishes (h : s.Ties 0) (done : s.Finishes t) (context : t.prober.context = s.prober.context) :
    t.Tied := (h.retain done.toSameReports context).tied (if_neg done.port).symm

/-! ## The REVOKE of a command, R161 -/

/-- A command in progress comes to await its REVOKE, or ends. -/
theorem State.Ties.commandRevoke (h : s.Ties 0) (busy : s.port.state = .busy) (f : Frame) :
    (s.commandRevoke f).Tied := by
  have nothing := h.reportCount_zero
  have waiting := h.waiting_none
  unfold State.commandRevoke
  split
  · exact h.finishes (State.Retains.finish (.refl s) _) rfl
  split
  · refine State.Ties.tied (n := 1) ⟨⟨?_, fun waits => ?_⟩, ?_⟩ (if_pos busy).symm
    · rw [State.awaited_eq, State.enqueue_eq, reportCount_append, nothing, waiting]
      rfl
    · rw [State.enqueue_eq, waiting] at waits
      exact nomatch waits
    · rw [State.probeAwaits_iff, State.enqueue_eq, reportCount_append]
      exact h.probe
  · next full =>
    refine State.Ties.tied (n := 1) ⟨⟨?_, fun _ => Bool.not_eq_true _ ▸ full⟩, h.probe⟩ (if_pos busy).symm
    rw [State.awaited_eq, State.setQueue_queue, nothing]
    rfl

/-- An entry that is free goes to the waiting claim, which the command awaits as before, R150. -/
theorem State.Commands.grantWaiting (awaited : s.awaited = n) : s.grantWaiting.Commands n := by
  rw [State.awaited_eq] at awaited
  unfold State.grantWaiting
  split
  · next f waits =>
    rw [waits] at awaited
    split
    · refine ⟨?_, nofun⟩
      rw [State.awaited_eq, State.enqueue_eq, reportCount_append]
      exact awaited
    · next full => exact ⟨by rw [State.awaited_eq, waits]; exact awaited, fun _ => Bool.not_eq_true _ ▸ full⟩
  · next waits =>
    refine ⟨by rw [State.awaited_eq]; exact awaited, fun some => ?_⟩
    rw [waits] at some
    exact nomatch some

/-- The Prober awaits nothing of the claim granted. -/
theorem State.grantWaiting_probes (s : State) :
    reportCount (.prober true) s.grantWaiting.queue.entries = reportCount (.prober true) s.queue.entries := by
  unfold State.grantWaiting
  split
  · split
    · rw [State.enqueue_eq, reportCount_append]
      rfl
    · rfl
  · rfl

theorem State.grantWaiting_port (s : State) : s.grantWaiting.port = s.port := by
  unfold State.grantWaiting
  split
  · split <;> rfl
  · rfl

theorem State.Tied.grantWaiting (h : s.Tied) : s.grantWaiting.Tied := by
  refine State.Ties.tied ⟨State.Commands.grantWaiting h.awaited, ?_⟩ (by rw [State.grantWaiting_port])
  rw [State.probeAwaits_iff, State.grantWaiting_probes, State.probeQueued_congr (congrArg _ s.grantWaiting_prober)]
  exact h.probe

/-! ## The Prober, R90 to R98 -/

theorem State.Retains.applyOutcome (h : s.Retains t) (c : ProbeContext) (o : ProbeOutcome) (r : Record) :
    s.Retains (t.applyOutcome c o r) := by
  unfold State.applyOutcome
  split
  · split
    · exact h.bindRecord _
    · exact h.raiseDispute r _
  · exact h.outward (State.failLapseProbe_outward ..)
  · split
    · exact h.putRecord _
    · exact h.raiseDispute r _
  · exact h.outward (State.lapseRecord_outward ..)

/-- With the context emptied no PROBE is awaited, and the command awaits what it did (R91). -/
theorem State.Commands.emptyContext (h : s.Commands n) : s.emptyContext.Ties n := by
  obtain ⟨probes, commands⟩ := reportCount_detachProbe s.queue.entries
  refine ⟨⟨?_, fun waits => ?_⟩, probes⟩
  · rw [State.awaited_eq, State.emptyContext_eq, commands]
    exact h.awaited
  · have full := State.hasFreeEntry_eq_false.mp (h.waits waits)
    refine State.hasFreeEntry_eq_false.mpr ?_
    rwa [State.emptyContext_eq, List.length_map]

theorem State.Commands.endAttempt {c : ProbeContext} (h : s.Commands n) (context : s.prober.context = some c)
    (o : ProbeOutcome) : (s.endAttempt o).Ties n ∧ (s.endAttempt o).port.state = s.port.state := by
  have emptied (u : State) (kept : s.emptyContext.Retains u) (prober : u.prober = s.emptyContext.prober) :
      u.Ties n ∧ u.port.state = s.port.state :=
    ⟨h.emptyContext.retain kept.toSameReports (congrArg _ prober), kept.state⟩
  cases target : s.outcomeTarget c o with
  | none =>
    rw [State.endAttempt_discarded context target]
    exact emptied _ (State.Retains.outward (.refl _) (State.placeDiscarded_outward ..)) (State.placeDiscarded_prober ..)
  | some r =>
    rw [State.endAttempt_applied context target]
    exact emptied _ (State.Retains.applyOutcome (.refl _) c o r) (State.applyOutcome_prober ..)

theorem State.Tied.endAttempt (h : s.Tied) (o : ProbeOutcome) : (s.endAttempt o).Tied := by
  cases context : s.prober.context with
  | none =>
    rw [State.endAttempt, context]
    exact h
  | some c =>
    obtain ⟨ties, port⟩ := State.Commands.endAttempt h.toCommands context o
    exact ties.tied (by rw [port])

/-- The context is filled as its PROBE is queued, R90. -/
theorem State.Tied.takeTarget (h : s.Tied) (idle : s.prober.context = none) (r : Record) (kind : ProbeKind)
    (attempt : Nat) : (s.takeTarget r kind attempt).Tied := by
  have none : reportCount (.prober true) s.queue.entries = 0 := by
    have count := State.probeAwaits_iff.mp h.probe
    rwa [State.probeQueued, idle] at count
  have full : (s.takeTarget r kind attempt).Commands (if s.port.state = .busy then 1 else 0) := by
    refine ⟨?_, fun waits => ?_⟩
    · rw [State.awaited_eq, State.takeTarget, State.enqueue_eq, reportCount_append]
      exact h.awaited
    · have full := State.hasFreeEntry_eq_false.mp (h.waits waits)
      refine State.hasFreeEntry_eq_false.mpr ?_
      simp only [State.takeTarget, State.enqueue_eq, State.setProber_queue, List.length_append, List.length_singleton]
      omega
  refine State.Ties.tied ⟨full, ?_⟩ rfl
  rw [State.probeAwaits_iff, State.takeTarget, State.enqueue_eq, reportCount_append, State.setProber_queue, none]
  rfl

/-- The sweep context is outside the law. -/
theorem State.Tied.setSweep (h : s.Tied) (w : Option Sweep) : (s.setProber { s.prober with sweep := w }).Tied :=
  h.retain (State.Retains.beside (.refl s) rfl rfl) rfl

theorem State.Tied.choose (h : s.Tied) (idle : s.prober.context = none) : s.choose.Tied := by
  unfold State.choose
  split
  · split
    · exact State.Tied.takeTarget (s := s.dropLapse _) (h.retain (State.Retains.dropLapse (.refl s) _) rfl) idle _ _ _
    · exact h
  split
  · next w _ =>
    split
    · unfold State.sweepOn
      split
      · next r _ => exact (h.setSweep (some { w with cursor := r.address + 1 })).takeTarget idle _ _ _
      · unfold State.endPass
        dsimp only
        split
        · exact State.Tied.retain (h.setSweep _) (State.Retains.raise (.refl _) _) rfl
        · exact h.setSweep _
    · exact h
  · exact h

/-! ## The ends of an attempt, R151 -/

/-- Where at most one entry is in transmission it stands alone. -/
theorem State.sendingEntry_split {e : TxEntry} (one : s.sendingEntry = some e) (few : s.sendingCount ≤ 1) :
    ∃ pre post, s.queue.entries = pre ++ e :: post ∧ e.sending = true
      ∧ ∀ x ∈ pre ++ post, x.sending = false := by
  obtain ⟨sending, pre, post, split, before⟩ := List.find?_eq_some_iff_append.mp one
  have idle : ∀ x ∈ pre, x.sending = false := fun x hx => by simpa using before x hx
  have rest : (post.filter (fun x => x.sending)).length = 0 := by
    simp only [State.sendingCount, split, List.filter_append, List.filter_cons, sending, if_true, List.length_append,
      List.length_cons] at few
    omega
  refine ⟨pre, post, split, sending, fun x hx => ?_⟩
  rcases List.mem_append.mp hx with inPre | inPost
  · exact idle x inPre
  · exact Bool.eq_false_iff.mpr (List.filter_eq_nil_iff.mp (List.eq_nil_of_length_eq_zero rest) x inPost)

/-- What is awaited of the entries that stay, when a waiting claim has taken the place that freed. -/
theorem State.commands_freed {rest : List TxEntry} (s : State)
    (awaited : reportCount (.command true) rest + (if s.queue.waiting.isSome then 1 else 0) = n) :
    (s.setQueue (s.freed rest)).Commands n := by
  rw [← State.grantWaiting_freed]
  exact State.Commands.grantWaiting awaited

theorem State.reportCount_freed (rest : List TxEntry) (s : State) :
    reportCount (.prober true) (s.freed rest).entries = reportCount (.prober true) rest := by
  have same := (s.setQueue { s.queue with entries := rest }).grantWaiting_probes
  rwa [State.grantWaiting_freed] at same

/-- The report of the PROBE in flight ends the phase in which it is awaited, R91. -/
theorem State.Commands.reportProbe {c : ProbeContext} (h : s.Commands n)
    (nothing : reportCount (.prober true) s.queue.entries = 0) (context : s.prober.context = some c)
    (phase : c.phase = .queued) (sent : Bool) :
    (s.report (.prober true) sent).Ties n ∧ (s.report (.prober true) sent).port.state = s.port.state := by
  simp only [State.report, context, phase, if_true]
  split
  · exact ⟨⟨⟨h.awaited, h.waits⟩, nothing⟩, rfl⟩
  · exact h.endAttempt context .noAnswer

/-- The entry in transmission leaves: what was awaited of it is told, and the rest is awaited as before. -/
theorem State.Tied.leaveQueue {e : TxEntry} (h : s.Tied) (few : s.sendingCount ≤ 1) (one : s.sendingEntry = some e)
    (sent : Bool) : (s.leaveQueue e sent).Tied := by
  obtain ⟨pre, post, split, sending, alone⟩ := State.sendingEntry_split one few
  have before (o : Originator) : reportCount o s.queue.entries =
      (if e.originator = o then 1 else 0) + reportCount o (pre ++ post) := by
    rw [split, reportCount_append, reportCount_cons, reportCount_append]
    omega
  have commands := h.awaited
  have probes := State.probeAwaits_iff.mp h.probe
  have told := s.reportCount_freed (pre ++ post)
  rw [State.awaited_eq, before] at commands
  rw [before] at probes
  rw [State.leaveQueue_eq sent split sending alone]
  by_cases command : e.originator = .command true
  · rw [if_pos command] at commands
    rw [if_neg (by simp [command]), Nat.zero_add] at probes
    have nothing : reportCount (.command true) (pre ++ post) + (if s.queue.waiting.isSome then 1 else 0) = 0 := by
      have most : (if s.port.state = .busy then 1 else 0) ≤ 1 := by split <;> decide
      omega
    have ties : (s.setQueue (s.freed (pre ++ post))).Ties 0 := ⟨s.commands_freed nothing, told.trans probes⟩
    rw [command]
    exact ties.finishes (State.Retains.finish (.refl _) _) rfl
  rw [if_neg command, Nat.zero_add] at commands
  have left := s.commands_freed commands
  by_cases probe : e.originator = .prober true
  · rw [if_pos probe] at probes
    have queued : s.probeQueued = true := by
      by_contra idle
      rw [if_neg idle] at probes
      omega
    have nothing : reportCount (.prober true) (pre ++ post) = 0 := by
      rw [if_pos queued] at probes
      omega
    cases context : s.prober.context with
    | none =>
      rw [State.probeQueued, context] at queued
      exact nomatch queued
    | some c =>
      have phase : c.phase = .queued := by simpa [State.probeQueued, context] using queued
      rw [probe]
      obtain ⟨ties, port⟩ := left.reportProbe (told.trans nothing) context phase sent
      exact ties.tied (by rw [port]; rfl)
  · rw [if_neg probe, Nat.zero_add] at probes
    have silent : (s.setQueue (s.freed (pre ++ post))).Tied := ⟨left, told.trans probes⟩
    have untold (u : State) : u.report e.originator sent = u := by
      unfold State.report
      split
      · next live => exact absurd live probe
      · next live => exact absurd live command
      all_goals rfl
    rwa [untold]

/-- It stays, under the same originator. -/
theorem State.Tied.keepEntry (h : s.Tied) (used : Nat) : (s.keepEntry used).Tied := by
  have same (o : Originator) : reportCount o (s.keepEntry used).queue.entries = reportCount o s.queue.entries := by
    rw [State.keepEntry_eq]
    refine reportCount_map (fun e => ?_) o _
    unfold TxEntry.settled
    split <;> rfl
  refine ⟨⟨?_, fun waits => ?_⟩, ?_⟩
  · rw [State.awaited_eq, same]
    exact h.awaited
  · have full := State.hasFreeEntry_eq_false.mp (h.waits waits)
    refine State.hasFreeEntry_eq_false.mpr ?_
    rwa [State.keepEntry_eq, State.setQueue_queue, List.length_map]
  · rw [State.probeAwaits_iff, same]
    exact h.probe

theorem State.Tied.countAttempt {e : TxEntry} (h : s.Tied) (few : s.sendingCount ≤ 1)
    (one : s.sendingEntry = some e) : (s.countAttempt e).Tied := by
  unfold State.countAttempt
  split
  · exact h.leaveQueue few one _
  · exact h.keepEntry _

theorem State.Tied.settleSlot {e : TxEntry} (h : s.Tied) (few : s.sendingCount ≤ 1) (one : s.sendingEntry = some e)
    (dominant : Bool) : (s.settleSlot e dominant).Tied := by
  unfold State.settleSlot
  dsimp only
  split
  · exact h.leaveQueue few one _
  · exact h.countAttempt few one

theorem State.Tied.cutOff (h : s.Tied) (few : s.sendingCount ≤ 1) : s.cutOff.Tied := by
  unfold State.cutOff
  split
  · next one => exact h.countAttempt few one
  · exact h

/-- The line and the counter of the free values are outside the law. -/
theorem State.Tied.onLine (h : s.Tied) (l : Line) (c : Nat) : (s.onLine l c).Tied :=
  h.retain (State.Retains.beside (.refl s) rfl rfl) rfl

end Laws

end Sys2Proof.Machine
end

section
/-! The same law under the host's commands, under reception, under every row and every step; with it the statement of
the family "The Control Port" about every step. -/

namespace Sys2Proof.Machine

section Commands

variable {s t : State}

/-! ## What the host's commands leave of the reports awaited -/

theorem State.Retains.setPort (h : s.Retains t) {p : Port} (standing : p.standing = t.port.standing) :
    s.Retains (t.setPort p) := h.beside rfl standing

theorem State.Retains.setLine (h : s.Retains t) (l : Line) : s.Retains (t.setLine l) := h.beside rfl rfl

theorem State.Retains.setParams (h : s.Retains t) (p : Params) : s.Retains (t.setParams p) := h.beside rfl rfl

theorem State.Retains.strike (h : s.Retains t) (a : Nat) : s.Retains (t.strike a) := h.beside rfl rfl

theorem State.Retains.setProber (h : s.Retains t) (p : Prober) : s.Retains (t.setProber p) := h.beside rfl rfl

theorem State.Retains.setGroup (h : s.Retains t) (g : Nat) (v : Group) : s.Retains (t.setGroup g v) := h.beside rfl rfl

theorem State.Retains.setResults (h : s.Retains t) (bs : List Byte) : s.Retains (t.setResults bs) := h.beside rfl rfl

theorem State.Retains.setBuffer (h : s.Retains t) (bs : List Byte) (upTo : Nat) : s.Retains (t.setBuffer bs upTo) :=
  h.beside rfl rfl

/-- Results in the buffer and in the parameter bytes, as a read completes. -/
theorem State.Retains.shown (h : s.Retains t) (buffer : List Byte) (upTo : Nat) (bs : List Byte) :
    s.Finishes (((t.setBuffer buffer upTo).setResults bs).complete .ok true) :=
  ((h.setBuffer _ _).setResults _).complete _ _

theorem State.Retains.loadReservations (h : s.Retains t) : s.Finishes t.loadReservations := by
  unfold State.loadReservations
  dsimp only
  split
  · have reserved := h.outward
      (State.reserveAll_outward ((List.range (t.p 0)).map (reservationAt t.port.buffer)) t)
    generalize t.reserveAll ((List.range (t.p 0)).map (reservationAt t.port.buffer)) = u at reserved ⊢
    have written : s.Retains (u.1.setPort { u.1.port with
        buffer := writeOutcomes t.port.buffer 0 u.2, pointer := 0 }) := reserved.beside rfl rfl
    exact (written.setResults _).complete _ _
  · exact h.finish _

/-- A command on the record at an address. -/
theorem State.Retains.withRecord (h : s.Retains t) {body : Record → State → State}
    (acts : ∀ r, s.Finishes (body r t)) : s.Finishes (t.withRecord body) := by
  unfold State.withRecord
  split
  · split
    · exact acts _
    · exact h.finish _
  · exact h.finish _

theorem State.Retains.releaseRecord (h : s.Retains t) (r : Record) : s.Finishes (t.releaseRecord r) := by
  unfold State.releaseRecord
  split
  · exact (h.endRecord _ r).finish _
  · exact h.finish _

theorem State.Retains.pinRecord (h : s.Retains t) (r : Record) : s.Finishes (t.pinRecord r) := by
  unfold State.pinRecord
  split
  · exact h.finish _
  split
  · exact h.finish _
  split
  · exact (h.bindRecord _).finish _
  · exact ((h.putRecord _).note _ _).finish _

theorem State.Retains.unpinRecord (h : s.Retains t) (r : Record) : s.Finishes (t.unpinRecord r) := by
  unfold State.unpinRecord
  split
  · exact h.finish _
  split
  · exact ((h.putRecord _).note _ _).finish _
  · exact h.finish _

theorem State.Retains.startCensus (h : s.Retains t) : s.Finishes t.startCensus := by
  unfold State.startCensus
  split
  · exact h.beginCensus.finish _
  · exact h.finish _

theorem State.Retains.endCensus (h : s.Retains t) : s.Finishes t.endCensus := by
  unfold State.endCensus
  split
  · exact h.finishCensus.finish _
  · exact h.finish _

theorem State.Retains.startSweep (h : s.Retains t) : s.Finishes t.startSweep := by
  unfold State.startSweep
  split
  · split
    · exact (h.setProber _).finish _
    · exact h.finish _
  · exact h.finish _

theorem State.Retains.groupAssign (h : s.Retains t) : s.Finishes t.groupAssign := by
  rw [State.groupAssign_eq]
  split
  · exact (h.addMember _ _).finish _
  · exact h.finish _

theorem State.Retains.groupRemove (h : s.Retains t) : s.Finishes t.groupRemove := by
  unfold State.groupRemove
  dsimp only
  split
  · exact h.finish _
  split
  · exact (h.removeMember _ _).finish _
  · exact h.finish _

theorem State.Retains.readGroup (h : s.Retains t) : s.Finishes t.readGroup := by
  unfold State.readGroup
  dsimp only
  split
  · exact h.shown _ _ _
  · exact h.finish _

theorem State.Retains.setGroupMode (h : s.Retains t) : s.Finishes t.setGroupMode := by
  unfold State.setGroupMode
  dsimp only
  split
  · split
    · exact (h.setGroup _ _).finish _
    · exact h.finish _
  · exact h.finish _

theorem State.Retains.clearGroup (h : s.Retains t) : s.Finishes t.clearGroup := by
  unfold State.clearGroup
  dsimp only
  split
  · exact ((h.setGroup _ _).outward (State.clearedMarks_outward ..)).finish _
  · exact h.finish _

theorem State.Retains.setParameter (h : s.Retains t) : s.Finishes t.setParameter := by
  unfold State.setParameter
  dsimp only
  split
  · split
    · refine State.Retains.finish (h.setPort ?_) _
      rfl
    · exact h.finish _
  · split
    · exact (h.setParams _).finish _
    · exact h.finish _

theorem State.Retains.readSummary (h : s.Retains t) : s.Finishes t.readSummary := by
  have drawn : s.Retains { t.setBuffer t.summary Config.bufferSize with chance := t.chance + 1 } := h.beside rfl rfl
  exact drawn.complete _ _

theorem State.Retains.readRecord (h : s.Retains t) : s.Finishes t.readRecord := by
  unfold State.readRecord
  dsimp only
  split
  · exact h.finish _
  split
  · exact h.shown _ _ _
  · exact h.finish _

theorem State.Retains.readDirectory (h : s.Retains t) : s.Finishes t.readDirectory := by
  unfold State.readDirectory
  dsimp only
  split
  · exact h.shown _ _ _
  · exact h.finish _

theorem State.Retains.changeLine (h : s.Retains t) (new : LineState) : s.Retains (t.changeLine new) := by
  unfold State.changeLine
  dsimp only
  split <;> exact h.beside rfl rfl

theorem State.Retains.lineEnable (h : s.Retains t) : s.Finishes t.lineEnable := by
  unfold State.lineEnable
  split
  · exact ((h.changeLine .settling).setLine _).finish _
  · exact h.finish _

theorem State.Retains.setBitRate (h : s.Retains t) : s.Finishes t.setBitRate := by
  unfold State.setBitRate
  split
  · exact h.finish _
  split
  · exact h.finish _
  · exact (h.setLine _).finish _

/-! ## The commands that await a REVOKE, and those that purge the queue -/

/-- Evict ends, or awaits its REVOKE, R165. -/
theorem State.Ties.evictRecord (h : s.Ties 0) (busy : s.port.state = .busy) (r : Record) : (s.evictRecord r).Tied := by
  have ended (place : Place) : s.Retains (s.endRecord place r) := State.Retains.endRecord (.refl s) place r
  have revoked (f : Frame) : ((s.retire r).commandRevoke f).Tied := by
    have retired : (s.retire r).Ties 0 := h.retain (ended _).toSameReports (congrArg _ (s.retire_prober r))
    exact retired.commandRevoke ((ended _).state.trans busy) f
  have refused : (s.finish .wrongState).Tied := h.finishes (State.Retains.finish (.refl s) _) rfl
  unfold State.evictRecord
  split
  · exact refused
  · split
    · exact revoked _
    · exact h.finishes ((ended _).finish _) (congrArg _ (State.endRecord_prober ..))
  · exact revoked _
  · exact revoked _
  · exact revoked _

theorem State.Ties.withRecord (h : s.Ties 0) {body : Record → State → State} (acts : ∀ r, (body r s).Tied) :
    (s.withRecord body).Tied := by
  have refused (o : OutcomeCode) : (s.finish o).Tied := h.finishes (State.Retains.finish (.refl s) o) rfl
  unfold State.withRecord
  split
  · split
    · exact acts _
    · exact refused _
  · exact refused _

/-- Award ends, or awaits its REVOKE, R113 and R114. -/
theorem State.Ties.award (h : s.Ties 0) (busy : s.port.state = .busy) : s.award.Tied := by
  have finished (o : OutcomeCode) : (s.finish o).Tied := h.finishes (State.Retains.finish (.refl s) o) rfl
  have given (u : State) (kept : s.Retains u) (prober : u.prober = s.prober) (f : Frame) : (u.commandRevoke f).Tied :=
    State.Ties.commandRevoke (h.retain kept.toSameReports (congrArg _ prober)) (kept.state.trans busy) f
  have recorded (r : Record) : (s.awardRecorded r).Tied := by
    have bound := State.Retains.bindRecord (.refl s) { s.refreshed r with quiet := 0 }
    unfold State.awardRecorded
    dsimp only
    split
    · exact given _ bound rfl _
    · exact h.finishes (bound.finish _) rfl
  have rival (r : Record) (i : Identity) : (s.awardRival r i).Tied :=
    given _ ((State.Retains.strike (.refl s) _).bindRecord _) rfl _
  unfold State.award
  split
  · exact finished _
  split
  · exact finished _
  split
  · exact finished _
  split
  · exact recorded _
  split
  · exact finished _
  split
  · exact finished _
  · exact rival _ _

/-- A queue without a report awaited, the context empty. -/
theorem State.Tied.of_none (commands : reportCount (.command true) s.queue.entries = 0)
    (probes : reportCount (.prober true) s.queue.entries = 0) (waiting : s.queue.waiting = none)
    (context : s.prober.context = none) (port : s.port.state ≠ .busy) : s.Tied := by
  have idle : s.probeQueued = false := by rw [State.probeQueued, context]
  refine State.Ties.tied ⟨State.Commands.of_none commands waiting, ?_⟩ (if_neg port).symm
  rw [State.probeAwaits_iff, probes, idle]
  rfl

/-- An entry kept through Clear Directory, not tried again, R153. -/
def TxEntry.purged (e : TxEntry) : TxEntry := { detachProbe e with lastTry := true }

theorem reportCount_purged (o : Originator) (es : List TxEntry) :
    reportCount o (es.map TxEntry.purged) = reportCount o (es.map detachProbe) := by
  simp only [reportCount, List.filter_map, Function.comp_def, TxEntry.purged, List.length_map]

theorem reportCount_filter_le (o : Originator) (q : TxEntry → Bool) (es : List TxEntry) :
    reportCount o (es.filter q) ≤ reportCount o es :=
  (List.Sublist.filter _ List.filter_sublist).length_le

/-- Clear Directory leaves at most the frame in transmission, whose report nothing awaits, R153 and R168. -/
theorem State.Ties.clearDirectory (h : s.Ties 0) : s.clearDirectory.Tied := by
  have entries : s.clearDirectory.queue.entries =
      (s.queue.entries.filter (fun e => e.sending)).map TxEntry.purged := rfl
  obtain ⟨probes, commands⟩ := reportCount_detachProbe (s.queue.entries.filter (fun e => e.sending))
  have fewer := reportCount_filter_le (.command true) (fun e => e.sending) s.queue.entries
  rw [h.reportCount_zero] at fewer
  refine State.Tied.of_none ?_ ?_ h.waiting_none rfl nofun
  · rw [entries, reportCount_purged, commands]
    exact Nat.le_zero.mp fewer
  · rw [entries, reportCount_purged, probes]

/-- Line Disable purges the queue whole and discards the context, R153 and R100. -/
theorem State.Ties.lineDisable (h : s.Ties 0) : s.lineDisable.Tied := by
  have waiting : s.finishExpiry.queue.waiting = none :=
    (State.Retains.finishExpiry (.refl s)).waiting.trans h.waiting_none
  have empty : s.finishExpiry.purgeAll.discardContext.queue.entries = []
      ∧ s.finishExpiry.purgeAll.discardContext.queue.waiting = s.finishExpiry.queue.waiting := by
    unfold State.discardContext
    split
    · exact ⟨rfl, rfl⟩
    split
    · split <;> exact ⟨rfl, rfl⟩
    · exact ⟨rfl, rfl⟩
  obtain ⟨entries, claim⟩ := empty
  have context : s.finishExpiry.purgeAll.discardContext.prober.context = none := by rw [State.discardContext_prober]
  unfold State.lineDisable
  generalize s.finishExpiry.purgeAll.discardContext = u at entries claim context
  have same : u.lineOff.queue = u.queue ∧ u.lineOff.prober = u.prober := by
    unfold State.lineOff State.changeLine
    dsimp only
    split <;> exact ⟨rfl, rfl⟩
  obtain ⟨queue, prober⟩ := same
  have left (o : Originator) : reportCount o (u.lineOff.freezeClock.finish .ok).queue.entries = 0 := by
    change reportCount o u.lineOff.queue.entries = 0
    rw [queue, entries]
    rfl
  refine State.Tied.of_none (left _) (left _) ?_ ?_ nofun
  · change u.lineOff.queue.waiting = none
    rw [queue, claim, waiting]
  · change u.lineOff.prober.context = none
    rw [prober, context]

/-! ## Every command code, R159 -/

/-- A sweep started leaves the probe in flight. -/
theorem State.startSweep_context (s : State) : s.startSweep.prober.context = s.prober.context := by
  unfold State.startSweep
  split
  · split <;> rfl
  · rfl

/-- The commands that await a REVOKE, and those that purge the queue. -/
def queueCodes : List Nat := [0x20, 0x21, 0x24, 0x51]

/-- Every other code's command ends at once, with nothing done to the reports awaited and to the probe in flight. -/
theorem State.body_finishes {code : Nat} (plain : code ∉ queueCodes) (s : State) :
    s.Finishes (commandBody code s) ∧ (commandBody code s).prober.context = s.prober.context := by
  have start := State.Retains.refl s
  have ends {u : State} (done : s.Finishes u) (prober : u.prober = s.prober) :
      s.Finishes u ∧ u.prober.context = s.prober.context := ⟨done, congrArg _ prober⟩
  unfold commandBody
  split
  case h_8 | h_9 | h_12 | h_23 => exact absurd (by decide) plain
  · exact ends start.setParameter s.setParameter_prober
  · exact ends (start.shown _ _ _) rfl
  · exact ends start.readSummary rfl
  · exact ends ⟨.of_queue rfl, nofun, rfl, rfl⟩ rfl
  · exact ends ((start.outward (State.reserveOne_outward _ s)).finish _) (State.reserveOne_prober _ s)
  · exact ends start.loadReservations s.loadReservations_prober
  · exact ends (start.withRecord start.releaseRecord) (State.withRecord_prober State.releaseRecord_prober s)
  · exact ends (start.withRecord start.pinRecord) (State.withRecord_prober State.pinRecord_prober s)
  · exact ends (start.withRecord start.unpinRecord) (State.withRecord_prober State.unpinRecord_prober s)
  · exact ends start.startCensus s.startCensus_prober
  · exact ends start.endCensus s.endCensus_prober
  · exact ⟨start.startSweep, s.startSweep_context⟩
  · exact ⟨(start.setProber _).finish _, rfl⟩
  · exact ends start.groupAssign s.groupAssign_prober
  · exact ends start.groupRemove s.groupRemove_prober
  · exact ends start.readGroup s.readGroup_prober
  · exact ends start.setGroupMode s.setGroupMode_prober
  · exact ends start.clearGroup s.clearGroup_prober
  · exact ends start.lineEnable s.lineEnable_prober
  · exact ends start.setBitRate s.setBitRate_prober
  · exact ends start.readRecord s.readRecord_prober
  · exact ends start.readDirectory s.readDirectory_prober
  · exact ends ((start.setDirectory _).shown _ _ _) rfl
  · exact ends (start.shown _ _ _) rfl
  · exact ends (start.shown _ _ _) rfl
  · exact ends (start.finish _) rfl

theorem State.Ties.body (h : s.Ties 0) (busy : s.port.state = .busy) (code : Nat) : (commandBody code s).Tied := by
  by_cases queued : code ∈ queueCodes
  · simp only [queueCodes, List.mem_cons, List.not_mem_nil, or_false] at queued
    rcases queued with rfl | rfl | rfl | rfl
    · exact h.clearDirectory
    · exact h.withRecord fun r => h.evictRecord busy r
    · exact h.award busy
    · exact h.lineDisable
  · obtain ⟨done, context⟩ := State.body_finishes queued s
    exact h.finishes done context

/-- In BUSY the code is lost; otherwise nothing is awaited as the command begins. -/
theorem State.Tied.takeCode (h : s.Tied) (code : Byte) : (s.takeCommand code (commandBody code.toNat)).Tied := by
  by_cases busy : s.port.state = .busy
  · rw [State.takeCommand_busy _ _ busy]
    have collided : State.Ties { s with port := { s.port with collide := true } } _ :=
      State.Ties.retain h (.of_queue rfl) rfl
    exact collided
  · rw [State.takeCommand_taken _ _ busy]
    have ready : s.Ties 0 := by
      rw [State.Tied, if_neg busy] at h
      exact h
    have begun : (s.taken code).Ties 0 := ready.retain (.of_queue rfl) rfl
    exact begun.body rfl code.toNat

/-- Port Restart withdraws a waiting claim and ceases to await a REVOKE, R171. -/
theorem State.Tied.restartPort (h : s.Tied) : s.restartPort.Tied := by
  obtain ⟨commands, probes⟩ := reportCount_detachCommand s.queue.entries
  exact State.Ties.tied (n := 0) ⟨State.Commands.of_none commands rfl, probes.trans h.probe⟩ rfl

theorem State.Tied.writeCode (h : s.Tied) (code : Byte) : (s.writeCode code).Tied := by
  unfold State.writeCode
  split
  · exact h.restartPort
  · exact h.takeCode code

theorem State.Tied.setPort (h : s.Tied) {p : Port} (standing : p.standing = s.port.standing) : (s.setPort p).Tied :=
  h.retain (State.Retains.setPort (.refl s) standing) rfl

theorem State.Tied.writeBufferByte (h : s.Tied) (data : Byte) : (s.writeBufferByte data).Tied := by
  unfold State.writeBufferByte
  split
  · exact h
  · exact h.setPort rfl

theorem State.Tied.transaction (h : s.Tied) (header : Byte) (data : List Byte) : (s.transaction header data).Tied := by
  unfold State.transaction
  split
  · unfold State.windowWrite
    split
    · exact h
    split
    · exact h.setPort rfl
    split
    · exact h.writeCode _
    split
    · exact h.setPort rfl
    split
    · unfold State.writePointer
      split
      · exact h
      · exact h.setPort rfl
    split
    · exact List.foldlRecOn _ _ h fun _ kept b _ => kept.writeBufferByte b
    · exact h
  · refine List.foldlRecOn _ _ h fun u kept _ _ => ?_
    unfold State.readWindowByte
    split
    · exact kept.setPort rfl
    · exact kept.setPort rfl

/-! ## Reception, R147 and R148 -/

theorem State.Tied.expire (h : s.Tied) (order : List EpochOwner) : (s.expire order).Tied :=
  h.retain (State.Retains.expire (.refl s) order) (expire_beside order s).context

theorem State.Tied.takeProbeReply (h : s.Tied) (a : Nat) (i : Identity) : (s.takeProbeReply a i).Tied := by
  unfold State.takeProbeReply
  split
  · split
    · exact h.endAttempt _
    · exact h
  · exact h

theorem State.Tied.handOver (h : s.Tied) (k : RequestKind) (f : Frame) : (s.handOver k f).Tied := by
  by_cases reply : k = .probeReply
  · subst reply
    exact h.takeProbeReply _ _
  · exact h.retain (State.Retains.handOver (.refl s) reply f) (congrArg _ (State.handOver_prober reply f s))

theorem State.Tied.heard (h : s.Tied) (f : Frame) : (s.heard f).Tied :=
  h.retain (State.Retains.heard (.refl s) f) (congrArg _ (s.heard_prober f))

theorem State.Tied.reline {u : State} {l : Line} {c : Nat} (h : s.Tied)
    (frame : u = { s with line := l, chance := c }) : u.Tied := frame ▸ h.onLine l c

theorem State.Tied.takeFrame (h : s.Tied) (f : Frame) : (s.takeFrame f).Tied := by
  have answered {u : State} (g : u.Tied) (b : Bool) : (u.setAcknowledged b).Tied := g.onLine _ u.chance
  unfold State.takeFrame
  split
  · exact h.retain (State.Retains.beside (.refl s) rfl rfl) rfl
  split
  · exact answered (h.heard f) false
  · refine answered (State.Tied.handOver (State.Tied.heard ?_ f) _ f) true
    split
    · exact h.retain (State.Retains.placeSetAside (.refl s)) rfl
    · exact h

theorem State.Tied.receiveFrame (h : s.Tied) (f : Frame) : (s.receiveFrame f).Tied := by
  unfold State.receiveFrame
  split
  · exact h
  split
  · exact h.reline (State.stopAtLength_frame f s)
  · have passed : (s.passFrame f).Tied := h.reline (State.passFrame_frame f s)
    exact (passed.takeFrame f).reline (State.endFrame_frame f f.check _)

theorem State.Tied.receiveInvalid (h : s.Tied) (cause : InvalidReception) : (s.receiveInvalid cause).Tied := by
  have stopped : s.stopReception.Tied := h.reline s.stopReception_frame
  unfold State.receiveInvalid
  split
  · exact h
  split
  · exact stopped.onLine _ _
  · split
    · exact stopped.onLine _ _
    · exact h
  · next f check =>
    split
    · exact h.receiveFrame f
    split
    · exact h.reline (State.stopAtLength_frame f s)
    · have passed : (s.passFrame f).Tied := h.reline (State.passFrame_frame f s)
      exact (passed.onLine { (s.passFrame f).line with acknowledged := false } _).reline
        (State.endFrame_frame f check ((s.passFrame f).setAcknowledged false))

end Commands

/-! ## Every command and every step -/

/-- What a command answers has the law. -/
def AnswersTied (o : Host.Outcome State Fault Refusal) : Prop := ∀ t, o = .next t → t.Tied

theorem State.Tied.answers {t : State} (h : t.Tied) : AnswersTied (.next t) := fun _ e => Host.Outcome.next.inj e ▸ h

section Rows

variable {s : State}

theorem reportCount_markSending (o : Originator) (priority : BitVec 2) (es : List TxEntry) :
    reportCount o (markSending priority es) = reportCount o es
      ∧ (markSending priority es).length = es.length := by
  induction es with
  | nil => exact ⟨rfl, rfl⟩
  | cons e es ih =>
    obtain ⟨count, length⟩ := ih
    unfold markSending
    split
    · exact ⟨by simp only [reportCount_cons], rfl⟩
    · exact ⟨by simp only [reportCount_cons, count], congrArg (· + 1) length⟩

theorem State.Tied.execTransmitBegin (h : s.Tied) : AnswersTied (execTransmitBegin s) := by
  unfold Machine.execTransmitBegin
  split
  · next e _ =>
    split
    · have count (o : Originator) := reportCount_markSending o e.frame.priority s.queue.entries
      refine State.Tied.answers (t := State.setQueue _ _) (State.Ties.tied ⟨⟨?_, fun waits => ?_⟩, ?_⟩ rfl)
      · rw [State.awaited_eq, State.setQueue_queue, (count _).1]
        exact h.awaited
      · have full := State.hasFreeEntry_eq_false.mp (h.waits waits)
        refine State.hasFreeEntry_eq_false.mpr ?_
        rw [State.setQueue_queue, (count .reply).2]
        exact full
      · rw [State.probeAwaits_iff, State.setQueue_queue, (count _).1]
        exact h.probe
    · exact h.answers
  · exact h.answers

theorem State.Tied.execArbitrationLost (h : s.Tied) (few : s.sendingCount ≤ 1) :
    AnswersTied (execArbitrationLost s) := by
  unfold Machine.execArbitrationLost
  split
  · next e one =>
    have lost : ((s.enterPhase .receiving).runsDrawn (s.bitsToLoss e.frame)).Tied := h.onLine _ _
    refine State.Tied.answers ?_
    split
    · exact lost.leaveQueue few one false
    · exact lost.keepEntry _
  · exact h.answers

theorem State.Tied.execEchoDifference (h : s.Tied) (few : s.sendingCount ≤ 1) :
    AnswersTied (execEchoDifference s) := by
  unfold Machine.execEchoDifference
  split
  · next e one =>
    have stopped : ((s.enterPhase .stopped).runsDrawn (s.bitsToDifference e)).Tied := h.onLine _ _
    exact (stopped.countAttempt few one).answers
  · exact h.answers

theorem State.Tied.execAcknowledgeSlot (h : s.Tied) (few : s.sendingCount ≤ 1) (dominant : Bool) :
    AnswersTied (execAcknowledgeSlot dominant s) := by
  unfold Machine.execAcknowledgeSlot
  split
  · next e one =>
    have ended : ((s.enterPhase .afterFrame).runsOf (e.frame.wholeBits e.check !dominant)).Tied := h.onLine _ s.chance
    exact (ended.settleSlot few one dominant).answers
  · exact h.answers

theorem State.Tied.changeLine (h : s.Tied) (new : LineState) : (s.changeLine new).Tied :=
  h.retain (State.Retains.changeLine (.refl s) new) (congrArg _ (State.changeLine_prober new s))

theorem State.Tied.execLineOnline (h : s.Tied) : AnswersTied (execLineOnline s) := by
  unfold Machine.execLineOnline
  split
  · refine State.Tied.answers ?_
    have online := h.changeLine .online
    generalize s.changeLine .online = u at online ⊢
    dsimp only
    have begun : u.Retains ((u.enterPhase .idle).setLine
        { (u.enterPhase .idle).line with recessiveRun := Config.settleBits }).beginEpoch :=
      State.Retains.beside (.refl u) rfl rfl
    refine online.retain (State.Retains.trans begun ?_) (congrArg _ (State.censusOnline_prober _))
    unfold State.censusOnline
    split
    · exact State.Retains.beginCensus (State.Retains.beside (.refl _) rfl rfl)
    split
    · exact State.Retains.queueCensus (.refl _)
    · exact .refl _
  · exact h.answers

theorem State.Tied.finishExpiry (h : s.Tied) : s.finishExpiry.Tied := by
  unfold State.finishExpiry
  split
  · exact h.expire []
  · exact h

theorem State.Tied.execLineFault (h : s.Tied) (few : s.sendingCount ≤ 1) : AnswersTied (execLineFault s) := by
  unfold Machine.execLineFault
  split
  · have sending : s.finishExpiry.sendingCount ≤ 1 := (State.Retains.finishExpiry (.refl s)).sending ▸ few
    have fault := (h.finishExpiry.cutOff sending).changeLine .fault
    generalize s.finishExpiry.cutOff.changeLine .fault = u at fault ⊢
    have frozen : u.Retains (u.enterPhase .idle).freezeClock := State.Retains.beside (.refl u) rfl rfl
    exact (fault.retain frozen rfl).answers
  · exact h.answers

theorem State.Tied.execFaultRecovery (h : s.Tied) : AnswersTied (execFaultRecovery s) := by
  unfold Machine.execFaultRecovery
  split
  · have settling := h.changeLine .settling
    generalize s.changeLine .settling = u at settling ⊢
    exact (settling.onLine _ u.chance).answers
  · exact h.answers

theorem State.Tied.execEpochExpiry (h : s.Tied) (order : List EpochOwner) : AnswersTied (execEpochExpiry order s) := by
  unfold Machine.execEpochExpiry
  split
  · exact (h.expire order).answers
  · exact h.answers

theorem State.Tied.row (h : s.Tied) {a : Byte} {o : EpochOwner} {c : Instr} (row : RowOf a c o) :
    AnswersTied (exec c s) := by
  rcases exec_row_cases row s with idle | ⟨-, part⟩
  · rw [idle]
    exact h.answers
  · rw [part]
    exact (h.retain (State.Retains.takePart (.refl s) o) (takePart_beside o s).context).answers

theorem State.Tied.execOfferWaitExpiry (h : s.Tied) (address : Byte) : AnswersTied (execOfferWaitExpiry address s) := by
  have context (r : Record) (o : OfferContext) : (s.expireOffer r o).prober = s.prober := by
    unfold State.expireOffer
    split
    · exact State.endRecord_prober ..
    · rfl
    · split
      · rfl
      · exact State.lapseRecord_prober ..
  unfold Machine.execOfferWaitExpiry
  split
  · split
    · refine State.Tied.answers ?_
      split
      · exact h.retain (State.Retains.outward (.refl s) (State.expireOffer_outward ..)) (congrArg _ (context _ _))
      · exact h
    · exact h.answers
  · exact h.answers

theorem State.Tied.execProbeWaitExpiry (h : s.Tied) : AnswersTied (execProbeWaitExpiry s) := by
  unfold Machine.execProbeWaitExpiry
  split
  · split
    · exact (h.endAttempt _).answers
    · exact h.answers
  · exact h.answers

theorem State.Tied.execProbeChoose (h : s.Tied) : AnswersTied (execProbeChoose s) := by
  refine State.Tied.answers ?_
  split
  · next chooses =>
    have idle : s.prober.context = none := by
      simp only [State.mayChoose, Bool.and_eq_true, Option.isNone_iff_eq_none] at chooses
      exact chooses.1.1
    exact h.choose idle
  · exact h

theorem State.Tied.execLineIdle (h : s.Tied) : AnswersTied (execLineIdle s) := by
  unfold Machine.execLineIdle
  split
  · exact State.Tied.answers (h.onLine _ _)
  · exact h.answers

theorem State.Tied.execStartMarkReceived (h : s.Tied) : AnswersTied (execStartMarkReceived s) := by
  unfold Machine.execStartMarkReceived
  split
  · exact State.Tied.answers (h.onLine _ s.chance)
  · exact h.answers

theorem State.Tied.execDestinationFieldRead (h : s.Tied) (destination : Byte) :
    AnswersTied (execDestinationFieldRead destination s) := by
  unfold Machine.execDestinationFieldRead
  split
  · have read : (s.readDestination destination.toNat).Tied :=
      h.reline (State.readDestination_frame destination.toNat s)
    exact State.Tied.answers (read.onLine _ _)
  · exact h.answers

theorem State.Tied.partReset (f g a e : Bool) (s : State) : AnswersTied (execPartReset f g a e s) :=
  State.Tied.answers (State.Tied.of_none rfl rfl rfl rfl nofun)

end Rows

theorem State.Tied.exec {s : State} (h : s.Tied) (few : s.sendingCount ≤ 1) (c : Instr) : AnswersTied (exec c s) := by
  have host (code : Byte) : AnswersTied (.next (s.takeCommand code (commandBody code.toNat))) :=
    (h.takeCode code).answers
  have received (f : Frame) : AnswersTied (.next (s.receiveFrame f)) := (h.receiveFrame f).answers
  cases c with
  | partReset f g a e => exact State.Tied.partReset f g a e s
  | frameInvalid cause => exact (h.receiveInvalid cause).answers
  | frameHeard | foreignDirectoryFrame | join | accept | renew | leave | clashReport | probeReply | resolveIdentity
  | resolveAddress | claim | groupJoin | groupLeave | groupExpand => exact received _
  | transmitBegin => exact h.execTransmitBegin
  | arbitrationLost => exact h.execArbitrationLost few
  | echoDifference => exact h.execEchoDifference few
  | acknowledgeSlot dominant => exact h.execAcknowledgeSlot few dominant
  | waitingClaimGranted => exact h.grantWaiting.answers
  | lineOnline => exact h.execLineOnline
  | lineFault => exact h.execLineFault few
  | faultRecovery => exact h.execFaultRecovery
  | epochExpiry order => exact h.execEpochExpiry order
  | lapse address => exact h.row (a := address) (o := .leaseDirectory) (.inl rfl)
  | disputeHoldExpiry address => exact h.row (a := address) (o := .leaseDirectory) (.inr rfl)
  | quarantineHoldExpiry => exact h.row (a := 0) (o := .addressPool) rfl
  | censusWindowEnd => exact h.row (a := 0) (o := .censusUnit) rfl
  | offerWaitExpiry address => exact h.execOfferWaitExpiry address
  | probeWaitExpiry => exact h.execProbeWaitExpiry
  | probeChoose => exact h.execProbeChoose
  | setParameter => exact host 0x01
  | readParameters => exact host 0x02
  | readSummary => exact host 0x03
  | acknowledgeAttention => exact host 0x04
  | reserve => exact host 0x10
  | loadReservations => exact host 0x11
  | releaseReservation => exact host 0x12
  | clearDirectory => exact host 0x20
  | evict => exact host 0x21
  | pin => exact host 0x22
  | unpin => exact host 0x23
  | award => exact host 0x24
  | startCensus => exact host 0x30
  | endCensus => exact host 0x31
  | startSweep => exact host 0x32
  | stopSweep => exact host 0x33
  | groupAssign => exact host 0x40
  | groupRemove => exact host 0x41
  | readGroup => exact host 0x42
  | setGroupMode => exact host 0x43
  | clearGroup => exact host 0x44
  | lineEnable => exact host 0x50
  | lineDisable => exact host 0x51
  | setBitRate => exact host 0x52
  | readRecord => exact host 0x60
  | readDirectory => exact host 0x61
  | collectChanges => exact host 0x62
  | readFreeList => exact host 0x63
  | readQuarantine => exact host 0x64
  | portRestart => exact h.restartPort.answers
  | badCommand code => exact (h.writeCode code).answers
  | commandWriteWhileBusy code => exact (h.writeCode code).answers
  | bufferDataRead => exact State.Tied.answers (h.setPort rfl)
  | bufferDataWrite data => exact (h.writeBufferByte data).answers
  | attentionEnablesWrite data => exact State.Tied.answers (h.setPort rfl)
  | registerWrite header data => exact (h.transaction header data).answers
  | lineIdle => exact h.execLineIdle
  | startMarkReceived => exact h.execStartMarkReceived
  | destinationFieldRead destination => exact h.execDestinationFieldRead destination

/-- With no command waiting the probe wait alone counts down, in its phase. -/
theorem State.Tied.tick {s : State} (h : s.Tied) : s.tick.Tied := by
  have counted : s.countBits.Tied := h.reline s.countBits_frame
  unfold State.tick
  generalize s.countBits = u at counted ⊢
  have phase : State.probeQueued { u with prober := { u.prober with context := u.prober.context.map .waited } } =
      u.probeQueued := by
    unfold State.probeQueued
    cases u.prober.context with
    | none => rfl
    | some c =>
      simp only [Option.map_some, ProbeContext.waited]
      cases phase : c.phase <;> simp [phase]
  obtain ⟨commands, probe⟩ := counted
  refine ⟨⟨commands.awaited, commands.waits⟩, ?_⟩
  rw [State.probeAwaits_iff] at probe ⊢
  exact probe.trans (by rw [← phase]; rfl)

/-- Settles O13: what a step does to the reports awaited, row by row, with one entry in transmission at most. -/
theorem reportsStayTiedToTheirOperations : Obligations.ReportsStayTiedToTheirOperations := by
  intro s t command probe queued stepped
  have tied : s.Tied := State.tied_iff.mpr ⟨command, probe⟩
  have few : s.sendingCount ≤ 1 := by
    obtain ⟨-, -, -, -, sending⟩ := queued
    rw [State.sendingCount, sending]
    split <;> decide
  rw [← State.tied_iff]
  unfold step at stepped
  split at stepped
  · next c rest _ =>
    have waits : State.Tied { s with pending := rest } := tied.retain (State.Retains.beside (.refl s) rfl rfl) rfl
    exact waits.exec few c t stepped
  · exact Host.Outcome.next.inj stepped ▸ tied.tick

end Sys2Proof.Machine
end

section
/-! A code written (R159, R160), the host's commands as rows of the table, Acknowledge Attention (R170), Port Restart
(R171) and Clear Directory (R168): the statements of the family "The Control Port" about them. -/

namespace Sys2Proof.Machine

/-- Settles O56. -/
theorem portRestartEndsTheCommandAndNothingElse : Obligations.PortRestartEndsTheCommandAndNothingElse := fun _ => rfl

theorem exec_clearDirectory (s : State) :
    exec .clearDirectory s = .next (s.takeCommand 0x20 State.clearDirectory) := rfl

/-- Settles O55: each block takes the value that Clear Directory gives it. -/
theorem clearDirectoryEmptiesThePartButForTheLine : Obligations.ClearDirectoryEmptiesThePartButForTheLine := by
  intro s ready
  rw [exec_clearDirectory, State.takeCommand_taken _ _ ready]
  rfl

/-! ## The codes and their rows -/

/-- The row of a code takes that code and does what the code does. -/
theorem exec_codeRow {x : Byte × Instr} (row : x ∈ codeRows) (s : State) :
    exec x.2 s = .next (s.takeCommand x.1 (commandBody x.1.toNat)) := by
  revert s
  revert x
  simp only [codeRows, List.forall_mem_cons]
  iterate 29 refine ⟨fun _ => rfl, ?_⟩
  exact nofun

/-- No row of a code is that of Port Restart, which is written in every port state. -/
theorem code_ne_restart {x : Byte × Instr} (row : x ∈ codeRows) : x.1 ≠ 0xFF := by
  revert x
  decide

theorem mem_hostCommands {c : Instr} (host : c ∈ hostCommands) : ∃ x ∈ codeRows, x.2 = c :=
  List.mem_map.mp (show c ∈ codeRows.map Prod.snd from host)

theorem commandBody_of_no_command {n : Nat} (none : commandCodes.contains n = false) :
    commandBody n = State.finish .badCommand := by
  unfold commandBody
  split
  case h_30 => rfl
  all_goals exact absurd none (by decide)

/-- A code written other than Port Restart's is taken as its command. -/
theorem State.writeCode_taken {code : Byte} (other : code ≠ 0xFF) (s : State) :
    s.writeCode code = s.takeCommand code (commandBody code.toNat) := if_neg other

/-- The row of a code, Port Restart among them, is the code written. -/
theorem exec_row_eq_writeCode {x : Byte × Instr} (row : x ∈ (0xFF, .portRestart) :: codeRows) (s : State) :
    exec x.2 s = .next (s.writeCode x.1) := by
  rcases List.mem_cons.mp row with rfl | code
  · rfl
  · rw [exec_codeRow code, State.writeCode_taken (code_ne_restart code)]

/-! ## What a command leaves of the port: the code read back, and COLLIDE -/

/-- The code read back and COLLIDE are the same. -/
def State.ReadsBack (s t : State) : Prop := t.port.code = s.port.code ∧ t.port.collide = s.port.collide

theorem State.Retains.readsBack {s t : State} (h : s.Retains t) : s.ReadsBack t :=
  ⟨congrArg (·.2.1) h.port, congrArg (·.2.2) h.port⟩

theorem State.Finishes.readsBack {s t : State} (h : s.Finishes t) : s.ReadsBack t := ⟨h.code, h.collide⟩

theorem State.Retains.commandRevoke {s t : State} (h : s.Retains t) (f : Frame) : s.ReadsBack (t.commandRevoke f) := by
  unfold State.commandRevoke
  split
  · exact (h.finish _).readsBack
  split <;> exact h.readsBack

theorem State.Retains.evictRecord {s t : State} (h : s.Retains t) (r : Record) : s.ReadsBack (t.evictRecord r) := by
  have revoked (f : Frame) : s.ReadsBack ((t.retire r).commandRevoke f) := (h.endRecord _ r).commandRevoke f
  unfold State.evictRecord
  split
  · exact (h.finish _).readsBack
  · split
    · exact revoked _
    · exact ((h.endRecord _ r).finish _).readsBack
  · exact revoked _
  · exact revoked _
  · exact revoked _

theorem State.Retains.award {s t : State} (h : s.Retains t) : s.ReadsBack t.award := by
  have finished (o : OutcomeCode) : s.ReadsBack (t.finish o) := (h.finish o).readsBack
  have recorded (r : Record) : s.ReadsBack (t.awardRecorded r) := by
    unfold State.awardRecorded
    dsimp only
    split
    · exact (h.bindRecord _).commandRevoke _
    · exact ((h.bindRecord _).finish _).readsBack
  have rival (r : Record) (i : Identity) : s.ReadsBack (t.awardRival r i) :=
    ((h.strike _).bindRecord _).commandRevoke _
  unfold State.award
  split
  · exact finished _
  split
  · exact finished _
  split
  · exact finished _
  split
  · exact recorded _
  split
  · exact finished _
  split
  · exact finished _
  · exact rival _ _

theorem State.lineDisable_readsBack (s : State) : s.ReadsBack s.lineDisable := by
  have expired := (State.Retains.finishExpiry (.refl s)).port
  have discarded : s.finishExpiry.purgeAll.discardContext.port = s.finishExpiry.port := by
    unfold State.discardContext
    split
    · rfl
    split
    · split <;> rfl
    · rfl
  unfold State.lineDisable
  generalize s.finishExpiry.purgeAll.discardContext = u at discarded ⊢
  have off := (State.Retains.changeLine (.refl u) .disabled).port
  have standing : u.lineOff.port.standing = s.port.standing := off.trans (by rw [discarded, expired])
  exact ⟨congrArg (·.2.1) standing, congrArg (·.2.2) standing⟩

/-- Whatever a command does, its code is read back and COLLIDE stays as the taking left it. -/
theorem State.body_readsBack (code : Nat) (s : State) : s.ReadsBack (commandBody code s) := by
  by_cases queued : code ∈ queueCodes
  · simp only [queueCodes, List.mem_cons, List.not_mem_nil, or_false] at queued
    have start := State.Retains.refl s
    rcases queued with rfl | rfl | rfl | rfl
    · exact ⟨rfl, rfl⟩
    · change s.ReadsBack (s.withRecord State.evictRecord)
      unfold State.withRecord
      split
      · split
        · exact start.evictRecord _
        · exact (start.finish _).readsBack
      · exact (start.finish _).readsBack
    · exact start.award
    · exact s.lineDisable_readsBack
  · exact (State.body_finishes queued s).1.readsBack

/-! ## Accesses that change the port alone -/

theorem State.foldl_port {α : Type} {f : State → α → State}
    (port : ∀ u a, f u a = { u with port := (f u a).port }) (l : List α) (s : State) :
    l.foldl f s = { s with port := (l.foldl f s).port } := by
  induction l generalizing s with
  | nil => rfl
  | cons a l ih =>
    have first := port s a
    rw [List.foldl_cons, ih, first]

theorem State.writeBufferByte_port (data : Byte) (s : State) :
    s.writeBufferByte data = { s with port := (s.writeBufferByte data).port } := by
  unfold State.writeBufferByte
  split <;> rfl

theorem State.writePointer_port (data : Byte) (s : State) :
    s.writePointer data = { s with port := (s.writePointer data).port } := by
  unfold State.writePointer
  split <;> rfl

theorem State.readWindowByte_port (offset : Nat) (s : State) :
    s.readWindowByte offset = { s with port := (s.readWindowByte offset).port } := by
  unfold State.readWindowByte
  split <;> rfl

theorem State.windowWrite_port {offset : Nat} (other : offset ≠ 8) (data : List Byte) (s : State) :
    s.windowWrite offset data = { s with port := (s.windowWrite offset data).port } := by
  unfold State.windowWrite
  split
  · rfl
  · rw [if_neg other]
    split
    · rfl
    split
    · rfl
    split
    · exact s.writePointer_port _
    split
    · exact State.foldl_port (fun u b => u.writeBufferByte_port b) _ s
    · rfl

/-- A transaction that writes no command code changes the port alone, R157. -/
theorem State.transaction_port {header : Byte} (noCode : headerWrites header = false ∨ headerOffset header ≠ 8)
    (data : List Byte) (s : State) :
    s.transaction header data = { s with port := (s.transaction header data).port } := by
  unfold State.transaction
  split
  · next writes => exact State.windowWrite_port (noCode.resolve_left (by simp [writes])) data s
  · exact State.foldl_port (fun u _ => u.readWindowByte_port _) data s

/-- Settles O57, by the row and the port state in which it comes. -/
theorem codeWritesAreTakenOrCollide : Obligations.CodeWritesAreTakenOrCollide := by
  refine ⟨?bad, ?collides, ?busy, ?acknowledges, ?taken, ?written, ?accesses, ?window⟩
  case bad =>
    intro s c ready none
    have other : c ≠ 0xFF := fun same => by
      rw [same] at none
      exact absurd none (by decide)
    change Host.Outcome.next (s.writeCode c) = _
    rw [State.writeCode_taken other, State.takeCommand_taken _ _ ready, commandBody_of_no_command none]
    rfl
  case collides =>
    intro s c busy other
    change Host.Outcome.next (s.writeCode c) = _
    rw [State.writeCode_taken other, State.takeCommand_busy _ _ busy]
  case busy =>
    intro s c busy host
    obtain ⟨x, row, rfl⟩ := mem_hostCommands host
    rw [exec_codeRow row, State.takeCommand_busy _ _ busy]
  case acknowledges =>
    intro s ready
    change Host.Outcome.next (s.takeCommand 0x04 State.acknowledgeNamed) = _
    rw [State.takeCommand_taken _ _ ready]
    rfl
  case taken =>
    intro s x ready row
    rw [exec_codeRow row, State.takeCommand_taken _ _ ready]
    exact ⟨_, rfl, (s.taken x.1).body_readsBack _⟩
  case written =>
    intro s x more row
    rw [exec_row_eq_writeCode row]
    exact ⟨rfl, rfl, rfl⟩
  case accesses =>
    intro s b
    exact ⟨⟨_, rfl, rfl⟩, ⟨_, rfl, s.writeBufferByte_port b⟩, ⟨_, rfl, rfl⟩⟩
  case window =>
    intro s h d noCode
    exact ⟨_, rfl, s.transaction_port noCode d⟩

end Sys2Proof.Machine
end

section
/-! The window (R157, R158, R169 and R174): transactions byte by byte, and the fields that the window shows; with it the
statement of the family "The Control Port" about them. -/

namespace Sys2Proof.Machine

/-! ## The header of a transaction, R174 -/

theorem toNat_byteOf (n : Nat) : (byteOf n).toNat = n % 256 := BitVec.toNat_ofNat n 8

/-- A bit of a count as a byte. -/
theorem getLsbD_byteOf {i : Nat} (inByte : i < 8) (n : Nat) : (byteOf n).getLsbD i = decide (n / 2 ^ i % 2 = 1) := by
  rw [byteOf, BitVec.getLsbD_ofNat, decide_eq_true inByte, Bool.true_and, Nat.testBit_eq_decide_div_mod_eq]

theorem headerWrites_write (off : BitVec 7) : headerWrites (byteOf (128 + off.toNat)) = true := by
  have := off.isLt
  rw [headerWrites, getLsbD_byteOf (by decide), decide_eq_true_eq]
  omega

theorem headerWrites_read (off : BitVec 7) : headerWrites (byteOf off.toNat) = false := by
  have := off.isLt
  rw [headerWrites, getLsbD_byteOf (by decide), decide_eq_false_iff_not]
  omega

theorem headerOffset_write (off : BitVec 7) : headerOffset (byteOf (128 + off.toNat)) = off.toNat := by
  have := off.isLt
  rw [headerOffset, toNat_byteOf]
  omega

theorem headerOffset_read (off : BitVec 7) : headerOffset (byteOf off.toNat) = off.toNat := by
  have := off.isLt
  rw [headerOffset, toNat_byteOf]
  omega

/-- A write transaction at an offset. -/
theorem exec_registerWrite_write (off : BitVec 7) (data : List Byte) (s : State) :
    exec (.registerWrite (byteOf (128 + off.toNat)) data) s = .next (s.windowWrite off.toNat data) := by
  change Host.Outcome.next (s.transaction _ data) = _
  rw [State.transaction_write data s (headerWrites_write off), headerOffset_write]

/-- A read transaction at an offset. -/
theorem exec_registerWrite_read (off : BitVec 7) (data : List Byte) (s : State) :
    exec (.registerWrite (byteOf off.toNat) data) s = .next (data.foldl (fun t _ => t.readWindowByte off.toNat) s) := by
  change Host.Outcome.next (s.transaction _ data) = _
  rw [State.transaction, if_neg (by simp [headerWrites_read]), headerOffset_read]

/-! ## Single accesses, R157 and R158 -/

theorem exec_bufferDataRead (s : State) : exec .bufferDataRead s = .next s.readBufferByte := rfl

theorem exec_bufferDataWrite (b : Byte) (s : State) : exec (.bufferDataWrite b) s = .next (s.writeBufferByte b) := rfl

theorem State.readBufferByte_ready {s : State} (ready : s.port.state ≠ .busy) :
    s.readBufferByte = { s with port := { s.port with
      dataOut := s.port.buffer.getD s.port.pointer.toNat 0, pointer := s.port.pointer + 1 } } := by
  simp [State.readBufferByte, State.bufferByte, ready, State.setPort]

theorem State.readBufferByte_busy {s : State} (busy : s.port.state = .busy) :
    s.readBufferByte = { s with port := { s.port with dataOut := 0 } } := by
  simp [State.readBufferByte, State.bufferByte, busy, State.setPort]

theorem State.writeBufferByte_ready {s : State} (ready : s.port.state ≠ .busy) (b : Byte) :
    s.writeBufferByte b = { s with port := { s.port with
      buffer := s.port.buffer.set s.port.pointer.toNat b, pointer := s.port.pointer + 1 } } := if_neg ready

theorem State.writeBufferByte_busy {s : State} (busy : s.port.state = .busy) (b : Byte) : s.writeBufferByte b = s :=
  if_pos busy

/-- At the buffer data offset the data bytes are written one after another. -/
theorem State.windowWrite_bufferData (data : List Byte) (s : State) :
    s.windowWrite 0x0E data = data.foldl (fun t b => t.writeBufferByte b) s := by
  cases data <;> rfl

/-- The offsets whose writes are ignored: read-only ones and those the table does not list. -/
theorem State.windowWrite_ignored {offset : Nat}
    (ignored : offset = 9 ∨ offset = 10 ∨ offset = 11 ∨ 15 ≤ offset) (data : List Byte) (s : State) :
    s.windowWrite offset data = s := by
  cases data with
  | nil => rfl
  | cons d more =>
    simp only [State.windowWrite]
    rw [if_neg (by omega), if_neg (by omega), if_neg (by omega), if_neg (by omega), if_neg (by omega)]

/-- Outside the buffer data offset a read returns the offset's value. -/
theorem State.readWindowByte_register {offset : Nat} (register : offset ≠ 0x0E) (s : State) :
    s.readWindowByte offset = s.setPort { s.port with dataOut := s.windowRead offset } := if_neg register

/-- The value read is not the byte that a read returned, so that reading on returns it again. -/
theorem State.readWindowBytes_register {offset : Nat} (register : offset ≠ 0x0E) (b : Byte) (more : List Byte)
    (s : State) : (b :: more).foldl (fun t _ => t.readWindowByte offset) s =
      s.setPort { s.port with dataOut := s.windowRead offset } := by
  have again (u : State) : (u.setPort { u.port with dataOut := u.windowRead offset }).readWindowByte offset =
      u.setPort { u.port with dataOut := u.windowRead offset } := by
    rw [State.readWindowByte_register register]
    rfl
  rw [List.foldl_cons, State.readWindowByte_register register]
  exact List.foldlRecOn (motive := fun v : State => v = s.setPort { s.port with dataOut := s.windowRead offset }) _ _
    rfl fun v same _ _ => same ▸ again s

/-- The value of an offset, by the table of R174. -/
theorem State.windowRead_table {off : BitVec 7} (register : off ≠ 0x0E) (s : State) : s.windowRead off.toNat =
    if off.toNat < 8 then s.port.parameters.getD off.toNat 0 else if off = 0x08 then s.port.code
    else if off = 0x09 then s.portStatus else if off = 0x0A then byteOf s.port.outcome.code
    else if off = 0x0B then s.attentionPending else if off = 0x0C then s.port.enables
    else if off = 0x0D then s.port.pointer else 0 := by
  have named (v : BitVec 7) : off.toNat = v.toNat ↔ off = v := BitVec.toNat_inj
  have n8 := named 0x08
  have n9 := named 0x09
  have nA := named 0x0A
  have nB := named 0x0B
  have nC := named 0x0C
  have nD := named 0x0D
  have nE := named 0x0E
  unfold State.windowRead
  simp only [← n8, ← n9, ← nA, ← nB, ← nC, ← nD]
  rw [if_neg (c := off.toNat = 0x0E) (fun same => register (nE.mp same))]
  rfl

/-! ## The status bytes and the outputs, R174 -/

/-- A flag that a byte holds as one of its bits. -/
theorem getLsbD_byteOf_flag {i n : Nat} {b : Bool} (inByte : i < 8) (flag : n / 2 ^ i % 2 = b.toNat) :
    (byteOf n).getLsbD i = b := by
  rw [getLsbD_byteOf inByte, flag]
  cases b <;> rfl

/-- The fields of the port status byte, read back. -/
theorem State.portStatus_fields (s : State) :
    s.portStatus.toNat % 4 = s.port.state.code ∧ s.portStatus.getLsbD 2 = s.port.error
      ∧ s.portStatus.getLsbD 3 = s.port.collide ∧ s.portStatus.toNat / 16 % 4 = s.line.state.code
      ∧ s.portStatus.toNat / 64 = s.census.mode.code := by
  have port : s.port.state.code ≤ 2 := by cases s.port.state <;> decide
  have line : s.line.state.code ≤ 3 := by cases s.line.state <;> decide
  have mode : s.census.mode.code ≤ 1 := by cases s.census.mode <;> decide
  have flag (n : Nat) (b : Bool) : (if b then n else 0) = n * b.toNat := by cases b <;> simp
  have error := s.port.error.toNat_le
  have collide := s.port.collide.toNat_le
  rw [State.portStatus, toNat_byteOf, flag, flag]
  refine ⟨?_, getLsbD_byteOf_flag (by decide) ?_, getLsbD_byteOf_flag (by decide) ?_, ?_, ?_⟩ <;> omega

/-- The latched causes stand in bits 0 to 5 of the attention pending byte. -/
theorem State.attentionPending_latched (s : State) : s.attentionPending &&& 0x3F = s.port.latched &&& 0x3F := by
  have level : (if s.changes then changesBit else 0) &&& (0x3F : Byte) = 0 := by cases s.changes <;> decide
  rw [State.attentionPending, BitVec.and_comm, BitVec.and_or_distrib_left, BitVec.and_comm, BitVec.and_assoc,
    BitVec.and_comm _ (if s.changes then changesBit else 0), level]
  exact BitVec.or_zero

theorem State.attentionPending_top (s : State) : s.attentionPending.getLsbD 7 = false := by
  have mask : latchedMask.getLsbD 7 = false := by decide
  have level : (if s.changes then changesBit else 0).getLsbD 7 = false := by cases s.changes <;> decide
  rw [State.attentionPending, BitVec.getLsbD_or, BitVec.getLsbD_and, mask, level, Bool.and_false, Bool.or_false]

theorem State.attentionPending_changes (s : State) : s.attentionPending.getLsbD 6 = s.changes := by
  have mask : latchedMask.getLsbD 6 = false := by decide
  have level : (if s.changes then changesBit else 0).getLsbD 6 = s.changes := by cases s.changes <;> decide
  rw [State.attentionPending, BitVec.getLsbD_or, BitVec.getLsbD_and, mask, level, Bool.and_false, Bool.false_or]

theorem State.attn_iff (s : State) : s.attn = true ↔ (s.attentionPending &&& s.port.enables) ≠ 0 := bne_iff_ne

/-- Under the law of the marks the listing is empty exactly when every mark is CLEAN, R20. -/
theorem State.Marked.changes_iff {s : State} (marked : s.Marked) :
    s.changes = true ↔ ∃ a : Nat, s.markOf a ≠ .clean := by
  obtain ⟨-, listed⟩ := marked
  unfold State.changes State.markOf
  cases marks : s.directory.marks with
  | nil => simp [markIn]
  | cons p ps =>
    obtain ⟨-, marked, -⟩ := listed p (marks ▸ List.mem_cons_self)
    exact ⟨fun _ => ⟨p.1, by simpa [markIn] using marked⟩, fun _ => rfl⟩

/-- Settles O58, by the access, the header and the field. -/
theorem windowAccessesActByteByByte : Obligations.WindowAccessesActByteByByte := by
  refine ⟨?read, ?readBusy, ?write, ?writeBusy, ?enables, ?parameter, ?pointer, ?rows, ?ignored, ?pointerBusy, ?reads,
    ?writesOn, ?readsOn, ?headerAlone, State.portStatus_fields, ?attention, ?changes, ?outputs, ?codes⟩
  case read => exact fun s ready => by rw [exec_bufferDataRead, State.readBufferByte_ready ready]
  case readBusy => exact fun s busy => by rw [exec_bufferDataRead, State.readBufferByte_busy busy]
  case write => exact fun s b ready => by rw [exec_bufferDataWrite, State.writeBufferByte_ready ready]
  case writeBusy => exact fun s b busy => by rw [exec_bufferDataWrite, State.writeBufferByte_busy busy]
  case enables =>
    intro s b
    refine ⟨_, rfl, rfl, ?_⟩
    rw [State.attn_iff, BitVec.and_assoc]
    rfl
  case parameter =>
    intro s b off more inRange
    rw [exec_registerWrite_write]
    exact congrArg Host.Outcome.next (if_pos inRange)
  case pointer => exact fun s b more ready => congrArg Host.Outcome.next (if_neg ready)
  case pointerBusy => exact fun s b more busy => congrArg Host.Outcome.next (if_pos busy)
  case rows => exact fun s b more => ⟨rfl, rfl, rfl⟩
  case ignored =>
    intro s d off ignored
    rw [exec_registerWrite_write, State.windowWrite_ignored]
    rcases ignored with rfl | rfl | rfl | high
    · exact .inl rfl
    · exact .inr (.inl rfl)
    · exact .inr (.inr (.inl rfl))
    · exact .inr (.inr (.inr high))
  case reads =>
    intro s b more off register
    have other : off.toNat ≠ 0x0E := fun same => register (BitVec.toNat_inj.mp same)
    rw [exec_registerWrite_read, State.readWindowBytes_register other, State.windowRead_table register]
    rfl
  case writesOn =>
    intro s b more u written
    obtain rfl := Host.Outcome.next.inj written
    have writes (data : List Byte) (v : State) : exec (.registerWrite 0x8E data) v =
        .next (data.foldl (fun t b => t.writeBufferByte b) v) :=
      congrArg Host.Outcome.next (State.windowWrite_bufferData data v)
    rw [writes, writes]
    rfl
  case readsOn =>
    intro s b more u read
    obtain rfl := Host.Outcome.next.inj read
    rfl
  case headerAlone =>
    intro s h
    change Host.Outcome.next (s.transaction h []) = _
    unfold State.transaction
    split <;> rfl
  case attention => exact fun s => ⟨s.attentionPending_latched, s.attentionPending_top, s.attn_iff⟩
  case changes =>
    intro s marked
    rw [State.attentionPending_changes, marked.changes_iff]
  case outputs => exact fun s => by simp [State.termOutputs, Termination.code]
  case codes => exact ⟨rfl, rfl, rfl, rfl, rfl, rfl, rfl, rfl, rfl⟩

end Sys2Proof.Machine
end

section
/-! Set Parameter and Read Parameters (R162, R176), and Evict (R165): the statements of the family
"The Control Port" about them. -/

namespace Sys2Proof.Machine

/-! ## The values of the parameters, R176 -/

theorem inRange_of_le {lo hi v : Nat} (least : lo ≤ v) (most : v ≤ hi) : inRange lo hi v = some v :=
  if_pos ⟨least, most⟩

theorem bounds_of_inRange {lo hi v n : Nat} (taken : inRange lo hi v = some n) : lo ≤ v ∧ v ≤ hi := by
  unfold inRange at taken
  split at taken
  · next bounds => exact bounds
  · exact nomatch taken

/-- A code that names a value is the value's. -/
theorem policyOf_of_le {v : Nat} (most : v ≤ 1) : ∃ c : DisputePolicy, policyOf v = some c ∧ c.code = v := by
  match v, most with
  | 0, _ => exact ⟨.hold, rfl, rfl⟩
  | 1, _ => exact ⟨.revoke, rfl, rfl⟩

theorem gateOf_of_le {v : Nat} (most : v ≤ 1) : ∃ c : Gate, gateOf v = some c ∧ c.code = v := by
  match v, most with
  | 0, _ => exact ⟨.opened, rfl, rfl⟩
  | 1, _ => exact ⟨.closed, rfl, rfl⟩

theorem switchOf_of_le {v : Nat} (most : v ≤ 1) : ∃ c : Bool, switchOf v = some c ∧ (if c then 1 else 0) = v := by
  match v, most with
  | 0, _ => exact ⟨false, rfl, rfl⟩
  | 1, _ => exact ⟨true, rfl, rfl⟩

theorem terminationOf_of_le {v : Nat} (most : v ≤ 3) :
    ∃ c : Termination, terminationOf v = some c ∧ c.code = v := by
  match v, most with
  | 0, _ => exact ⟨.openCircuit, rfl, rfl⟩
  | 1, _ => exact ⟨.high, rfl, rfl⟩
  | 2, _ => exact ⟨.mid, rfl, rfl⟩
  | 3, _ => exact ⟨.low, rfl, rfl⟩

/-- A code that names a value is one of them. -/
theorem le_of_policyOf {v : Nat} {c : DisputePolicy} (code : policyOf v = some c) : v ≤ 1 := by
  match v, code with
  | 0, _ | 1, _ => decide

theorem le_of_gateOf {v : Nat} {c : Gate} (code : gateOf v = some c) : v ≤ 1 := by
  match v, code with
  | 0, _ | 1, _ => decide

theorem le_of_switchOf {v : Nat} {c : Bool} (code : switchOf v = some c) : v ≤ 1 := by
  match v, code with
  | 0, _ | 1, _ => decide

theorem le_of_terminationOf {v : Nat} {c : Termination} (code : terminationOf v = some c) : v ≤ 3 := by
  match v, code with
  | 0, _ | 1, _ | 2, _ | 3, _ => decide

/-- An identifier with a range is one of 01h to 11h. -/
theorem parameterRange_some {id : Nat} {lh : Nat × Nat} (range : parameterRange id = some lh) :
    1 ≤ id ∧ id ≤ 17 := by
  unfold parameterRange at range
  split at range
  · exact nomatch range
  · have few := (List.getElem?_eq_some_iff.mp range).1
    simp only [List.length_cons, List.length_nil] at few
    omega

/-- A value of the range of an identifier is what the parameter then is. -/
theorem Params.set_takes {q : Params} {id v : Nat} {lh : Nat × Nat} (range : parameterRange id = some lh)
    (least : lh.1 ≤ v) (most : v ≤ lh.2) : ∃ r, q.set id v = some r ∧ r.values = q.values.set (id - 1) v := by
  have number {lo hi : Nat} (bounds : lh = (lo, hi)) : Machine.inRange lo hi v = some v := by
    subst bounds
    exact inRange_of_le least most
  have named {lo hi : Nat} (bounds : lh = (lo, hi)) : v ≤ hi := by
    subst bounds
    exact most
  obtain ⟨first, last⟩ := parameterRange_some range
  have row : ∀ {p}, some p = some lh → lh = p := fun same => (Option.some.inj same).symm
  match id, first, last, range with
  | 1, _, _, range | 2, _, _, range | 3, _, _, range | 4, _, _, range | 5, _, _, range | 6, _, _, range
  | 7, _, _, range | 8, _, _, range | 9, _, _, range | 11, _, _, range =>
    exact ⟨_, congrArg (Option.map _) (number (row range)), rfl⟩
  | 10, _, _, range =>
    obtain ⟨c, code, rfl⟩ := policyOf_of_le (named (row range))
    exact ⟨_, congrArg (Option.map _) code, rfl⟩
  | 12, _, _, range =>
    obtain ⟨c, code, rfl⟩ := switchOf_of_le (named (row range))
    exact ⟨_, congrArg (Option.map _) code, rfl⟩
  | 13, _, _, range =>
    obtain ⟨c, code, rfl⟩ := gateOf_of_le (named (row range))
    exact ⟨_, congrArg (Option.map _) code, rfl⟩
  | 14, _, _, range | 15, _, _, range | 16, _, _, range | 17, _, _, range =>
    obtain ⟨c, code, rfl⟩ := terminationOf_of_le (named (row range))
    exact ⟨_, congrArg (Option.map _) code, rfl⟩

/-- A value that is taken is in the range of its identifier. -/
theorem Params.range_of_set {q r : Params} {id v : Nat} (taken : q.set id v = some r) :
    ∃ lh, parameterRange id = some lh ∧ lh.1 ≤ v ∧ v ≤ lh.2 := by
  unfold Params.set at taken
  split at taken
  case h_18 => exact nomatch taken
  all_goals obtain ⟨c, code, -⟩ := Option.map_eq_some_iff.mp taken
  case h_10 => exact ⟨_, rfl, Nat.zero_le v, le_of_policyOf code⟩
  case h_12 => exact ⟨_, rfl, Nat.zero_le v, le_of_switchOf code⟩
  case h_13 => exact ⟨_, rfl, Nat.zero_le v, le_of_gateOf code⟩
  case h_14 | h_15 | h_16 | h_17 => exact ⟨_, rfl, Nat.zero_le v, le_of_terminationOf code⟩
  all_goals
    obtain ⟨least, most⟩ := bounds_of_inRange code
    exact ⟨_, rfl, least, most⟩

/-- A value outside it, and any for an identifier that names no parameter, is refused. -/
theorem Params.set_refuses {q : Params} {id v : Nat} (outside : ∀ lh ∈ parameterRange id, v < lh.1 ∨ lh.2 < v) :
    q.set id v = none := by
  cases taken : q.set id v with
  | none => rfl
  | some r =>
    obtain ⟨lh, range, least, most⟩ := Params.range_of_set taken
    have := outside lh range
    omega

/-! ## Set Parameter and Read Parameters, R162 -/

theorem exec_setParameter {s : State} (ready : s.port.state ≠ .busy) :
    exec .setParameter s = .next (s.taken 0x01).setParameter :=
  congrArg Host.Outcome.next (State.takeCommand_taken 0x01 State.setParameter ready)

theorem exec_readParameters {s : State} (ready : s.port.state ≠ .busy) :
    exec .readParameters s = .next (s.taken 0x02).readParameters :=
  congrArg Host.Outcome.next (State.takeCommand_taken 0x02 State.readParameters ready)

theorem State.setParameter_sets {s : State} {r : Params} (parameter : s.p 0 ≠ 0x12)
    (taken : s.params.set (s.p 0) (256 * s.p 1 + s.p 2) = some r) : s.setParameter = (s.setParams r).finish .ok := by
  simp only [State.setParameter, parameter, taken, if_false]

theorem State.setParameter_refuses {s : State} (parameter : s.p 0 ≠ 0x12)
    (refused : s.params.set (s.p 0) (256 * s.p 1 + s.p 2) = none) : s.setParameter = s.finish .badValue := by
  simp only [State.setParameter, parameter, refused, if_false]

/-- Identifier 12h is the attention enables: a value of at most 7Fh is one byte. -/
theorem State.setParameter_enables {s : State} (enables : s.p 0 = 0x12) : s.setParameter =
    if 256 * s.p 1 + s.p 2 ≤ 0x7F then (s.setPort { s.port with enables := byteOf (s.p 2) }).finish .ok
    else s.finish .badValue := by
  rw [State.setParameter, if_pos enables]
  by_cases fits : 256 * s.p 1 + s.p 2 ≤ 0x7F
  · have low : 256 * s.p 1 + s.p 2 = s.p 2 := by omega
    rw [low]
  · rw [if_neg fits, if_neg fits]

/-- Settles O43, by the identifier and the value. -/
theorem parametersAreWrittenWithinTheirRanges : Obligations.ParametersAreWrittenWithinTheirRanges := by
  refine ⟨?sets, ?refuses, ?enables, ?reads⟩
  case sets =>
    intro s lh ready range least most
    obtain ⟨r, taken, values⟩ := Params.set_takes (q := s.params) range least most
    obtain ⟨-, last⟩ := parameterRange_some range
    have parameter : (s.taken 0x01).p 0 ≠ 0x12 := fun same => by
      rw [show s.p 0 = 0x12 from same] at last
      exact absurd last (by decide)
    rw [exec_setParameter ready, State.setParameter_sets parameter taken]
    exact ⟨_, rfl, values, rfl⟩
  case refuses =>
    intro s ready parameter outside
    rw [exec_setParameter ready,
      State.setParameter_refuses (s := s.taken 0x01) parameter (Params.set_refuses outside), State.finish_taken]
  case enables =>
    intro s ready enables
    rw [exec_setParameter ready, State.setParameter_enables (s := s.taken 0x01) enables]
    exact congrArg Host.Outcome.next (if_congr .rfl rfl rfl)
  case reads =>
    intro s ready
    have fits : ((s.params.values ++ [s.port.enables.toNat]).flatMap bytesOfHalf).length ≤ 256 := by
      simp [bytesOfHalf, Params.values]
    rw [exec_readParameters ready]
    exact congrArg Host.Outcome.next (State.read_taken fits 0x02 [18] s)

/-! ## Evict, R165 -/

theorem exec_evict (s : State) :
    exec .evict s = .next (s.takeCommand 0x21 (State.withRecord State.evictRecord)) := rfl

/-- The record of an offer that was never BOUND goes back to the free list head. -/
theorem State.evictRecord_offer {r : Record} (state : r.state = .offered)
    (origin : r.offer.all (fun o => o.origin != .rebind) = true) (s : State) :
    s.evictRecord r = (s.endRecord .freeHead r).finish .ok := by
  unfold State.evictRecord
  rw [state]
  dsimp only
  split
  · next offer => simp [offer] at origin
  · rfl

/-- A record that is or was BOUND is retired, and its holder told, by identity unless that is disputed. -/
theorem State.evictRecord_retires {r : Record}
    (held : r.state = .bound ∨ r.state = .lapsed ∨ r.state = .disputed
      ∨ r.offer.any (fun o => o.origin == .rebind) = true)
    (offer : r.state = .offered ∨ r.offer = none) (s : State) :
    s.evictRecord r = (s.retire r).commandRevoke
      (if r.state = .disputed then untargetedRevoke r.address else targetedRevoke r.address r.identity) := by
  unfold State.evictRecord
  cases state : r.state with
  | bound => rfl
  | lapsed => rfl
  | disputed => rfl
  | reserved =>
    have none : r.offer = none := by simpa [state] using offer
    simp [state, none] at held
  | offered =>
    obtain ⟨o, some, origin⟩ : ∃ o, r.offer = some o ∧ o.origin = .rebind := by
      simpa [state, Option.any_eq_true] using held
    obtain ⟨origin', term, wait⟩ := o
    obtain rfl : origin' = .rebind := origin
    simp only [some]
    rfl

/-- The part with the record retired and the command taken, before its revoke. -/
def State.evicted (r : Record) (s : State) : State :=
  { s.taken 0x21 with
    directory := (s.retire r).directory
    pool := (s.retire r).pool
    groups := (s.retire r).groups }

theorem State.retire_taken (r : Record) (s : State) : (s.taken 0x21).retire r = s.evicted r := by
  rw [State.evicted, State.retire_fields, State.retire_fields]
  rfl

/-- A record retired is one that ends with its address in quarantine. -/
theorem State.ends_evicted {s t : State} {r : Record} (found : s.recordAt (s.p 0) = some r)
    (directory : t.directory = (s.evicted r).directory) (pool : t.pool = (s.evicted r).pool)
    (groups : t.groups = (s.evicted r).groups) :
    s.Ends t (s.p 0) (s.poolRetired r) (Mark.move .removed (s.markOf (s.p 0))) := by
  obtain ⟨-, address⟩ := State.mem_of_recordAt found
  rw [State.evicted, State.retire_fields] at directory pool groups
  rw [← address]
  refine ⟨?_, State.markOnly_setMark (congrArg Directory.marks directory), pool, groups⟩
  rw [directory]

/-- What Evict does with a record that is or was BOUND. -/
theorem exec_evict_retires {s : State} {r : Record} (ready : s.port.state ≠ .busy) (leased : leasable (s.p 0) = true)
    (found : s.recordAt (s.p 0) = some r)
    (held : r.state = .bound ∨ r.state = .lapsed ∨ r.state = .disputed
      ∨ r.offer.any (fun o => o.origin == .rebind) = true)
    (offer : r.state = .offered ∨ r.offer = none) :
    exec .evict s = .next ((s.evicted r).commandRevoke
      (if r.state = .disputed then untargetedRevoke (s.p 0) else targetedRevoke (s.p 0) r.identity)) := by
  obtain ⟨-, address⟩ := State.mem_of_recordAt found
  rw [exec_evict, takeCommand_withRecord 0x21 _ ready leased found, State.evictRecord_retires held offer, address,
    State.retire_taken]

/-- Settles O46, by the record's state and the line and queue the revoke meets. -/
theorem evictEndsTheRecordAndAwaitsItsRevoke : Obligations.EvictEndsTheRecordAndAwaitsItsRevoke := by
  refine ⟨?queued, ?waits, ?undelivered, ?offer, ?refused⟩
  case queued =>
    intro s r ready leased found held offer _ online free
    rw [exec_evict_retires ready leased found held offer,
      State.commandRevoke_queued (s := s.evicted r) _ online free]
    exact ⟨_, rfl, State.ends_evicted found rfl rfl rfl, rfl, rfl⟩
  case waits =>
    intro s r ready leased found held offer _ online full
    rw [exec_evict_retires ready leased found held offer,
      State.commandRevoke_waits (s := s.evicted r) _ online full]
    exact ⟨_, rfl, State.ends_evicted found rfl rfl rfl, rfl, rfl⟩
  case undelivered =>
    intro s r ready leased found held offer _ disabled
    rw [exec_evict_retires ready leased found held offer,
      State.commandRevoke_disabled (s := s.evicted r) _ disabled]
    exact ⟨_, rfl, State.ends_evicted found rfl rfl rfl, rfl⟩
  case offer =>
    intro s r ready leased found state origin
    obtain ⟨-, address⟩ := State.mem_of_recordAt found
    rw [exec_evict, takeCommand_withRecord 0x21 _ ready leased found, State.evictRecord_offer state origin,
      State.endRecord_eq, ← address]
    exact ⟨_, rfl, ⟨rfl, State.markOnly_setMark rfl, rfl, rfl⟩, rfl⟩
  case refused =>
    intro s ready refused
    rw [exec_evict]
    refine congrArg Host.Outcome.next (takeCommand_withRecord_refused 0x21 ready (fun r u reserved => ?_) refused)
    have state : r.state = .reserved := by simpa using reserved
    rw [State.evictRecord, state]

end Sys2Proof.Machine
end

section
/-! Reserve, Load Reservations and Release Reservation (R164): one reservation against the law of the addresses, the
entries of the buffer taken one after another, and what the buffer then holds. -/

namespace Sys2Proof.Machine

/-! ## One reservation, R6 and R164 -/

theorem State.statusOf_eq_held_iff {s : State} {a : Nat} : s.statusOf a = .held ↔ a ∉ s.pool.addresses := by
  have member : a ∈ s.pool.addresses ↔
      s.pool.free.contains a = true ∨ s.pool.quarantine.any (fun q => q.address == a) = true := by
    simp [Pool.addresses]
  rw [State.statusOf, member]
  split
  · next free => simp only [free, true_or, not_true_eq_false, reduceCtorEq]
  · next taken =>
    split
    · next quarantined => simp only [quarantined, or_true, not_true_eq_false, reduceCtorEq]
    · next held => simp only [taken, held, or_self, Bool.false_eq_true, not_false_eq_true]

/-- R24: an address that may be leased is held exactly where it holds a record. -/
theorem State.Placed.statusOf_eq_held_iff {s : State} {a : Nat} (placed : s.Placed) (leased : leasable a = true) :
    s.statusOf a = .held ↔ a ∈ s.addresses := by
  rw [State.statusOf_eq_held_iff]
  refine ⟨((placed.mem_iff a).mpr leased).resolve_left, fun held pooled => ?_⟩
  exact List.disjoint_of_nodup_append placed.nodup pooled held

theorem State.Placed.reserveCheck_eq {s : State} (placed : s.Placed) (e : ReservationEntry) :
    s.reserveCheck e = if s.reserveOutcome e.address e.identity e.pin = .ok then none
      else some (s.reserveOutcome e.address e.identity e.pin) := by
  unfold State.reserveCheck State.reserveOutcome
  by_cases bad : leasable e.address = false ∨ validIdentity e.identity = false ∨ 1 < e.pin
  · have given : (!(leasable e.address && validIdentity e.identity && decide (e.pin ≤ 1))) = true := by
      simpa [or_assoc] using bad
    simp only [bad, given, if_true, reduceCtorEq, if_false]
  · have given : ¬ (!(leasable e.address && validIdentity e.identity && decide (e.pin ≤ 1))) = true := by
      simpa [or_assoc, and_assoc] using bad
    have leased : leasable e.address = true := by
      simpa using fun unleased => bad (.inl unleased)
    rw [if_neg bad, if_neg given]
    simp only [placed.statusOf_eq_held_iff leased, Option.isSome_iff_ne_none, Config.maxRecords]
    by_cases held : e.address ∈ s.addresses
    · simp [held]
    · by_cases named : s.recordOf e.identity = none
      · by_cases full : 192 ≤ s.directory.records.length
        · simp [held, named, full]
        · simp [held, named, full]
      · simp [held, named]

/-- A reservation is made or refused as its outcome says. -/
theorem State.Placed.reserveOne_eq {s : State} (placed : s.Placed) (e : ReservationEntry) :
    s.reserveOne e = (s.reservedBy e, s.reserveOutcome e.address e.identity e.pin) := by
  rw [State.reserveOne, placed.reserveCheck_eq, State.reservedBy]
  by_cases passes : s.reserveOutcome e.address e.identity e.pin = .ok
  · rw [if_pos passes, if_pos passes, passes]
    rfl
  · rw [if_neg passes, if_neg passes]

theorem State.Placed.reservedBy {s : State} (placed : s.Placed) (e : ReservationEntry) : (s.reservedBy e).Placed := by
  have changes := reserveOne_changes e s
  rw [placed.reserveOne_eq] at changes
  exact changes_keep_placed changes placed

theorem State.reservedBy_of_ne {s : State} {e : ReservationEntry}
    (refused : s.reserveOutcome e.address e.identity e.pin ≠ .ok) : s.reservedBy e = s := if_neg refused

/-- A reservation reads and writes the directory and the pool alone. -/
theorem State.reservedBy_frame (s : State) (e : ReservationEntry) :
    s.reservedBy e = { s with directory := (s.reservedBy e).directory, pool := (s.reservedBy e).pool } := by
  unfold State.reservedBy
  split <;> rfl

theorem State.reservedBy_taken (code : Byte) (s : State) (e : ReservationEntry) :
    (s.taken code).reservedBy e = (s.reservedBy e).taken code := by
  have same : (s.taken code).reserveOutcome e.address e.identity e.pin = s.reserveOutcome e.address e.identity e.pin :=
    rfl
  unfold State.reservedBy
  rw [same]
  split <;> rfl

/-! ## The entries of the buffer, taken in order, R164 -/

theorem State.reserveAll_concat (es : List ReservationEntry) (e : ReservationEntry) (s : State) :
    s.reserveAll (es ++ [e]) = (((s.reserveAll es).1.reserveOne e).1,
      (s.reserveAll es).2 ++ [((s.reserveAll es).1.reserveOne e).2]) := by
  induction es generalizing s with
  | nil => rfl
  | cons d es ih =>
    simp only [List.cons_append, State.reserveAll]
    rw [ih]

theorem State.afterEntries_succ (s : State) (n : Nat) :
    s.afterEntries (n + 1) = (s.afterEntries n).reservedBy (reservationAt s.port.buffer n) := by
  simp [State.afterEntries, List.range_succ]

theorem State.Placed.afterEntries {s : State} (placed : s.Placed) (n : Nat) : (s.afterEntries n).Placed := by
  induction n with
  | zero => exact placed
  | succ n ih =>
    rw [State.afterEntries_succ]
    exact ih.reservedBy _

theorem State.afterEntries_frame (s : State) (n : Nat) :
    s.afterEntries n = { s with directory := (s.afterEntries n).directory, pool := (s.afterEntries n).pool } := by
  induction n with
  | zero => rfl
  | succ n ih =>
    rw [State.afterEntries_succ, State.reservedBy_frame]
    generalize (State.afterEntries s n).reservedBy _ = u
    rw [ih]

/-- The run of Load Reservations over its entries, and their outcomes. -/
theorem State.Placed.reserveAll_eq {s : State} (placed : s.Placed) (code : Byte) (n : Nat) :
    (s.taken code).reserveAll ((List.range n).map (reservationAt s.port.buffer)) =
      ((s.afterEntries n).taken code, (List.range n).map s.entryOutcome) := by
  induction n with
  | zero => rfl
  | succ n ih =>
    have one : ((s.afterEntries n).taken code).reserveOne (reservationAt s.port.buffer n) =
        ((s.afterEntries (n + 1)).taken code, s.entryOutcome n) := by
      have taken : ((s.afterEntries n).taken code).Placed := (placed.afterEntries n).congr rfl rfl
      rw [taken.reserveOne_eq, State.reservedBy_taken, State.afterEntries_succ]
      rfl
    rw [List.range_succ, List.map_append, List.map_append, List.map_singleton, List.map_singleton,
      State.reserveAll_concat, ih, one]

/-! ## The outcome codes in the buffer, R164 -/

theorem writeOutcomes_concat (os : List OutcomeCode) (o : OutcomeCode) (buffer : List Byte) (n : Nat) :
    writeOutcomes buffer n (os ++ [o]) =
      (writeOutcomes buffer n os).set (8 * (n + os.length) + 7) (byteOf o.code) := by
  induction os generalizing buffer n with
  | nil => rfl
  | cons p os ih =>
    rw [List.cons_append, writeOutcomes, writeOutcomes, ih, List.length_cons, Nat.add_right_comm, Nat.add_assoc n]

/-- Each of the first n entries holds its outcome in its byte 7, and every other byte is as it was. -/
theorem getD_writeOutcomes (outcome : Nat → OutcomeCode) (buffer : List Byte) (n : Nat) {k : Nat}
    (inside : k < buffer.length) :
    (writeOutcomes buffer 0 ((List.range n).map outcome)).getD k 0 =
      if k % 8 = 7 ∧ k < 8 * n then byteOf (outcome (k / 8)).code else buffer.getD k 0 := by
  induction n with
  | zero => simp [writeOutcomes]
  | succ n ih =>
    rw [List.range_succ, List.map_append, List.map_singleton, writeOutcomes_concat, List.length_map, List.length_range,
      Nat.zero_add]
    by_cases last : k = 8 * n + 7
    · have here : k % 8 = 7 ∧ k < 8 * (n + 1) := by omega
      have entry : k / 8 = n := by omega
      rw [if_pos here, entry, last, List.getD_eq_getElem?_getD, List.getElem?_set_self]
      · rfl
      · rwa [length_writeOutcomes, ← last]
    · have same : (k % 8 = 7 ∧ k < 8 * (n + 1)) ↔ (k % 8 = 7 ∧ k < 8 * n) := by omega
      rw [List.getD_eq_getElem?_getD, List.getElem?_set_ne (Ne.symm last), ← List.getD_eq_getElem?_getD, ih]
      exact if_congr same.symm rfl rfl

/-! ## The commands -/

theorem exec_reserve {s : State} (ready : s.port.state ≠ .busy) : exec .reserve s = .next (s.taken 0x10).reserve :=
  congrArg Host.Outcome.next (State.takeCommand_taken 0x10 State.reserve ready)

theorem exec_loadReservations {s : State} (ready : s.port.state ≠ .busy) :
    exec .loadReservations s = .next (s.taken 0x11).loadReservations :=
  congrArg Host.Outcome.next (State.takeCommand_taken 0x11 State.loadReservations ready)

theorem exec_releaseReservation (s : State) :
    exec .releaseReservation s = .next (s.takeCommand 0x12 (State.withRecord State.releaseRecord)) := rfl

/-- The entry that Reserve takes from the parameter bytes. -/
def State.pEntry (s : State) : ReservationEntry := { address := s.p 0, identity := s.pIdentity, pin := s.p 7 }

/-- Reserve makes its reservation and completes with its outcome. -/
theorem State.Placed.exec_reserve {s : State} (placed : s.Placed) (ready : s.port.state ≠ .busy) :
    exec .reserve s = .next { s.reservedBy s.pEntry with
      port := s.port.completed 0x10 (s.reserveOutcome (s.p 0) s.pIdentity (s.p 7)) } := by
  have taken : (s.taken 0x10).Placed := placed.congr rfl rfl
  have one := taken.reserveOne_eq s.pEntry
  rw [State.reservedBy_taken] at one
  have port : (s.reservedBy s.pEntry).port = s.port := by rw [State.reservedBy_frame]
  rw [Machine.exec_reserve ready]
  change Host.Outcome.next (((s.taken 0x10).reserveOne s.pEntry).1.finish ((s.taken 0x10).reserveOne s.pEntry).2) = _
  rw [one, State.finish_taken, port]
  rfl

/-- A reservation that passes its checks creates its record and takes its address from the pool. -/
theorem State.reservedBy_creates {s : State} {e : ReservationEntry}
    (passes : s.reserveOutcome e.address e.identity e.pin = .ok) (apart : e.address ∉ s.addresses) :
    s.Creates (s.reservedBy e) (reservedRecord e) ∧ (s.reservedBy e).pool = s.poolTaken e.address := by
  have fresh : ∀ q ∈ s.directory.records, q.address ≠ (reservedRecord e).address :=
    State.recordAt_eq_none.mp (State.recordAt_eq_none_iff.mpr apart)
  rw [State.reservedBy, if_pos passes]
  exact ⟨⟨find_insertRecord fresh, removeRecord_insertRecord _ _ fresh, rfl, rfl, State.markOnly_setMark rfl⟩,
    rfl⟩

/-- What Load Reservations does with the run over its entries. -/
theorem State.loadReservations_of_run {s t : State} {outcomes : List OutcomeCode} (least : 1 ≤ s.p 0)
    (most : s.p 0 ≤ 32)
    (run : s.reserveAll ((List.range (s.p 0)).map (reservationAt s.port.buffer)) = (t, outcomes)) :
    s.loadReservations = ((t.setPort { t.port with
      buffer := writeOutcomes s.port.buffer 0 outcomes, pointer := 0 }).setResults
        [byteOf (outcomes.filter (fun o => o == .ok)).length,
         byteOf (s.p 0 - (outcomes.filter (fun o => o == .ok)).length)]).complete .ok true := by
  rw [State.loadReservations, if_pos ⟨least, most⟩, run]

theorem State.length_filter_entryOutcome (s : State) (n : Nat) :
    (((List.range n).map s.entryOutcome).filter (fun o => o == .ok)).length = s.entriesReserved n := by
  simp [State.entriesReserved, List.filter_map, Function.comp_def]

/-- Load Reservations on 1 to 32 entries. -/
theorem State.Placed.exec_loadReservations {s : State} (placed : s.Placed) (ready : s.port.state ≠ .busy)
    (least : 1 ≤ s.p 0) (most : s.p 0 ≤ 32) :
    exec .loadReservations s = .next { s.afterEntries (s.p 0) with
      port := { s.port.answered 0x11 [byteOf (s.entriesReserved (s.p 0)),
                                      byteOf (s.p 0 - s.entriesReserved (s.p 0))] with
                buffer := writeOutcomes s.port.buffer 0 ((List.range (s.p 0)).map s.entryOutcome)
                pointer := 0 } } := by
  have port : (s.afterEntries (s.p 0)).port = s.port := by rw [State.afterEntries_frame]
  rw [Machine.exec_loadReservations ready,
    State.loadReservations_of_run (s := s.taken 0x11) least most (placed.reserveAll_eq 0x11 (s.p 0)),
    State.length_filter_entryOutcome]
  generalize s.afterEntries (s.p 0) = u at port ⊢
  have taken : u.taken 0x11 =
      { u with port := { s.port with error := false, collide := false, state := .busy, code := 0x11 } } := by
    rw [State.taken, port]
  rw [taken]
  rfl

/-- Settles O44, by the command and its checks. -/
theorem reservationsAreMadeAndReleasedByTheirChecks : Obligations.ReservationsAreMadeAndReleasedByTheirChecks := by
  refine ⟨?reserved, ?reserveRefused, ?loaded, ?loadRefused, ?released, ?releaseRefused⟩
  case reserved =>
    intro s ready placed leased valid pin apart new room
    have passes : s.reserveOutcome (s.p 0) s.pIdentity (s.p 7) = .ok := by
      simp [State.reserveOutcome, leased, valid, apart, new, Nat.not_lt.mpr pin, Nat.not_le.mpr room]
    obtain ⟨creates, pool⟩ := State.reservedBy_creates (e := s.pEntry) passes apart
    have frame := s.reservedBy_frame s.pEntry
    rw [placed.exec_reserve ready, passes]
    generalize s.reservedBy s.pEntry = u at creates pool frame ⊢
    refine ⟨_, rfl, creates, pool, ?_⟩
    rw [frame]
  case reserveRefused =>
    intro s ready placed refused
    rw [placed.exec_reserve ready, State.reservedBy_of_ne (e := s.pEntry) refused]
  case loaded =>
    intro s ready placed least most size _
    have frame := s.afterEntries_frame (s.p 0)
    rw [placed.exec_loadReservations ready least most]
    generalize s.afterEntries (s.p 0) = u at frame ⊢
    refine ⟨_, rfl, rfl, rfl, rfl, (length_writeOutcomes ..).trans size, fun k inside => ?_, ?_⟩
    · exact getD_writeOutcomes s.entryOutcome s.port.buffer (s.p 0) (size ▸ List.mem_range.mp inside)
    · rw [frame]
  case loadRefused =>
    intro s ready outside
    have bad : ¬ (1 ≤ (s.taken 0x11).p 0 ∧ (s.taken 0x11).p 0 ≤ 32) := by
      change ¬ (1 ≤ s.p 0 ∧ s.p 0 ≤ 32)
      omega
    rw [exec_loadReservations ready, State.loadReservations, if_neg bad, State.finish_taken]
  case released =>
    intro s r ready leased found state
    obtain ⟨-, address⟩ := State.mem_of_recordAt found
    rw [exec_releaseReservation, takeCommand_withRecord 0x12 _ ready leased found, State.releaseRecord, if_pos state,
      State.endRecord_eq, ← address]
    exact ⟨_, rfl, ⟨rfl, State.markOnly_setMark rfl, rfl, rfl⟩, rfl⟩
  case releaseRefused =>
    intro s ready refused
    rw [exec_releaseReservation]
    refine congrArg Host.Outcome.next (takeCommand_withRecord_refused 0x12 ready (fun r u other => ?_) refused)
    exact if_neg (by simpa using other)

end Sys2Proof.Machine
end

section
/-! Collect Changes (R167, R20): the marks split at the thirty-third, and the change entries of the first part. -/

namespace Sys2Proof.Machine

/-! ## A listing of marks, split in two -/

theorem markIn_eq_clean_of_notMem {marks : List (Nat × Mark)} {a : Nat} (unlisted : a ∉ marks.map (fun m => m.1)) :
    markIn marks a = .clean := by
  have none : marks.find? (fun m => m.1 == a) = none :=
    List.find?_eq_none.mpr fun m mem same => unlisted (List.mem_map.mpr ⟨m, mem, by simpa using same⟩)
  rw [markIn, none]

theorem markIn_append_of_notMem {first rest : List (Nat × Mark)} {a : Nat}
    (unlisted : a ∉ first.map (fun m => m.1)) : markIn (first ++ rest) a = markIn rest a := by
  have none : first.find? (fun m => m.1 == a) = none :=
    List.find?_eq_none.mpr fun m mem same => unlisted (List.mem_map.mpr ⟨m, mem, by simpa using same⟩)
  rw [markIn, markIn, List.find?_append, none, Option.none_or]

/-- What is left of the marks when the first n are collected: the collected are CLEAN. -/
theorem markIn_drop_of_mem_take {marks : List (Nat × Mark)} {n a : Nat} (nodup : (marks.map (fun m => m.1)).Nodup)
    (collected : a ∈ (marks.take n).map (fun m => m.1)) : markIn (marks.drop n) a = .clean := by
  refine markIn_eq_clean_of_notMem fun kept => ?_
  rw [← List.take_append_drop n marks, List.map_append] at nodup
  exact List.disjoint_of_nodup_append nodup collected kept

/-- The others stay. -/
theorem markIn_drop_of_notMem_take {marks : List (Nat × Mark)} {n a : Nat}
    (kept : a ∉ (marks.take n).map (fun m => m.1)) : markIn (marks.drop n) a = markIn marks a := by
  conv_rhs => rw [← List.take_append_drop n marks]
  exact (markIn_append_of_notMem kept).symm

/-! ## The change entries, section 12.3 -/

theorem length_changeEntry (a : Nat) (i : Identity) (m : Mark) : (changeEntry a i m).length = 8 := rfl

/-- The change entries of the first 32 marks. -/
def State.changeEntries (s : State) : List Byte :=
  (s.directory.marks.take 32).flatMap (fun m => changeEntry m.1 (s.changeIdentity m) m.2)

theorem State.length_changeEntries_le (s : State) : s.changeEntries.length ≤ 256 := by
  have few : (s.directory.marks.take 32).length ≤ 32 := List.length_take_le ..
  simp only [State.changeEntries, List.length_flatMap, length_changeEntry, List.map_const', List.sum_replicate,
    smul_eq_mul]
  omega

/-- Collect Changes clears the first 32 marks and shows their entries. -/
theorem exec_collectChanges {s : State} (ready : s.port.state ≠ .busy) :
    exec .collectChanges s = .next { s with
      directory := { s.directory with marks := s.directory.marks.drop 32 }
      port := s.port.shown 0x62 [byteOf (s.directory.marks.take 32).length,
        if (s.directory.marks.drop 32).isEmpty then 0 else 1] (padded s.changeEntries) } :=
  (congrArg Host.Outcome.next (State.takeCommand_taken 0x62 State.collectChanges ready)).trans
    (congrArg Host.Outcome.next (State.read_taken s.length_changeEntries_le 0x62 _
      (s.setDirectory { s.directory with marks := s.directory.marks.drop 32 })))

/-- Settles O52: the marks split at the thirty-third. -/
theorem collectChangesTakesTheFirstThirtyTwoMarks : Obligations.CollectChangesTakesTheFirstThirtyTwoMarks := by
  rintro s ready ⟨sorted, -⟩ - -
  have nodup : (s.directory.marks.map (fun m => m.1)).Nodup := sorted.imp fun less => less.ne
  have few : (s.directory.marks.take 32).length ≤ 32 := List.length_take_le ..
  refine ⟨_, exec_collectChanges ready, rfl, fun a _ => markIn_drop_of_mem_take nodup,
    fun a _ => markIn_drop_of_notMem_take, ?count, ?more, rfl, rfl, rfl, rfl⟩
  case count =>
    exact (toNat_byteOf _).trans (Nat.mod_eq_of_lt (by omega))
  case more =>
    change ((if (s.directory.marks.drop 32).isEmpty then 0 else 1 : Byte)).toNat =
      if s.directory.marks.drop 32 = [] then 0 else 1
    cases s.directory.marks.drop 32 with
    | nil => rfl
    | cons m marks => rfl

end Sys2Proof.Machine
end

section
/-! Read Record and Read Directory (R166) and the bytes of the record view (R1, section 12.3). -/

namespace Sys2Proof.Machine

/-! ## Bytes of a list at their places -/

theorem natOfBytes_singleton {n : Nat} (fits : n < 256) : natOfBytes [byteOf n] = n := by
  rw [natOfBytes, List.foldl_cons, List.foldl_nil, toNat_byteOf]
  omega

/-- Bytes that fit below a place of the buffer, zeros up to it, and the rest as it was. -/
theorem State.setBuffer_eq {bs : List Byte} {n : Nat} (fits : bs.length ≤ n) (s : State) :
    s.setBuffer bs n = { s with port := { s.port with
      buffer := (bs ++ List.replicate (n - bs.length) 0 ++ s.port.buffer.drop n).take 256, pointer := 0 } } := by
  have full : (bs ++ List.replicate (n - bs.length) (0 : Byte)).length = n := by
    rw [List.length_append, List.length_replicate]
    omega
  simp only [State.setBuffer, full]
  rfl

/-! ## The parts of the record view, section 12.3 -/

/-- Bytes 15 to 23 of the view. -/
def State.viewTail (s : State) (r : Record) : List Byte :=
  bytesOfHalf r.term ++ bytesOfHalf (r.granted.getD 0) ++ bytesOfHalf r.quiet
    ++ [byteOf r.attempts, byteOf (s.groupCountOf r.address), byteOf (r.hold.getD 0)]

/-- Bytes 0 to 8 of the view. -/
def State.viewHead (s : State) (r : Record) : List Byte :=
  [byteOf r.address, byteOf r.state.code, s.viewFlags r] ++ bytesOfIdentity r.identity

theorem length_viewRival (r : Record) : (viewRival r).length = 6 := by
  unfold viewRival
  split <;> rfl

theorem State.recordView_eq (s : State) (r : Record) :
    s.recordView r = s.viewHead r ++ (viewRival r ++ s.viewTail r) := by
  simp [State.recordView, State.viewHead, State.viewTail]

theorem State.length_recordView (s : State) (r : Record) : (s.recordView r).length = 24 := by
  rw [State.recordView_eq, List.length_append, List.length_append, length_viewRival]
  rfl

theorem State.drop_recordView_nine (s : State) (r : Record) :
    (s.recordView r).drop 9 = viewRival r ++ s.viewTail r := by
  rw [State.recordView_eq]
  rfl

/-- The rival's bytes. -/
theorem State.recordView_rival (s : State) (r : Record) : ((s.recordView r).drop 9).take 6 = viewRival r := by
  rw [State.drop_recordView_nine, List.take_left' (length_viewRival r)]

/-- The bytes after the rival's. -/
theorem State.drop_recordView (s : State) (r : Record) {m n : Nat} (place : m = 9 + (6 + n)) :
    (s.recordView r).drop m = (s.viewTail r).drop n := by
  rw [place, ← List.drop_drop, State.drop_recordView_nine, ← List.drop_drop,
    List.drop_left' (length_viewRival r)]

/-- A record without an offer shows its rival, or zeros. -/
theorem viewRival_of_none {r : Record} (offer : r.offer = none) : viewRival r = bytesOfIdentity (r.rival.getD 0) := by
  unfold viewRival
  rw [offer]
  cases r.rival <;> rfl

theorem viewRival_of_some {r : Record} {o : OfferContext} (offer : r.offer = some o) :
    viewRival r = bytesOfHalf o.term ++ [0, 0, 0, 0] := by
  unfold viewRival
  rw [offer]

/-! ## The flags byte, section 12.3 -/

/-- The code of the offer's origin, 0 with no offer. -/
def Record.originCode (r : Record) : Nat := (r.offer.map (fun o => o.origin.code)).getD 0

theorem Origin.code_le (o : Origin) : o.code ≤ 3 := by cases o <;> decide

theorem Record.originCode_le (r : Record) : r.originCode ≤ 3 := by
  unfold Record.originCode
  cases r.offer with
  | none => exact Nat.zero_le 3
  | some o => exact Origin.code_le o.origin

theorem State.viewFlags_eq (s : State) (r : Record) : s.viewFlags r =
    byteOf (r.pinned.toNat + 2 * r.rival.isSome.toNat + 4 * (s.isTarget r).toNat + 8 * r.originCode) := by
  have one (b : Bool) (n : Nat) : (if b then n else 0) = n * b.toNat := by cases b <;> simp
  unfold State.viewFlags Record.originCode
  cases r.offer with
  | none =>
    simp only [one, Nat.one_mul]
    rfl
  | some o =>
    simp only [one, Nat.one_mul]
    rfl

theorem State.isTarget_eq (s : State) (r : Record) :
    s.isTarget r = s.prober.context.any (fun c => c.target == r.address && c.identity == r.identity) := by
  unfold State.isTarget
  cases s.prober.context <;> rfl

/-- The fields of the flags byte, read back. -/
theorem State.viewFlags_fields (s : State) (r : Record) :
    (s.viewFlags r).getLsbD 0 = r.pinned ∧ (s.viewFlags r).getLsbD 1 = r.rival.isSome
      ∧ (s.viewFlags r).getLsbD 2 = s.isTarget r ∧ (s.viewFlags r).toNat / 8 = r.originCode := by
  have pinned := Bool.toNat_le r.pinned
  have rival := Bool.toNat_le r.rival.isSome
  have target := Bool.toNat_le (s.isTarget r)
  have origin := r.originCode_le
  rw [State.viewFlags_eq]
  refine ⟨getLsbD_byteOf_flag (by decide) ?_, getLsbD_byteOf_flag (by decide) ?_,
    getLsbD_byteOf_flag (by decide) ?_, ?_⟩
  · omega
  · omega
  · omega
  · rw [toNat_byteOf]
    omega

/-! ## The view's fields, read back -/

/-- The bounds of a record's counts, R1 and R13. -/
theorem Record.bounds {r : Record} (ranged : r.inRange = true) : r.term < 65536 ∧ r.granted.getD 0 < 65536
    ∧ r.quiet < 65536 ∧ r.attempts < 256 ∧ r.hold.getD 0 < 256 ∧ ∀ o ∈ r.offer, o.term < 65536 := by
  simp only [Record.inRange, Bool.and_eq_true, decide_eq_true_eq, Option.all_eq_true, termFits] at ranged
  obtain ⟨⟨⟨⟨⟨term, granted⟩, quiet⟩, attempts⟩, offer⟩, hold⟩ := ranged
  refine ⟨by omega, ?_, by omega, by omega, ?_, fun o some => ?_⟩
  · cases given : r.granted with
    | none => decide
    | some g =>
      have := granted g given
      simp only [Option.getD_some]
      omega
  · cases held : r.hold with
    | none => decide
    | some h =>
      have := hold h held
      simp only [Option.getD_some]
      omega
  · have := offer o some
    omega

/-- Bytes 15 to 23 give back the counts. -/
theorem State.viewTail_fields {s : State} {r : Record} (ranged : r.inRange = true) (groups : s.groups.length = 32) :
    natOfBytes ((s.viewTail r).take 2) = r.term ∧ natOfBytes (((s.viewTail r).drop 2).take 2) = r.granted.getD 0
      ∧ natOfBytes (((s.viewTail r).drop 4).take 2) = r.quiet
      ∧ natOfBytes (((s.viewTail r).drop 6).take 1) = r.attempts
      ∧ natOfBytes (((s.viewTail r).drop 7).take 1) = s.groupCountOf r.address
      ∧ natOfBytes (((s.viewTail r).drop 8).take 1) = r.hold.getD 0 := by
  obtain ⟨term, granted, quiet, attempts, hold, -⟩ := Record.bounds ranged
  have few : s.groupCountOf r.address < 256 := by
    have := List.length_filter_le (fun g : Group => g.members.contains r.address) s.groups
    rw [State.groupCountOf]
    omega
  exact ⟨natOfBytes_bytesOfHalf term, natOfBytes_bytesOfHalf granted, natOfBytes_bytesOfHalf quiet,
    natOfBytes_singleton attempts, natOfBytes_singleton few, natOfBytes_singleton hold⟩

/-! ## Read Record, R166 -/

theorem exec_readRecord {s : State} (ready : s.port.state ≠ .busy) :
    exec .readRecord s = .next (s.taken 0x60).readRecord :=
  congrArg Host.Outcome.next (State.takeCommand_taken 0x60 State.readRecord ready)

/-- A selector, address or identity that Read Record does not take. -/
def State.badKey (s : State) : Prop :=
  1 < s.p 0 ∨ (s.p 0 = 0 ∧ leasable (s.p 1) = false) ∨ (s.p 0 = 1 ∧ validIdentity s.pIdentity = false)

/-- The record that Read Record names. -/
def State.named (s : State) : Option Record := if s.p 0 = 0 then s.recordAt (s.p 1) else s.recordOf s.pIdentity

theorem State.badKey_iff (s : State) : s.badKey ↔ (decide (1 < s.p 0) || (s.p 0 == 0 && !leasable (s.p 1))
    || (s.p 0 == 1 && !validIdentity s.pIdentity)) = true := by
  simp [State.badKey, or_assoc]

theorem State.readRecord_bad {s : State} (bad : s.badKey) : s.readRecord = s.finish .badValue :=
  if_pos (s.badKey_iff.mp bad)

theorem State.readRecord_shows {s : State} {r : Record} (good : ¬ s.badKey) (found : s.named = some r) :
    s.readRecord = s.showRecord r := by
  rw [State.named] at found
  rw [State.readRecord, if_neg (fun bad => good (s.badKey_iff.mpr bad)), found]

theorem State.readRecord_misses {s : State} (good : ¬ s.badKey) (missing : s.named = none) :
    s.readRecord = s.finish .notFound := by
  rw [State.named] at missing
  rw [State.readRecord, if_neg (fun bad => good (s.badKey_iff.mpr bad)), missing]

/-- The view written at buffer byte 0. -/
theorem State.showRecord_taken (s : State) (r : Record) :
    (s.taken 0x60).showRecord r = { s with port := { s.port.answered 0x60 [byteOf r.address] with
      buffer := (s.recordView r ++ s.port.buffer.drop 24).take 256, pointer := 0 } } := by
  have view : ((s.taken 0x60).recordView r).length = 24 := (s.taken 0x60).length_recordView r
  rw [State.showRecord, State.setBuffer_eq (le_of_eq view), view, Nat.sub_self, List.replicate_zero, List.append_nil]
  rfl

/-! ## Read Directory, R166 -/

theorem exec_readDirectory {s : State} (ready : s.port.state ≠ .busy) :
    exec .readDirectory s = .next (s.taken 0x61).readDirectory :=
  congrArg Host.Outcome.next (State.takeCommand_taken 0x61 State.readDirectory ready)

theorem State.length_flatMap_recordView (s : State) (rs : List Record) :
    (rs.flatMap s.recordView).length = 24 * rs.length := by
  simp only [List.length_flatMap, State.length_recordView, List.map_const', List.sum_replicate, smul_eq_mul,
    Nat.mul_comm]

theorem continuation_eq (above : List Record) (n : Nat) :
    continuation (above.take n) (above.drop n) =
      if above.length ≤ n then 0 else ((above.take n).getLast?.map (fun r => r.address + 1)).getD 0 := by
  unfold continuation
  by_cases all : above.length ≤ n
  · rw [if_pos all, List.drop_eq_nil_of_le all]
    cases (above.take n).getLast? <;> rfl
  · obtain ⟨q, rest, further⟩ := List.exists_cons_of_ne_nil (mt List.drop_eq_nil_iff.mp all)
    rw [if_neg all, further]
    cases (above.take n).getLast? <;> rfl

/-- The records at and above the start address. -/
def State.above (s : State) : List Record := s.directory.records.filter (fun r => s.p 0 ≤ r.address)

/-- The views of the first n of them, zeros up to byte 239, and the results. -/
theorem State.readDirectory_taken {s : State} (leased : leasable (s.p 0) = true) (least : 1 ≤ s.p 1)
    (most : s.p 1 ≤ 10) :
    (s.taken 0x61).readDirectory = { s with port := { s.port.answered 0x61
        [byteOf (s.above.take (s.p 1)).length, byteOf (continuation (s.above.take (s.p 1)) (s.above.drop (s.p 1)))] with
      buffer := ((s.above.take (s.p 1)).flatMap s.recordView
        ++ List.replicate (240 - 24 * (s.above.take (s.p 1)).length) 0 ++ s.port.buffer.drop 240).take 256
      pointer := 0 } } := by
  have good : (leasable ((s.taken 0x61).p 0) && decide (1 ≤ (s.taken 0x61).p 1) && decide ((s.taken 0x61).p 1 ≤ 10))
      = true := by
    change (leasable (s.p 0) && decide (1 ≤ s.p 1) && decide (s.p 1 ≤ 10)) = true
    simp [leased, least, most]
  have views : ((s.above.take (s.p 1)).flatMap s.recordView).length = 24 * (s.above.take (s.p 1)).length :=
    s.length_flatMap_recordView _
  have fits : ((s.above.take (s.p 1)).flatMap s.recordView).length ≤ 240 := by
    have few : (s.above.take (s.p 1)).length ≤ s.p 1 := List.length_take_le ..
    omega
  have shown := State.setBuffer_eq fits (s.taken 0x61)
  rw [views] at shown
  rw [State.readDirectory, if_pos good]
  change State.complete .ok true
    (((s.taken 0x61).setBuffer ((s.above.take (s.p 1)).flatMap s.recordView) 240).setResults
      [byteOf (s.above.take (s.p 1)).length, byteOf (continuation (s.above.take (s.p 1)) (s.above.drop (s.p 1)))]) = _
  rw [shown]
  rfl

theorem State.readDirectory_bad {s : State} (bad : leasable (s.p 0) = false ∨ s.p 1 = 0 ∨ 10 < s.p 1) :
    s.readDirectory = s.finish .badValue := by
  have outside : ¬ (leasable (s.p 0) && decide (1 ≤ s.p 1) && decide (s.p 1 ≤ 10)) = true := by
    simp only [Bool.and_eq_true, decide_eq_true_eq]
    rintro ⟨⟨leased, least⟩, most⟩
    rcases bad with unleased | none | many
    · exact absurd leased (by simp [unleased])
    · omega
    · omega
  rw [State.readDirectory, if_neg outside]

/-- Settles O53, by the command and its checks, and by the parts of the view. -/
theorem recordReadsShowTheRecordView : Obligations.RecordReadsShowTheRecordView := by
  refine ⟨?record, ?recordRefused, ?directory, ?directoryRefused, ?view, rfl, rfl⟩
  case record =>
    intro s found r ready named key known
    have good : ¬ s.badKey := by
      rintro (many | ⟨byAddress, unleased⟩ | ⟨byIdentity, invalid⟩)
      · omega
      · rcases key with ⟨-, leased⟩ | ⟨other, -⟩
        · simp [leased] at unleased
        · omega
      · rcases key with ⟨other, -⟩ | ⟨-, valid⟩
        · omega
        · simp [valid] at invalid
    rw [exec_readRecord ready, State.readRecord_shows (s := s.taken 0x60) good (named.symm.trans known),
      State.showRecord_taken]
    exact ⟨_, rfl, rfl, rfl⟩
  case recordRefused =>
    intro s ready refused
    rw [exec_readRecord ready]
    by_cases bad : s.badKey
    · rw [State.readRecord_bad (s := s.taken 0x60) bad, State.finish_taken]
      unfold State.badKey at bad
      rw [if_pos bad]
    · have missing : s.named = none := by
        rcases refused with many | address | identity | missing
        · exact absurd (.inl many) bad
        · exact absurd (.inr (.inl address)) bad
        · exact absurd (.inr (.inr identity)) bad
        · exact missing
      rw [State.readRecord_misses (s := s.taken 0x60) bad missing, State.finish_taken]
      unfold State.badKey at bad
      rw [if_neg bad]
  case directory =>
    rintro s above ready - leased least most rfl
    have next := continuation_eq s.above (s.p 1)
    rw [exec_readDirectory ready, State.readDirectory_taken leased least most, next]
    exact ⟨_, rfl, rfl, rfl, rfl, rfl, rfl, rfl⟩
  case directoryRefused =>
    intro s ready bad
    rw [exec_readDirectory ready, State.readDirectory_bad (s := s.taken 0x61) bad, State.finish_taken]
  case view =>
    intro s r ranged _ groups
    obtain ⟨term, granted, quiet, attempts, count, hold⟩ := State.viewTail_fields ranged groups
    obtain ⟨pinned, rival, target, origin⟩ := s.viewFlags_fields r
    obtain ⟨-, -, -, -, -, offered⟩ := Record.bounds ranged
    have tail (m n : Nat) (place : m = 9 + (6 + n)) := s.drop_recordView r place
    refine ⟨s.length_recordView r, rfl, rfl, identityOfBytes_bytesOfIdentity r.identity, ?_, ?_, ?_, ?_, ?_, ?_,
      pinned, rival, target.trans (s.isTarget_eq r), origin, fun none => ?_, fun some => ?_⟩
    · rw [tail 15 0 rfl]
      exact term
    · rw [tail 17 2 rfl]
      exact granted
    · rw [tail 19 4 rfl]
      exact quiet
    · rw [tail 21 6 rfl]
      exact attempts
    · rw [tail 22 7 rfl]
      exact count
    · rw [tail 23 8 rfl]
      exact hold
    · rw [s.recordView_rival, viewRival_of_none none]
    · obtain ⟨o, offer⟩ := Option.ne_none_iff_exists'.mp some
      have nine := s.drop_recordView_nine r
      rw [viewRival_of_some offer] at nine
      have eleven := congrArg (List.drop 2) nine
      rw [List.drop_drop] at eleven
      rw [nine, offer]
      exact ⟨natOfBytes_bytesOfHalf (offered o offer), congrArg (List.take 4) eleven⟩

end Sys2Proof.Machine
end

section
/-! Read Summary (R163, section 12.5): the counts of a part within its laws fit in their bytes, and their places. -/

namespace Sys2Proof.Machine

theorem toNat_byteOf_of_lt {n : Nat} (fits : n < 256) : (byteOf n).toNat = n :=
  (toNat_byteOf n).trans (Nat.mod_eq_of_lt fits)

theorem leasable_bounds {a : Nat} (leased : leasable a = true) : 1 ≤ a ∧ a ≤ 239 := by
  rwa [leasable, Config.lastLeasable, Bool.and_eq_true, decide_eq_true_eq, decide_eq_true_eq] at leased

/-! ## The counts, R24, R5, R18 and R118 -/

/-- R24: the free list, the quarantine queue and the records hold the 239 addresses between them. -/
theorem State.Placed.count {s : State} (placed : s.Placed) :
    s.directory.records.length + s.pool.free.length + s.pool.quarantine.length = 239 := by
  obtain ⟨perm, -, -⟩ := placed
  have all := perm.length_eq
  simp only [State.places, State.addresses, List.length_append, List.length_map, List.length_range',
    Config.lastLeasable] at all
  omega

theorem State.countIn_le (s : State) (state : RecordState) : s.countIn state ≤ s.directory.records.length :=
  List.length_filter_le ..

/-- R18: at most one mark at each leasable address. -/
theorem State.Marked.length_le {s : State} (marked : s.Marked) : s.directory.marks.length ≤ 239 := by
  obtain ⟨sorted, each⟩ := marked
  have within : s.directory.marks.map (fun m => m.1) ⊆ List.range' 1 239 := by
    intro a listed
    obtain ⟨m, mem, rfl⟩ := List.mem_map.mp listed
    obtain ⟨leased, -, -⟩ := each m mem
    have bounds := leasable_bounds leased
    rw [List.mem_range'_1]
    omega
  have nodup : (s.directory.marks.map (fun m => m.1)).Nodup := sorted.imp fun less => less.ne
  simpa using (List.subperm_of_subset nodup within).length_le

/-- R118: the census window fits in a byte. -/
theorem State.Timed.window_le {s : State} (timed : s.Timed) : s.census.window ≤ 255 := by
  obtain ⟨-, -, serving, census, -⟩ := timed
  cases mode : s.census.mode with
  | serving =>
    have := serving mode
    omega
  | census => exact (census mode).2

theorem LineState.code_le (l : LineState) : l.code ≤ 3 := by cases l <;> decide

theorem Termination.code_le (c : Termination) : c.code ≤ 3 := by cases c <;> decide

theorem Mode.code_le (m : Mode) : m.code ≤ 1 := by cases m <;> decide

/-! ## The bytes of the summary, section 12.5 -/

/-- Bytes 0 to 15 of the summary. -/
def State.summaryCounts (s : State) : List Byte :=
  [byteOf (s.countIn .reserved), byteOf (s.countIn .offered), byteOf (s.countIn .bound), byteOf (s.countIn .lapsed),
   byteOf (s.countIn .disputed), byteOf s.directory.records.length, byteOf s.pool.free.length,
   byteOf s.pool.quarantine.length, byteOf s.directory.marks.length, byteOf (s.freeEntries / 256), byteOf s.freeEntries,
   byteOf s.line.state.code, byteOf s.line.bitRate, byteOf s.line.termination.code, byteOf s.census.mode.code,
   byteOf s.census.window]

/-- The code of the sweep's phase, 0 with no sweep. -/
def State.sweepPhase (s : State) : Nat := s.prober.sweep.elim 0 (fun w => if w.scanning then 1 else 2)

theorem State.sweepPhase_le (s : State) : s.sweepPhase ≤ 2 := by
  unfold State.sweepPhase
  cases s.prober.sweep with
  | none => decide
  | some w =>
    rw [Option.elim_some]
    split <;> decide

/-- Each count is below 256, so its byte is the count. -/
theorem State.Sound.summaryCounts {s : State} (sound : s.Sound) : s.summaryCounts.map (fun b => b.toNat) =
    [s.countIn .reserved, s.countIn .offered, s.countIn .bound, s.countIn .lapsed, s.countIn .disputed,
     s.directory.records.length, s.pool.free.length, s.pool.quarantine.length, s.directory.marks.length,
     s.freeEntries / 256, s.freeEntries % 256, s.line.state.code, s.line.bitRate, s.line.termination.code,
     s.census.mode.code, s.census.window] := by
  have places := sound.placed.count
  have counted (state : RecordState) : (byteOf (s.countIn state)).toNat = s.countIn state := by
    have := s.countIn_le state
    exact toNat_byteOf_of_lt (by omega)
  have records : (byteOf s.directory.records.length).toNat = s.directory.records.length :=
    toNat_byteOf_of_lt (by omega)
  have free : (byteOf s.pool.free.length).toNat = s.pool.free.length := toNat_byteOf_of_lt (by omega)
  have quarantine : (byteOf s.pool.quarantine.length).toNat = s.pool.quarantine.length :=
    toNat_byteOf_of_lt (by omega)
  have marks : (byteOf s.directory.marks.length).toNat = s.directory.marks.length :=
    toNat_byteOf_of_lt (Nat.lt_of_le_of_lt sound.marked.length_le (by decide))
  have members : (byteOf (s.freeEntries / 256)).toNat = s.freeEntries / 256 :=
    toNat_byteOf_of_lt (Nat.lt_of_le_of_lt (Nat.div_le_div_right (Nat.sub_le ..)) (by decide))
  have state : (byteOf s.line.state.code).toNat = s.line.state.code :=
    toNat_byteOf_of_lt (Nat.lt_of_le_of_lt s.line.state.code_le (by decide))
  have rate : (byteOf s.line.bitRate).toNat = s.line.bitRate := by
    obtain ⟨-, -, rate⟩ := sound.lined
    exact toNat_byteOf_of_lt (Nat.lt_of_le_of_lt rate (by decide))
  have termination : (byteOf s.line.termination.code).toNat = s.line.termination.code :=
    toNat_byteOf_of_lt (Nat.lt_of_le_of_lt s.line.termination.code_le (by decide))
  have mode : (byteOf s.census.mode.code).toNat = s.census.mode.code :=
    toNat_byteOf_of_lt (Nat.lt_of_le_of_lt s.census.mode.code_le (by decide))
  have window : (byteOf s.census.window).toNat = s.census.window :=
    toNat_byteOf_of_lt (Nat.lt_of_le_of_lt sound.timed.window_le (by decide))
  simp only [State.summaryCounts, List.map_cons, List.map_nil, counted, records, free, quarantine, marks, members,
    toNat_byteOf s.freeEntries, state, rate, termination, mode, window]

/-- The sweep's four bytes: its phase, and its cursor and passes while one is held. -/
theorem State.summarySweep_bytes (s : State) : ∃ cursor high low,
    s.summarySweep = [byteOf s.sweepPhase, cursor, high, low]
      ∧ s.prober.sweep.all (fun w => [cursor, high, low] ==
          [byteOf w.cursor, byteOf (w.passes / 256), byteOf w.passes]) = true := by
  unfold State.summarySweep State.sweepPhase
  cases s.prober.sweep with
  | none => exact ⟨_, _, _, rfl, rfl⟩
  | some w => exact ⟨_, _, _, rfl, beq_self_eq_true _⟩

/-- The probe's two bytes: its kind and its target. -/
theorem State.Probing.summaryProbe {s : State} (probing : s.Probing) : ∃ kind target, s.summaryProbe = [kind, target]
    ∧ [kind.toNat, target.toNat] =
        s.prober.context.elim [0, 0] (fun c => [if c.kind = .lapse then 1 else 2, c.target]) := by
  obtain ⟨fits, -⟩ := probing
  unfold State.summaryProbe
  cases context : s.prober.context with
  | none => exact ⟨_, _, rfl, rfl⟩
  | some c =>
    simp only [context, Option.all_some, ProbeContext.fits, Bool.and_eq_true] at fits
    obtain ⟨⟨⟨leased, -⟩, -⟩, -⟩ := fits
    have bounds := leasable_bounds leased
    have target : (byteOf c.target).toNat = c.target := toNat_byteOf_of_lt (by omega)
    refine ⟨_, _, rfl, ?_⟩
    rw [target, Option.elim_some]
    cases c.kind with
    | lapse => rfl
    | sweep => rfl

/-- The sixteen counts, the bytes of the sweep, the probe and the foreign host, and zeros to the buffer's end. -/
theorem State.padded_summary {s : State} {cursor high low kind target : Byte}
    (sweep : s.summarySweep = [byteOf s.sweepPhase, cursor, high, low]) (probe : s.summaryProbe = [kind, target]) :
    padded s.summary = s.summaryCounts ++ ([byteOf s.sweepPhase, cursor, high, low, kind, target,
      if s.line.foreign then 1 else 0] ++ List.replicate 233 0) := by
  have bytes : s.summary = s.summaryCounts ++ [byteOf s.sweepPhase, cursor, high, low, kind, target,
      if s.line.foreign then 1 else 0] := by
    rw [State.summary, sweep, probe]
    rfl
  rw [bytes, padded, List.append_assoc]
  rfl

/-- Read Summary writes the summary and draws its free values. -/
theorem exec_readSummary {s : State} (ready : s.port.state ≠ .busy) (fits : s.summary.length ≤ 256) :
    exec .readSummary s = .next { s with
      port := s.port.shown 0x03 [] (padded s.summary), chance := s.chance + 1 } := by
  have shown := State.setBuffer_padded (bs := (s.taken 0x03).summary) fits (s.taken 0x03)
  refine congrArg Host.Outcome.next ((State.takeCommand_taken 0x03 State.readSummary ready).trans ?_)
  change State.readSummary (s.taken 0x03) = _
  rw [State.readSummary, shown]
  rfl

/-- Settles O54: the counts fit in their bytes, and stand at the places of section 12.5. -/
theorem readSummaryCountsAddUp : Obligations.ReadSummaryCountsAddUp := by
  intro s ready sound
  obtain ⟨cursor, high, low, sweep, swept⟩ := s.summarySweep_bytes
  obtain ⟨kind, target, probe, probed⟩ := sound.probing.summaryProbe
  obtain ⟨-, offers⟩ := sound.limits
  have counts := sound.summaryCounts
  have buffer := State.padded_summary sweep probe
  have fits : s.summary.length ≤ 256 := by
    rw [State.summary, sweep, probe]
    exact Nat.le_of_ble_eq_true rfl
  have phase : (byteOf s.sweepPhase).toNat = s.sweepPhase :=
    toNat_byteOf_of_lt (Nat.lt_of_le_of_lt s.sweepPhase_le (by decide))
  have foreign : (if s.line.foreign then 1 else 0 : Byte).toNat = s.line.foreign.toNat := by
    cases s.line.foreign <;> rfl
  have count (k : Nat) := congrArg (fun l => l.getD k 0) counts
  rw [exec_readSummary ready fits, buffer]
  refine ⟨_, rfl, ?counts, swept, ?probe, rfl, ?total, ?offered, rfl, rfl⟩
  case counts => exact congrArg₂ (· ++ [·]) counts phase
  case probe => exact congrArg₂ (· ++ [·]) probed foreign
  case total =>
    have records : (byteOf s.directory.records.length).toNat = s.directory.records.length := count 5
    have free : (byteOf s.pool.free.length).toNat = s.pool.free.length := count 6
    have quarantine : (byteOf s.pool.quarantine.length).toNat = s.pool.quarantine.length := count 7
    change (byteOf s.directory.records.length).toNat + (byteOf s.pool.free.length).toNat
      + (byteOf s.pool.quarantine.length).toNat = 239
    rw [records, free, quarantine]
    exact sound.placed.count
  case offered =>
    have offered : (byteOf (s.countIn .offered)).toNat = s.countIn .offered := count 1
    exact offered.le.trans offers

end Sys2Proof.Machine
end

section
/-! The reset state against every law of Safety.lean, and the statement about it. -/

namespace Sys2Proof.Machine

/-- After part reset every leasable address is in the free list, R23 and R37. -/
theorem State.reset_placed : State.reset.Placed := by
  have places : State.reset.places = List.range' 1 Config.lastLeasable :=
    (List.append_nil _).trans (List.append_nil _)
  exact ⟨.of_eq places, .nil, nofun⟩

/-- No group has a member, R142. -/
theorem State.reset_grouped : State.reset.Grouped := by
  refine ⟨List.length_replicate, by decide, fun g mem => ?_⟩
  obtain rfl := List.eq_of_mem_replicate mem
  exact ⟨Nat.zero_le _, List.nodup_nil, nofun⟩

/-- Settles O3: the tables, the queue and the contexts are empty, the clock is frozen on a line that is DISABLED, and
the parameters have their defaults. -/
theorem resetStateObeysEveryLaw : Obligations.ResetStateObeysEveryLaw where
  placed := State.reset_placed
  identified := ⟨.nil, nofun⟩
  shaped := nofun
  limits := ⟨Nat.zero_le _, Nat.zero_le _⟩
  lapse := ⟨.nil, nofun, nofun⟩
  marked := ⟨.nil, nofun⟩
  paced := ⟨.nil, nofun⟩
  grouped := State.reset_grouped
  queued := ⟨Nat.zero_le _, Nat.zero_le _, rfl, nofun, rfl⟩
  command := ⟨rfl, nofun⟩
  probe := rfl
  ranged := rfl
  timed := ⟨⟨nofun, nofun⟩, rfl, fun _ => rfl, nofun, nofun⟩
  lined := ⟨fun _ => rfl, fun _ => rfl, Nat.zero_le _⟩
  probing := ⟨rfl, rfl⟩
  ported := ⟨rfl, List.length_replicate, BitVec.zero_and, BitVec.zero_and, rfl⟩

end Sys2Proof.Machine
end

section
/-! The check (R173), bit stuffing (R147) and the layout of the frames (sections 12.1 and 12.2), and the statement of
the family "Frame and Record Formats" about them. -/

namespace Sys2Proof.Machine

/-! ## The check, R173 -/

theorem crc_append (bits more : List Bool) : crc (bits ++ more) = more.foldl crcBit (crc bits) := List.foldl_append

/-- A bit equal to bit 15 only shifts the register. -/
theorem crcBit_top (r : Half) : crcBit r (r.getLsbD 15) = r <<< 1 := if_pos rfl

/-- After k shifts bit 15 holds the bit that stood k places below it. -/
theorem getLsbD_shiftLeft_top (r : Half) {k : Nat} (h : k < 16) : (r <<< k).getLsbD 15 = r.getMsbD k := by
  rw [BitVec.getLsbD_shiftLeft, BitVec.getMsbD]
  simp [h, Nat.not_lt.mpr (Nat.le_of_lt_succ h)]

/-- Fed its own bits from the top, a register only shifts: each bit is the one that bit 15 holds by then. -/
theorem foldl_crcBit_getMsbD (r : Half) {k : Nat} (h : k ≤ 16) :
    ((List.range k).map (fun i => r.getMsbD i)).foldl crcBit r = r <<< k := by
  induction k with
  | zero => simp
  | succ k ih =>
    rw [List.range_succ, List.map_append, List.foldl_append, ih (Nat.le_of_succ_le h), List.map_singleton,
      List.foldl_cons, List.foldl_nil, ← getLsbD_shiftLeft_top r h, crcBit_top, BitVec.shiftLeft_add]

/-- The register over bits followed by their own check is 0. -/
theorem crc_append_bitsOf_crc (bits : List Bool) : crc (bits ++ bitsOf (crc bits)) = 0 := by
  rw [crc_append, bitsOf, foldl_crcBit_getMsbD (crc bits) (Nat.le_refl 16)]
  exact BitVec.shiftLeft_eq_zero (Nat.le_refl 16)

/-! ## Stuffing, R147 -/

/-- What is sent for one bit after a run below seven: the bit alone while the run stays below seven, and after its
seventh bit a stuff bit that begins the next run, unless that bit is the last. -/
theorem stuffFrom_cons_cases (last b : Bool) {n c : Nat} (bs : List Bool) (short : n ≤ 6)
    (run : (if b = last then n + 1 else 1) = c) :
    (c ≤ 6 ∧ stuffFrom last n (b :: bs) = b :: stuffFrom b c bs)
      ∨ (c = 7 ∧ bs = [] ∧ stuffFrom last n (b :: bs) = [b])
      ∨ (c = 7 ∧ stuffFrom last n (b :: bs) = b :: (!b) :: stuffFrom (!b) 1 bs) := by
  have most : c ≤ 7 := by split at run <;> omega
  simp only [stuffFrom, run, Config.stuffAfter]
  by_cases seventh : c = 7
  · cases bs with
    | nil => exact .inr (.inl ⟨seventh, rfl, by simp [stuffFrom]⟩)
    | cons d ds => exact .inr (.inr ⟨seventh, by simp [seventh]⟩)
  · exact .inl ⟨by omega, by simp [seventh]⟩

theorem runsWithin_cons {last b : Bool} {n c : Nat} (most : Nat) (bs : List Bool)
    (run : (if b = last then n + 1 else 1) = c) :
    runsWithin most last n (b :: bs) = (decide (c ≤ most) && runsWithin most b c bs) := by
  rw [← run]
  rfl

theorem unstuff_cons {last b : Bool} {n c : Nat} (bs : List Bool) (run : (if b = last then n + 1 else 1) = c) :
    unstuff false last n (b :: bs) = b :: unstuff (decide (c = 7)) b c bs := by
  rw [← run]
  rfl

/-- A stuff bit begins a run of its own. -/
theorem run_not (b : Bool) (n : Nat) : (if (!b) = b then n + 1 else 1) = 1 := if_neg (Bool.not_ne_self b)

theorem runsWithin_stuffFrom (bits : List Bool) {last : Bool} {n : Nat} (short : n ≤ 6) :
    runsWithin 7 last n (stuffFrom last n bits) = true := by
  induction bits generalizing last n with
  | nil => rfl
  | cons b bs ih =>
    obtain ⟨c, run⟩ : ∃ c, (if b = last then n + 1 else 1) = c := ⟨_, rfl⟩
    rcases stuffFrom_cons_cases last b bs short run with ⟨below, sent⟩ | ⟨rfl, -, sent⟩ | ⟨rfl, sent⟩
    · rw [sent, runsWithin_cons 7 _ run, ih below, decide_eq_true (Nat.le_succ_of_le below)]
      rfl
    · rw [sent, runsWithin_cons 7 _ run]
      rfl
    · rw [sent, runsWithin_cons 7 _ run, runsWithin_cons 7 _ (run_not b 7), ih (by decide)]
      rfl

/-- The receiver drops each stuff bit, which begins the next run, and no other bit. -/
theorem unstuff_stuffFrom (bits : List Bool) {last : Bool} {n : Nat} (short : n ≤ 6) :
    unstuff false last n (stuffFrom last n bits) = bits := by
  induction bits generalizing last n with
  | nil => rfl
  | cons b bs ih =>
    obtain ⟨c, run⟩ : ∃ c, (if b = last then n + 1 else 1) = c := ⟨_, rfl⟩
    rcases stuffFrom_cons_cases last b bs short run with ⟨below, sent⟩ | ⟨rfl, rfl, sent⟩ | ⟨rfl, sent⟩
    · have other : c ≠ 7 := by omega
      rw [sent, unstuff_cons _ run, decide_eq_false other, ih below]
    · rw [sent, unstuff_cons _ run]
      rfl
    · have dropped : unstuff true b 7 ((!b) :: stuffFrom (!b) 1 bs) = bs := ih (by decide)
      rw [sent, unstuff_cons _ run, decide_eq_true rfl, dropped]

/-! ## The fields, sections 12.1 and 12.2 -/

/-- The bits of a field, most significant first. -/
theorem bitsOf_eq {w : Nat} (v : BitVec w) : bitsOf v = (List.range w).map (fun j => v.getLsbD (w - 1 - j)) :=
  List.map_congr_left fun j mem => by simp [BitVec.getMsbD, List.mem_range.mp mem]

/-- A byte of a word, as a quotient. -/
theorem byteOf_div (i : Identity) (k : Nat) : byteOf (i.toNat / 2 ^ k) = i.extractLsb' k 8 := by
  rw [byteOf, BitVec.extractLsb', Nat.shiftRight_eq_div_pow]

theorem bytesOfIdentity_eq (i : Identity) :
    bytesOfIdentity i = (List.range 6).map (fun j => i.extractLsb' (40 - 8 * j) 8) := by
  have low := byteOf_div i 0
  rw [Nat.pow_zero, Nat.div_one] at low
  simp only [bytesOfIdentity, byteOf_div, low]
  rfl

/-- The identity stands in a frame only with source 0. -/
theorem Frame.fieldBits_eq (f : Frame) : f.fieldBits = bitsOf f.priority ++ bitsOf f.source
    ++ (if f.source = 0 then bitsOf f.identity else []) ++ bitsOf f.destination ++ bitsOf f.kind
    ++ bitsOf (BitVec.ofNat 5 f.payload.length) ++ f.payload.flatMap bitsOf := by
  have zero : f.source.toNat = 0 ↔ f.source = 0 := BitVec.toNat_inj (y := 0)
  simp only [Frame.fieldBits, Frame.headBits, zero]

/-- Settles O60: the check and the stuffing by the register and the runs they carry, the rest by the layout. -/
theorem checkAndStuffingLoseNoBit : Obligations.CheckAndStuffingLoseNoBit := by
  refine ⟨⟨crc_append_bitsOf_crc, rfl⟩, ?stuffing, ?register, ?fields, ?order, ?directory, ?refusals, ?renewals,
    ?claims, ?resolutions, ?groups, ?codes⟩
  case stuffing =>
    exact fun bits => ⟨runsWithin_stuffFrom bits (Nat.zero_le 6), unstuff_stuffFrom bits (Nat.zero_le 6)⟩
  case register => exact fun bits b => crc_append bits [b]
  case fields => exact fun f => ⟨Frame.fieldBits_eq f, rfl, rfl, rfl, fun _ => rfl⟩
  case order => exact ⟨fun _ => bitsOf_eq, bytesOfIdentity_eq, fun _ => rfl⟩
  case directory => exact fun _ _ _ _ => ⟨rfl, rfl, rfl, rfl, rfl⟩
  case refusals => exact fun _ _ => rfl
  case renewals => exact fun _ _ _ => rfl
  case claims => exact fun _ _ _ _ => rfl
  case resolutions => exact fun _ _ _ _ _ => rfl
  case groups => exact fun _ _ _ _ => rfl
  case codes => exact ⟨rfl, rfl, rfl, rfl, rfl, rfl⟩

end Sys2Proof.Machine
end

section
/-! SUPPORT. What leaves the line state, the epoch under way, the census and the parameters alone: the shared
operations, the requests of the stations, the Prober, the ends of a send attempt, and reception. -/

namespace Sys2Proof.Machine

/-- What the laws of the parameters, the clock and the mode are about (R38, R118, R119, R176). -/
def State.timing (s : State) : LineState × Option Epoch × Census × Params :=
  (s.line.state, s.clock.epoch, s.census, s.params)

/-! ## The shared operations -/

@[simp] theorem State.endRecord_timing (place : Place) (r : Record) (s : State) :
    (s.endRecord place r).timing = s.timing := by
  rw [State.endRecord_eq]
  rfl

@[simp] theorem State.retire_timing (r : Record) (s : State) : (s.retire r).timing = s.timing :=
  State.endRecord_timing ..

@[simp] theorem State.lapseRecord_timing (r : Record) (s : State) : (s.lapseRecord r).timing = s.timing := by
  rw [State.lapseRecord_eq]
  rfl

@[simp] theorem State.claimOrDrop_timing (o : Originator) (f : Frame) (s : State) :
    (s.claimOrDrop o f).timing = s.timing := by
  rw [State.claimOrDrop_frame]
  rfl

@[simp] theorem State.revokeDisputed_timing (r : Record) (s : State) : (s.revokeDisputed r).timing = s.timing :=
  (State.retire_timing ..).trans (State.claimOrDrop_timing ..)

@[simp] theorem State.raiseDispute_timing (r : Record) (rival : Option Identity) (s : State) :
    (s.raiseDispute r rival).timing = s.timing := by
  unfold State.raiseDispute
  split
  · rfl
  · exact State.revokeDisputed_timing r (s.enterDisputed r rival)

@[simp] theorem State.fillRival_timing (r : Record) (i : Identity) (s : State) :
    (s.fillRival r i).timing = s.timing := by
  unfold State.fillRival
  split <;> rfl

@[simp] theorem State.takeEvidence_timing (r : Record) (i : Identity) (s : State) :
    (s.takeEvidence r i).timing = s.timing := by
  unfold State.takeEvidence
  split
  · exact State.fillRival_timing ..
  split
  · rfl
  · exact State.raiseDispute_timing ..

@[simp] theorem State.commandRevoke_timing (f : Frame) (s : State) : (s.commandRevoke f).timing = s.timing := by
  unfold State.commandRevoke
  split
  · rfl
  · split <;> rfl

@[simp] theorem State.grantWaiting_timing (s : State) : s.grantWaiting.timing = s.timing := by
  unfold State.grantWaiting
  split
  · split <;> rfl
  · rfl

@[simp] theorem State.queueCensus_timing (s : State) : s.queueCensus.timing = s.timing := by
  unfold State.queueCensus
  dsimp only
  split
  · rfl
  · exact State.claimOrDrop_timing ..

@[simp] theorem State.reserveOne_timing (e : ReservationEntry) (s : State) : (s.reserveOne e).1.timing = s.timing := by
  unfold State.reserveOne
  split <;> rfl

/-- One record after another. -/
theorem foldl_timing {α : Type} {act : State → α → State} (acts : ∀ u a, (act u a).timing = u.timing) (l : List α)
    (s : State) : (l.foldl act s).timing = s.timing :=
  List.foldlRecOn (motive := fun u : State => u.timing = s.timing) _ _ rfl fun u same a _ => (acts u a).trans same

/-! ## Heard events, R47 to R49 -/

theorem State.heard_timing (f : Frame) (s : State) : (s.heard f).timing = s.timing := by
  have stray (a : Nat) : (s.handleStray a).timing = s.timing := by
    unfold State.handleStray
    split <;> rfl
  unfold State.heard State.heardFrom
  split
  · split
    · exact stray _
    · dsimp only
      split
      · exact stray _
      · rfl
      · rfl
      · rfl
      · split <;> rfl
  · rfl

/-! ## The owners of the requests, R148 -/

theorem State.joinKnown_timing (r : Record) (requested : Nat) (s : State) :
    (s.joinKnown r requested).timing = s.timing := by
  have offers (o : Origin) : (if s.countIn .offered < Config.maxOffered then s.offerAgain o r requested
      else s.refuseJoin r.identity .busy).timing = s.timing := by
    split <;> rfl
  have resent : (s.resendOffer r).timing = s.timing := by
    unfold State.resendOffer
    split <;> rfl
  unfold State.joinKnown
  split
  · exact offers _
  · exact offers _
  · exact offers _
  · exact resent
  · rfl

theorem State.takeJoin_timing (i : Identity) (hint requested : Nat) (s : State) :
    (s.takeJoin i hint requested).timing = s.timing := by
  unfold State.takeJoin
  split
  · rfl
  split
  · rfl
  split
  · exact State.joinKnown_timing ..
  split
  · rfl
  split
  · rfl
  split <;> rfl

theorem State.takeAccept_timing (a : Nat) (i : Identity) (s : State) : (s.takeAccept a i).timing = s.timing := by
  unfold State.takeAccept
  split
  · split
    · split
      · exact foldl_timing (act := fun u q => u.endDispute q) (fun _ _ => rfl) _ _
      · exact State.claimOrDrop_timing ..
    · exact State.claimOrDrop_timing ..
  · exact State.claimOrDrop_timing ..

theorem State.takeRenew_timing (a : Nat) (i : Identity) (requested : Nat) (s : State) :
    (s.takeRenew a i requested).timing = s.timing := by
  have granted (r : Record) : (s.grantRenew r requested).timing = s.timing := by
    unfold State.grantRenew
    dsimp only
    split <;> rfl
  unfold State.takeRenew
  split
  · rfl
  · split
    · rfl
    · rfl
    · exact State.takeEvidence_timing ..
    all_goals
      split
      · exact granted _
      · exact State.takeEvidence_timing ..

theorem State.takeLeave_timing (a : Nat) (i : Identity) (s : State) : (s.takeLeave a i).timing = s.timing := by
  unfold State.takeLeave
  split
  · rfl
  · split <;> simp only [apply_ite State.timing, State.retire_timing, ite_self]

theorem State.takeClashReport_timing (a : Nat) (i : Identity) (s : State) :
    (s.takeClashReport a i).timing = s.timing := by
  unfold State.takeClashReport
  split
  · rfl
  · split <;> simp

theorem State.answerGranted_timing (a term : Nat) (groups : List Nat) (s : State) :
    (s.answerGranted a term groups).timing = s.timing := by
  change (s.addClaimGroups a groups).1.timing = s.timing
  rw [State.addClaimGroups_frame]
  rfl

theorem State.claimAgainst_timing (r : Record) (i : Identity) (term : Nat) (groups : List Nat) (s : State) :
    (s.claimAgainst r i term groups).timing = s.timing := by
  have supplanted : ((s.endRecord .passedOn r).createRecord (claimedRecord r.address i term)).timing = s.timing :=
    State.endRecord_timing ..
  unfold State.claimAgainst
  split
  · exact State.raiseDispute_timing ..
  · exact State.raiseDispute_timing ..
  · exact State.raiseDispute_timing ..
  · exact State.fillRival_timing ..
  · split
    · exact State.raiseDispute_timing ..
    · exact (State.answerGranted_timing ..).trans supplanted

theorem State.takeClaim_timing (a : Nat) (i : Identity) (requested : Nat) (groups : List Nat) (s : State) :
    (s.takeClaim a i requested groups).timing = s.timing := by
  have granted (r : Record) (term : Nat) : (s.grantClaim r term).timing = s.timing := by
    unfold State.grantClaim
    dsimp only
    split <;> rfl
  unfold State.takeClaim State.decideClaim
  dsimp only
  split
  · split
    · rfl
    split
    · split
      · rfl
      · exact State.answerGranted_timing ..
    · split
      · split
        · rfl
        · exact (State.answerGranted_timing ..).trans (granted ..)
      · exact State.claimAgainst_timing ..
  · rfl

theorem State.takeGroupJoin_timing (a g : Nat) (s : State) : (s.takeGroupJoin a g).timing = s.timing := by
  have answered (o : GroupOutcome) (u : State) : (u.answerGroup a g o).timing = u.timing := rfl
  have joined : (s.addMember g a).timing = s.timing := rfl
  simp only [State.takeGroupJoin, apply_ite State.timing, answered, joined, ite_self]

/-! ## The Prober, R90 to R98 -/

theorem State.applyOutcome_timing (c : ProbeContext) (o : ProbeOutcome) (r : Record) (s : State) :
    (s.applyOutcome c o r).timing = s.timing := by
  have failed : (s.failLapseProbe r c.attempt).timing = s.timing := by
    unfold State.failLapseProbe
    dsimp only
    split
    · rfl
    · exact State.retire_timing ..
  unfold State.applyOutcome
  split
  · split
    · rfl
    · exact State.raiseDispute_timing ..
  · exact failed
  · split
    · rfl
    · exact State.raiseDispute_timing ..
  · exact State.lapseRecord_timing ..

@[simp] theorem State.endAttempt_timing (o : ProbeOutcome) (s : State) : (s.endAttempt o).timing = s.timing := by
  have placed (c : ProbeContext) (u : State) : (u.placeDiscarded c).timing = u.timing := by
    unfold State.placeDiscarded
    split
    · split <;> rfl
    · rfl
  unfold State.endAttempt
  split
  · rfl
  split
  · exact State.applyOutcome_timing ..
  · exact placed ..

theorem State.takeProbeReply_timing (a : Nat) (i : Identity) (s : State) :
    (s.takeProbeReply a i).timing = s.timing := by
  unfold State.takeProbeReply
  split
  · split
    · exact State.endAttempt_timing ..
    · rfl
  · rfl

theorem State.discardContext_timing (s : State) : s.discardContext.timing = s.timing := by
  unfold State.discardContext
  split
  · rfl
  split
  · split <;> rfl
  · rfl

theorem State.choose_timing (s : State) : s.choose.timing = s.timing := by
  have swept (w : Sweep) : (s.sweepOn w).timing = s.timing := by
    unfold State.sweepOn
    split
    · rfl
    · rw [State.endPass_eq]
      rfl
  unfold State.choose
  split
  · split <;> rfl
  split
  · split
    · exact swept _
    · rfl
  · rfl

/-- The owners of the requests write the directory, the pool, the groups, the queue and the Prober. -/
theorem State.handOver_timing (k : RequestKind) (f : Frame) (s : State) : (s.handOver k f).timing = s.timing := by
  cases k with
  | join => exact State.takeJoin_timing ..
  | accept => exact State.takeAccept_timing ..
  | renew => exact State.takeRenew_timing ..
  | leave => exact State.takeLeave_timing ..
  | claim => exact State.takeClaim_timing ..
  | probeReply => exact State.takeProbeReply_timing ..
  | clashReport => exact State.takeClashReport_timing ..
  | groupJoin => exact State.takeGroupJoin_timing ..
  | groupLeave =>
    simp only [State.handOver, State.takeGroupLeave]
    split <;> rfl
  | groupExpand =>
    simp only [State.handOver, State.takeGroupExpand]
    split <;> rfl
  | resolveIdentity =>
    simp only [State.handOver, State.takeResolveIdentity]
    split <;> rfl
  | resolveAddress =>
    simp only [State.handOver, State.takeResolveAddress]
    split <;> rfl

/-! ## The ends of a send attempt, R151 -/

theorem State.report_timing (o : Originator) (sent : Bool) (s : State) : (s.report o sent).timing = s.timing := by
  unfold State.report
  split
  · split
    · split
      · split
        · rfl
        · exact State.endAttempt_timing ..
      · rfl
    · rfl
  all_goals rfl

theorem State.leaveQueue_timing (e : TxEntry) (sent : Bool) (s : State) : (s.leaveQueue e sent).timing = s.timing :=
  (State.report_timing ..).trans (State.grantWaiting_timing _)

theorem State.countAttempt_timing (e : TxEntry) (s : State) : (s.countAttempt e).timing = s.timing := by
  unfold State.countAttempt
  split
  · exact State.leaveQueue_timing ..
  · rfl

theorem State.settleSlot_timing (e : TxEntry) (dominant : Bool) (s : State) :
    (s.settleSlot e dominant).timing = s.timing := by
  unfold State.settleSlot
  dsimp only
  split
  · exact State.leaveQueue_timing ..
  · exact State.countAttempt_timing ..

theorem State.cutOff_timing (s : State) : s.cutOff.timing = s.timing := by
  unfold State.cutOff
  split
  · exact State.countAttempt_timing ..
  · rfl

/-! ## Reception, R147 and R154 -/

theorem State.takeFrame_timing (f : Frame) (s : State) : (s.takeFrame f).timing = s.timing := by
  unfold State.takeFrame
  split
  · rfl
  split
  · exact State.heard_timing f s
  · dsimp only
    refine (State.handOver_timing _ f _).trans ((State.heard_timing f _).trans ?_)
    split <;> rfl

theorem State.readDestination_timing (d : Nat) (s : State) : (s.readDestination d).timing = s.timing := by
  rw [State.readDestination_frame]
  rfl

theorem State.passFrame_timing (f : Frame) (s : State) : (s.passFrame f).timing = s.timing :=
  State.readDestination_timing ..

theorem State.endFrame_timing (f : Frame) (check : Half) (s : State) : (s.endFrame f check).timing = s.timing := by
  rw [State.endFrame_frame]
  rfl

theorem State.stopAtLength_timing (f : Frame) (s : State) : (s.stopAtLength f).timing = s.timing :=
  State.readDestination_timing ..

theorem State.stopReception_timing (s : State) : s.stopReception.timing = s.timing := by
  unfold State.stopReception
  dsimp only
  split <;> rfl

theorem State.receiveFrame_timing (f : Frame) (s : State) : (s.receiveFrame f).timing = s.timing := by
  unfold State.receiveFrame
  split
  · rfl
  split
  · exact State.stopAtLength_timing f s
  · exact (State.endFrame_timing ..).trans ((State.takeFrame_timing ..).trans (State.passFrame_timing f s))

theorem State.receiveInvalid_timing (cause : InvalidReception) (s : State) :
    (s.receiveInvalid cause).timing = s.timing := by
  unfold State.receiveInvalid
  split
  · rfl
  split
  · exact s.stopReception_timing
  · split
    · exact s.stopReception_timing
    · rfl
  · split
    · exact State.receiveFrame_timing ..
    split
    · exact State.stopAtLength_timing ..
    · exact (State.endFrame_timing ..).trans (State.passFrame_timing ..)

end Sys2Proof.Machine
end

section
/-! SUPPORT. The same under the host's commands that change neither the parameters, nor the census, nor the line state,
and under the transactions at the port. -/

namespace Sys2Proof.Machine

/-! ## The directory, R12, R112 to R115, R164 and R165 -/

theorem State.loadReservations_timing (s : State) : s.loadReservations.timing = s.timing := by
  have all (es : List ReservationEntry) (u : State) : (u.reserveAll es).1.timing = u.timing := by
    induction es generalizing u with
    | nil => rfl
    | cons e es ih => exact (ih _).trans (State.reserveOne_timing e u)
  unfold State.loadReservations
  dsimp only
  split
  · have run := all ((List.range (s.p 0)).map (reservationAt s.port.buffer)) s
    generalize s.reserveAll ((List.range (s.p 0)).map (reservationAt s.port.buffer)) = t at run ⊢
    exact run
  · rfl

/-- A command on the record at an address, where its action on a record leaves them alone. -/
theorem State.withRecord_timing {body : Record → State → State}
    (acts : ∀ (r : Record) (u : State), (body r u).timing = u.timing) (s : State) :
    (s.withRecord body).timing = s.timing := by
  unfold State.withRecord
  split
  · split
    · exact acts ..
    · rfl
  · rfl

theorem State.releaseRecord_timing (r : Record) (s : State) : (s.releaseRecord r).timing = s.timing := by
  unfold State.releaseRecord
  split
  · exact State.endRecord_timing ..
  · rfl

theorem State.evictRecord_timing (r : Record) (s : State) : (s.evictRecord r).timing = s.timing := by
  have revoked (f : Frame) : ((s.retire r).commandRevoke f).timing = s.timing :=
    (State.commandRevoke_timing ..).trans (State.retire_timing ..)
  unfold State.evictRecord
  split
  · rfl
  · split
    · exact revoked _
    · exact State.endRecord_timing ..
  · exact revoked _
  · exact revoked _
  · exact revoked _

theorem State.pinRecord_timing (r : Record) (s : State) : (s.pinRecord r).timing = s.timing := by
  unfold State.pinRecord
  split
  · rfl
  split
  · rfl
  split <;> rfl

theorem State.unpinRecord_timing (r : Record) (s : State) : (s.unpinRecord r).timing = s.timing := by
  unfold State.unpinRecord
  split
  · rfl
  split <;> rfl

theorem State.award_timing (s : State) : s.award.timing = s.timing := by
  have recorded (r : Record) : (s.awardRecorded r).timing = s.timing := by
    unfold State.awardRecorded
    dsimp only
    split
    · exact State.commandRevoke_timing ..
    · rfl
  have rival (r : Record) (i : Identity) : (s.awardRival r i).timing = s.timing := State.commandRevoke_timing ..
  unfold State.award
  split
  · rfl
  split
  · rfl
  split
  · rfl
  split
  · exact recorded _
  split
  · rfl
  split
  · rfl
  · exact rival ..

/-! ## Sweeps and groups, R101, R138 and R139 -/

theorem State.startSweep_timing (s : State) : s.startSweep.timing = s.timing := by
  unfold State.startSweep
  split
  · split <;> rfl
  · rfl

theorem State.groupAssign_timing (s : State) : s.groupAssign.timing = s.timing := by
  rw [State.groupAssign_eq]
  split <;> rfl

theorem State.groupRemove_timing (s : State) : s.groupRemove.timing = s.timing := by
  unfold State.groupRemove
  dsimp only
  split
  · rfl
  split <;> rfl

theorem State.readGroup_timing (s : State) : s.readGroup.timing = s.timing := by
  unfold State.readGroup
  dsimp only
  split <;> rfl

theorem State.setGroupMode_timing (s : State) : s.setGroupMode.timing = s.timing := by
  unfold State.setGroupMode
  dsimp only
  split
  · split <;> rfl
  · rfl

theorem State.clearGroup_timing (s : State) : s.clearGroup.timing = s.timing := by
  unfold State.clearGroup
  dsimp only
  split
  · exact foldl_timing (act := fun u a => u.note .altered a) (fun _ _ => rfl) _ _
  · rfl

/-! ## Reads and the bit rate, R145 and R166 -/

theorem State.readRecord_timing (s : State) : s.readRecord.timing = s.timing := by
  unfold State.readRecord
  dsimp only
  split
  · rfl
  split <;> rfl

theorem State.readDirectory_timing (s : State) : s.readDirectory.timing = s.timing := by
  unfold State.readDirectory
  dsimp only
  split <;> rfl

theorem State.setBitRate_timing (s : State) : s.setBitRate.timing = s.timing := by
  unfold State.setBitRate
  split
  · rfl
  split <;> rfl

/-! ## The port, R157 and R158 -/

theorem State.writeBufferByte_timing (data : Byte) (s : State) : (s.writeBufferByte data).timing = s.timing := by
  unfold State.writeBufferByte
  split <;> rfl

theorem State.writePointer_timing (data : Byte) (s : State) : (s.writePointer data).timing = s.timing := by
  unfold State.writePointer
  split <;> rfl

theorem State.readWindowByte_timing (offset : Nat) (s : State) : (s.readWindowByte offset).timing = s.timing := by
  rw [State.readWindowByte_frame]
  rfl

end Sys2Proof.Machine
end

section
/-! The laws of the parameters, the clock and the mode (R176, R38, R118, R119) under whatever writes a parameter, the
clock, the census or the line state, and under every command and step; with them the statement about every step. -/

namespace Sys2Proof.Machine

/-- Every parameter in its range, and the clock and the mode in law. -/
structure State.Regular (s : State) : Prop where
  ranged : s.Ranged
  timed : s.Timed

/-- The laws are about nothing else than the line state, the epoch, the census and the parameters. -/
theorem State.Regular.congr {s t : State} (h : s.Regular) (same : t.timing = s.timing) : t.Regular := by
  simp only [State.timing, Prod.mk.injEq] at same
  obtain ⟨state, epoch, census, params⟩ := same
  refine ⟨?_, ?_⟩
  · simpa only [State.Ranged, params] using h.ranged
  · simpa only [State.Timed, state, epoch, census] using h.timed

/-- The window is 0 in SERVING and 1 to 255 in CENSUS, R118. -/
def Census.Windowed (c : Census) : Prop :=
  (c.mode = .serving → c.window = 0) ∧ (c.mode = .census → 1 ≤ c.window ∧ c.window ≤ 255)

section Blocks

variable {s t : State}

theorem State.Regular.windowed (h : s.Regular) : s.census.Windowed := by
  obtain ⟨-, -, serving, census, -⟩ := h.timed
  exact ⟨serving, census⟩

/-- A window in law, with no autostart that was not pending before. -/
theorem State.Regular.withCensus {c : Census} (h : s.Regular) (windowed : c.Windowed)
    (autostart : c.autostart = true → s.census.autostart = true) : (s.setCensus c).Regular := by
  obtain ⟨runs, fits, -, -, pending⟩ := h.timed
  obtain ⟨serving, census⟩ := windowed
  exact ⟨h.ranged, runs, fits, serving, census, fun set => pending (autostart set)⟩

/-- The line ONLINE, an epoch under way and no autostart pending. -/
theorem State.Regular.of_online {e : Epoch} (ranged : s.Ranged) (windowed : s.census.Windowed)
    (online : s.line.state = .online) (epoch : s.clock.epoch = some e) (fits : e.fits = true)
    (none : s.census.autostart = false) : s.Regular := by
  obtain ⟨serving, census⟩ := windowed
  refine ⟨ranged, ⟨fun _ => online, fun _ => by rw [epoch]; rfl⟩, by rwa [epoch], serving, census, fun set => ?_⟩
  rw [none] at set
  exact nomatch set

/-- The line not ONLINE and the clock frozen, R39. -/
theorem State.Regular.of_offline (ranged : s.Ranged) (windowed : s.census.Windowed) (offline : s.line.state ≠ .online)
    (frozen : s.clock.epoch = none) : s.Regular := by
  obtain ⟨serving, census⟩ := windowed
  refine ⟨ranged, ⟨fun runs => ?_, fun online => absurd online offline⟩, by rw [frozen]; rfl, serving, census,
    fun _ => offline⟩
  rw [frozen] at runs
  exact nomatch runs

theorem State.Regular.frozen (h : s.Regular) (offline : s.line.state ≠ .online) : s.clock.epoch = none := by
  obtain ⟨⟨runs, -⟩, -⟩ := h.timed
  exact Option.not_isSome_iff_eq_none.mp fun some => offline (runs some)

theorem State.Regular.no_autostart (h : s.Regular) (online : s.line.state = .online) : s.census.autostart = false := by
  obtain ⟨-, -, -, -, pending⟩ := h.timed
  exact Bool.eq_false_iff.mpr fun set => pending set online

/-- The bounds of the two parameters that the clock and the census take. -/
theorem State.Ranged.bounds (h : s.Ranged) : (1 ≤ s.params.epochPeriod ∧ s.params.epochPeriod ≤ 255)
    ∧ 1 ≤ s.params.censusWindow ∧ s.params.censusWindow ≤ 255 := by
  simp only [State.Ranged, Params.inRange, Bool.and_eq_true, decide_eq_true_eq] at h
  omega

/-- An epoch begins at full length with the present period, R40. -/
theorem State.Ranged.newEpoch_fits (h : s.Ranged) :
    Epoch.fits { period := s.params.epochPeriod, left := Config.ticksPerTenth * s.params.epochPeriod } = true := by
  obtain ⟨⟨least, most⟩, -⟩ := h.bounds
  simp [Epoch.fits, least, most]

/-! ## The census, R119 to R123 -/

/-- A census begins with the window of its parameter, R120. -/
theorem State.Ranged.windowed_begun (h : s.Ranged) (autostart : Bool) :
    Census.Windowed { mode := .census, window := s.params.censusWindow, autostart := autostart } :=
  ⟨nofun, fun _ => h.bounds.2⟩

theorem Census.Windowed.serving (autostart : Bool) :
    Census.Windowed { mode := .serving, window := 0, autostart := autostart } := ⟨fun _ => rfl, nofun⟩

theorem State.Regular.beginCensus (h : s.Regular) : s.beginCensus.Regular :=
  (h.withCensus (h.ranged.windowed_begun s.census.autostart) id).congr (State.queueCensus_timing _)

theorem State.Regular.finishCensus (h : s.Regular) : s.finishCensus.Regular :=
  State.Regular.congr (h.withCensus (Census.Windowed.serving s.census.autostart) id) rfl

theorem Census.Windowed.epochAged {c : Census} (h : c.Windowed) : c.epochAged.Windowed := by
  have ⟨_, inCensus⟩ := h
  unfold Census.epochAged
  split
  · exact h
  · next mode =>
    split
    · next goesOn =>
      have ⟨_, most⟩ := inCensus mode
      exact ⟨fun serving => (nomatch mode.symm.trans serving),
        fun _ => ⟨Nat.le_sub_one_of_lt goesOn, (Nat.sub_le ..).trans most⟩⟩
    · exact .serving c.autostart

theorem Census.epochAged_autostart (c : Census) : c.epochAged.autostart = c.autostart := by
  unfold Census.epochAged
  split
  · rfl
  · split <;> rfl

/-! ## The clock, R38 to R41 -/

theorem State.directoryPart_timing (s : State) : s.directoryPart.timing = s.timing := by
  have aged : s.ageTerms.timing = s.timing :=
    foldl_timing (act := fun u r => u.lapseRecord r) (fun u r => State.lapseRecord_timing r u) _ _
  have held : s.ageTerms.countQuiet.countHolds.timing = s.ageTerms.timing :=
    foldl_timing (act := fun u r => u.revokeDisputed r) (fun u r => State.revokeDisputed_timing r u) _ _
  exact held.trans aged

/-- Of the four owners the Census Unit alone reaches what the laws are about, R122. -/
theorem State.partOf_timing (o : EpochOwner) (s : State) :
    (s.partOf o).timing = s.timing ∨ (s.partOf o).timing = (s.setCensus s.census.epochAged).timing := by
  cases o with
  | leaseDirectory => exact .inl s.directoryPart_timing
  | addressPool => exact .inl rfl
  | prober =>
    rw [State.partOf, State.proberPart_frame]
    exact .inl rfl
  | censusUnit =>
    rw [State.partOf, State.censusPart_frame, State.censusPart_census]
    exact .inr rfl

theorem State.Regular.partOf (h : s.Regular) (o : EpochOwner) : (s.partOf o).Regular := by
  rcases s.partOf_timing o with same | aged
  · exact h.congr same
  · refine State.Regular.congr (h.withCensus h.windowed.epochAged fun set => ?_) aged
    rwa [Census.epochAged_autostart] at set

theorem State.Regular.takePart (h : s.Regular) (o : EpochOwner) : (s.takePart o).Regular := by
  have epoch : (s.partOf o).clock.epoch = s.clock.epoch := by
    rcases s.partOf_timing o with same | aged
    · exact congrArg (fun w => w.2.1) same
    · exact congrArg (fun w => w.2.1) aged
  unfold State.takePart
  split
  · exact h
  · exact (h.partOf o).congr (by simp only [State.timing, State.setClock, epoch])

theorem State.Regular.takeParts (h : s.Regular) (order : List EpochOwner) : (s.takeParts order).Regular :=
  List.foldlRecOn _ _ h fun _ regular o _ => regular.takePart o

/-- The next epoch begins at once, R38. -/
theorem State.Regular.beginEpoch (h : s.Regular) (online : s.line.state = .online) : s.beginEpoch.Regular :=
  .of_online h.ranged h.windowed online rfl h.ranged.newEpoch_fits (h.no_autostart online)

theorem State.Regular.expire (h : s.Regular) (order : List EpochOwner) (online : s.line.state = .online) :
    (s.expire order).Regular := by
  refine (h.takeParts order).beginEpoch ?_
  rw [(takeParts_beside order s).line, online]

theorem State.Regular.finishExpiry (h : s.Regular) : s.finishExpiry.Regular := by
  unfold State.finishExpiry
  split
  · next ends => exact h.expire [] ends.1
  · exact h

/-- The time left of the epoch counts down, log 4. -/
theorem State.Regular.tick (h : s.Regular) : s.tick.Regular := by
  obtain ⟨runs, fits, rest⟩ := h.timed
  have timed (e : Option Epoch) (c : PartsTaken) (runs : e.isSome ↔ s.line.state = .online)
      (fits : e.all Epoch.fits = true) : (s.setClock { epoch := e, taken := c }).Regular := ⟨h.ranged, runs, fits, rest⟩
  have same : s.tick.timing = (s.setClock { s.clock with
      epoch := s.clock.epoch.map fun (e : Epoch) => { e with left := e.left - 1 } }).timing := by
    rw [State.tick, State.countBits_frame]
    rfl
  refine State.Regular.congr (timed _ _ ?_ ?_) same
  · rwa [Option.isSome_map]
  · cases epoch : s.clock.epoch with
    | none => rfl
    | some e =>
      simp only [epoch, Option.all_some, Epoch.fits, Bool.and_eq_true, decide_eq_true_eq, Option.map_some] at fits ⊢
      omega

/-! ## The line state, R143 to R145 -/

theorem State.changeLine_timing (new : LineState) (s : State) :
    (s.changeLine new).timing = (new, s.clock.epoch, s.census, s.params) := by
  unfold State.changeLine
  dsimp only
  split <;> rfl

theorem State.enterPhase_timing (ph : LinePhase) (s : State) : (s.enterPhase ph).timing = s.timing := rfl

theorem State.freezeClock_timing (s : State) : s.freezeClock.timing = (s.timing.1, none, s.timing.2.2) := rfl

/-- The line in a state that is not ONLINE, the clock frozen, and the rest as it was. -/
theorem State.Regular.goOffline (h : s.Regular) {new : LineState} (offline : new ≠ .online)
    (same : t.timing = (new, none, s.census, s.params)) : t.Regular := by
  have parked : ((s.setLine { s.line with state := new }).freezeClock).Regular :=
    .of_offline h.ranged h.windowed offline rfl
  exact parked.congr same

/-- From one state that is not ONLINE to another the clock stays frozen. -/
theorem State.Regular.changeLine (h : s.Regular) {new : LineState} (before : s.line.state ≠ .online)
    (after : new ≠ .online) : (s.changeLine new).Regular :=
  h.goOffline after (by rw [State.changeLine_timing, h.frozen before])

theorem State.Regular.lineEnable (h : s.Regular) : s.lineEnable.Regular := by
  unfold State.lineEnable
  split
  · next off => exact (h.changeLine (new := .settling) (by simp [off]) (by decide)).congr rfl
  · exact h.congr rfl

theorem State.Regular.lineDisable (h : s.Regular) : s.lineDisable.Regular := by
  have discarded : s.finishExpiry.purgeAll.discardContext.Regular :=
    h.finishExpiry.congr (State.discardContext_timing _)
  unfold State.lineDisable
  generalize s.finishExpiry.purgeAll.discardContext = u at discarded ⊢
  have off : u.lineOff.timing = (u.changeLine .disabled).timing := rfl
  have frozen : (u.lineOff.freezeClock.finish .ok).timing = u.lineOff.freezeClock.timing := rfl
  exact discarded.goOffline (new := .disabled) (by decide)
    (by rw [frozen, State.freezeClock_timing, off, State.changeLine_timing])

/-- What becoming ONLINE starts for the census: an autostart is pending no more, R119 and R121. -/
theorem State.Regular.censusOnline {e : Epoch} (ranged : s.Ranged) (windowed : s.census.Windowed)
    (online : s.line.state = .online) (epoch : s.clock.epoch = some e) (fits : e.fits = true) :
    s.censusOnline.Regular := by
  cases pending : s.census.autostart with
  | true =>
    have begun : (s.setCensus { s.census with autostart := false }).Regular :=
      .of_online ranged windowed online epoch fits rfl
    rw [State.censusOnline_autostart pending]
    exact begun.beginCensus
  | false =>
    have regular : s.Regular := .of_online ranged windowed online epoch fits pending
    cases mode : s.census.mode with
    | serving => rwa [State.censusOnline_serving pending mode]
    | census =>
      rw [State.censusOnline_census pending mode]
      exact regular.congr s.queueCensus_timing

/-! ## The host's commands -/

theorem State.Regular.setParameter (h : s.Regular) : s.setParameter.Regular := by
  unfold State.setParameter
  dsimp only
  split
  · split <;> exact h.congr rfl
  · split
    · next q taken =>
      have tuned : (s.setParams q).Regular := ⟨Params.set_inRange taken h.ranged, h.timed⟩
      exact tuned.congr rfl
    · exact h.congr rfl

theorem State.Regular.clearDirectory (h : s.Regular) : s.clearDirectory.Regular :=
  State.Regular.congr (h.withCensus (.serving s.census.autostart) id) rfl

theorem State.Regular.startCensus (h : s.Regular) : s.startCensus.Regular := by
  unfold State.startCensus
  split
  · exact h.beginCensus.congr rfl
  · exact h.congr rfl

theorem State.Regular.endCensus (h : s.Regular) : s.endCensus.Regular := by
  unfold State.endCensus
  split
  · exact h.finishCensus.congr rfl
  · exact h.congr rfl

theorem State.Regular.body (h : s.Regular) (code : Nat) : (commandBody code s).Regular := by
  unfold commandBody
  split
  · exact h.setParameter
  · exact h.congr rfl
  · exact h.congr rfl
  · exact h.congr rfl
  · exact h.congr (State.reserveOne_timing _ s)
  · exact h.congr s.loadReservations_timing
  · exact h.congr (State.withRecord_timing State.releaseRecord_timing s)
  · exact h.clearDirectory
  · exact h.congr (State.withRecord_timing State.evictRecord_timing s)
  · exact h.congr (State.withRecord_timing State.pinRecord_timing s)
  · exact h.congr (State.withRecord_timing State.unpinRecord_timing s)
  · exact h.congr s.award_timing
  · exact h.startCensus
  · exact h.endCensus
  · exact h.congr s.startSweep_timing
  · exact h.congr rfl
  · exact h.congr s.groupAssign_timing
  · exact h.congr s.groupRemove_timing
  · exact h.congr s.readGroup_timing
  · exact h.congr s.setGroupMode_timing
  · exact h.congr s.clearGroup_timing
  · exact h.lineEnable
  · exact h.lineDisable
  · exact h.congr s.setBitRate_timing
  · exact h.congr s.readRecord_timing
  · exact h.congr s.readDirectory_timing
  · exact h.congr rfl
  · exact h.congr rfl
  · exact h.congr rfl
  · exact h.congr rfl

theorem State.Regular.takeCode (h : s.Regular) (code : Byte) :
    (s.takeCommand code (commandBody code.toNat)).Regular := by
  unfold State.takeCommand
  split
  · exact h.congr rfl
  · have taken : (s.taken code).Regular := h.congr rfl
    exact taken.body code.toNat

theorem State.Regular.writeCode (h : s.Regular) (code : Byte) : (s.writeCode code).Regular := by
  unfold State.writeCode
  split
  · exact h.congr rfl
  · exact h.takeCode code

theorem State.Regular.transaction (h : s.Regular) (header : Byte) (data : List Byte) :
    (s.transaction header data).Regular := by
  unfold State.transaction
  split
  · unfold State.windowWrite
    split
    · exact h
    split
    · exact h.congr rfl
    split
    · exact h.writeCode _
    split
    · exact h.congr rfl
    split
    · exact h.congr (State.writePointer_timing ..)
    split
    · exact h.congr (foldl_timing (act := fun u b => u.writeBufferByte b) (fun u b => u.writeBufferByte_timing b) _ _)
    · exact h
  · exact h.congr (foldl_timing (act := fun u _ => u.readWindowByte _) (fun u _ => u.readWindowByte_timing _) _ _)

end Blocks

/-! ## Every command and every step -/

/-- What a command answers is in law. -/
def AnswersRegular (o : Host.Outcome State Fault Refusal) : Prop := ∀ t, o = .next t → t.Regular

theorem State.Regular.answers {t : State} (h : t.Regular) : AnswersRegular (.next t) := fun _ e =>
  Host.Outcome.next.inj e ▸ h

/-- A command that leaves the line state, the epoch, the census and the parameters alone. -/
theorem State.Regular.unmoved {s t : State} (h : s.Regular) (same : t.timing = s.timing) : AnswersRegular (.next t) :=
  (h.congr same).answers

section Rows

variable {s : State}

theorem State.Regular.execTransmitBegin (h : s.Regular) : AnswersRegular (execTransmitBegin s) := by
  unfold Machine.execTransmitBegin
  split
  · split
    · exact h.unmoved rfl
    · exact h.answers
  · exact h.answers

theorem State.Regular.execArbitrationLost (h : s.Regular) : AnswersRegular (execArbitrationLost s) := by
  unfold Machine.execArbitrationLost
  split
  · refine h.unmoved ?_
    split
    · exact State.leaveQueue_timing ..
    · rfl
  · exact h.answers

theorem State.Regular.execEchoDifference (h : s.Regular) : AnswersRegular (execEchoDifference s) := by
  unfold Machine.execEchoDifference
  split
  · exact h.unmoved (State.countAttempt_timing ..)
  · exact h.answers

theorem State.Regular.execAcknowledgeSlot (h : s.Regular) (dominant : Bool) :
    AnswersRegular (execAcknowledgeSlot dominant s) := by
  unfold Machine.execAcknowledgeSlot
  split
  · exact h.unmoved (State.settleSlot_timing ..)
  · exact h.answers

theorem State.Regular.lineOnline (h : s.Regular) : AnswersRegular (exec .lineOnline s) := by
  by_cases settling : s.line.state = .settling
  · rw [exec_lineOnline settling]
    exact (State.Regular.censusOnline (s := s.wentOnline) h.ranged h.windowed rfl rfl h.ranged.newEpoch_fits).answers
  · have idle : exec .lineOnline s = .next s := if_neg settling
    rw [idle]
    exact h.answers

theorem State.Regular.execLineFault (h : s.Regular) : AnswersRegular (execLineFault s) := by
  have cut : s.finishExpiry.cutOff.Regular := h.finishExpiry.congr (State.cutOff_timing _)
  unfold Machine.execLineFault
  split
  · generalize s.finishExpiry.cutOff = u at cut ⊢
    exact (cut.goOffline (new := .fault) (by decide)
      (by rw [State.freezeClock_timing, State.enterPhase_timing, State.changeLine_timing])).answers
  · exact h.answers

theorem State.Regular.execFaultRecovery (h : s.Regular) : AnswersRegular (execFaultRecovery s) := by
  unfold Machine.execFaultRecovery
  split
  · next fault => exact (h.changeLine (new := .settling) (by simp [fault]) (by decide)).unmoved rfl
  · exact h.answers

theorem State.Regular.execEpochExpiry (h : s.Regular) (order : List EpochOwner) :
    AnswersRegular (execEpochExpiry order s) := by
  unfold Machine.execEpochExpiry
  split
  · next online => exact (h.expire order online).answers
  · exact h.answers

/-- The rows that name what comes about inside an expiry run their owner's part, or nothing. -/
theorem State.Regular.row (h : s.Regular) {a : Byte} {o : EpochOwner} {c : Instr} (row : RowOf a c o) :
    AnswersRegular (exec c s) := by
  rcases exec_row_cases row s with idle | ⟨-, part⟩
  · rw [idle]
    exact h.answers
  · rw [part]
    exact (h.takePart o).answers

theorem State.Regular.execOfferWaitExpiry (h : s.Regular) (address : Byte) :
    AnswersRegular (execOfferWaitExpiry address s) := by
  have expired (r : Record) (o : OfferContext) : (s.expireOffer r o).timing = s.timing := by
    unfold State.expireOffer
    split
    · exact State.endRecord_timing ..
    · rfl
    · split
      · rfl
      · exact State.lapseRecord_timing ..
  unfold Machine.execOfferWaitExpiry
  split
  · split
    · refine h.unmoved ?_
      split
      · exact expired ..
      · rfl
    · exact h.answers
  · exact h.answers

theorem State.Regular.execProbeWaitExpiry (h : s.Regular) : AnswersRegular (execProbeWaitExpiry s) := by
  unfold Machine.execProbeWaitExpiry
  split
  · split
    · exact h.unmoved (State.endAttempt_timing ..)
    · exact h.answers
  · exact h.answers

theorem State.Regular.execProbeChoose (h : s.Regular) : AnswersRegular (execProbeChoose s) := by
  refine h.unmoved ?_
  split
  · exact s.choose_timing
  · rfl

theorem State.Regular.execLineIdle (h : s.Regular) : AnswersRegular (execLineIdle s) := by
  unfold Machine.execLineIdle
  split
  · exact h.unmoved rfl
  · exact h.answers

theorem State.Regular.execStartMarkReceived (h : s.Regular) : AnswersRegular (execStartMarkReceived s) := by
  unfold Machine.execStartMarkReceived
  split
  · exact h.unmoved rfl
  · exact h.answers

theorem State.Regular.execDestinationFieldRead (h : s.Regular) (destination : Byte) :
    AnswersRegular (execDestinationFieldRead destination s) := by
  unfold Machine.execDestinationFieldRead
  split
  · exact h.unmoved (State.readDestination_timing destination.toNat s)
  · exact h.answers

/-- Part reset meets the laws whatever stood before it: an autostart is pending on a line that is SETTLING, R119 and
R146. -/
theorem execPartReset_regular (f g a e : Bool) (s : State) : AnswersRegular (execPartReset f g a e s) := by
  have offline : (Line.afterReset (strapRate f g) a e).state ≠ .online := by cases a <;> exact nofun
  have ranged : Params.reset.inRange = true := by decide
  exact State.Regular.answers (.of_offline ranged (.serving a) offline rfl)

end Rows

theorem State.Regular.exec {s : State} (h : s.Regular) (c : Instr) : AnswersRegular (exec c s) := by
  have host (code : Byte) : AnswersRegular (.next (s.takeCommand code (commandBody code.toNat))) :=
    (h.takeCode code).answers
  have received (f : Frame) : AnswersRegular (.next (s.receiveFrame f)) := h.unmoved (s.receiveFrame_timing f)
  cases c with
  | partReset f g a e => exact execPartReset_regular f g a e s
  | frameInvalid cause => exact h.unmoved (s.receiveInvalid_timing cause)
  | frameHeard | foreignDirectoryFrame | join | accept | renew | leave | clashReport | probeReply | resolveIdentity
  | resolveAddress | claim | groupJoin | groupLeave | groupExpand => exact received _
  | transmitBegin => exact h.execTransmitBegin
  | arbitrationLost => exact h.execArbitrationLost
  | echoDifference => exact h.execEchoDifference
  | acknowledgeSlot dominant => exact h.execAcknowledgeSlot dominant
  | waitingClaimGranted => exact h.unmoved s.grantWaiting_timing
  | lineOnline => exact h.lineOnline
  | lineFault => exact h.execLineFault
  | faultRecovery => exact h.execFaultRecovery
  | epochExpiry order => exact h.execEpochExpiry order
  | lapse address => exact h.row (a := address) (o := .leaseDirectory) (.inl rfl)
  | disputeHoldExpiry address => exact h.row (a := address) (o := .leaseDirectory) (.inr rfl)
  | quarantineHoldExpiry => exact h.row (a := 0) (o := .addressPool) rfl
  | censusWindowEnd => exact h.row (a := 0) (o := .censusUnit) rfl
  | offerWaitExpiry address => exact h.execOfferWaitExpiry address
  | probeWaitExpiry => exact h.execProbeWaitExpiry
  | probeChoose => exact h.execProbeChoose
  | setParameter | readParameters | readSummary | acknowledgeAttention | reserve | loadReservations
  | releaseReservation | clearDirectory | evict | pin | unpin | award | startCensus | endCensus | startSweep | stopSweep
  | groupAssign | groupRemove | readGroup | setGroupMode | clearGroup | lineEnable | lineDisable | setBitRate
  | readRecord | readDirectory | collectChanges | readFreeList | readQuarantine => exact host _
  | portRestart => exact h.unmoved rfl
  | badCommand code => exact (h.writeCode code).answers
  | commandWriteWhileBusy code => exact (h.writeCode code).answers
  | bufferDataRead => exact h.unmoved rfl
  | bufferDataWrite data => exact h.unmoved (s.writeBufferByte_timing data)
  | attentionEnablesWrite data => exact h.unmoved rfl
  | registerWrite header data => exact (h.transaction header data).answers
  | lineIdle => exact h.execLineIdle
  | startMarkReceived => exact h.execStartMarkReceived
  | destinationFieldRead destination => exact h.execDestinationFieldRead destination

/-- Settles O14: every command and 5 ms of time keep the parameters, the clock and the mode in law. -/
theorem parametersClockAndModeStayInLaw : Obligations.ParametersClockAndModeStayInLaw := by
  intro s t ranged timed stepped
  have start : s.Regular := ⟨ranged, timed⟩
  suffices t.Regular from ⟨this.ranged, this.timed⟩
  unfold step at stepped
  split at stepped
  · next c rest _ =>
    have taken : State.Regular { s with pending := rest } := start.congr rfl
    exact taken.exec c t stepped
  · exact start.tick.answers t stepped

end Sys2Proof.Machine
end
